-- ==== Sys2Proof/Word.lean ====
section
/-! DEFINITION. The plainest types: bytes, the access codes and reset classes of the register tables, one register
field, and the sorted store of (key, value) pairs that registers and memory are held in. -/
namespace Sys2Proof

/-- One byte of a frame, a memory or an entry. -/
abbrev Byte := BitVec 8

/-- Table 00-4: what a read and a write of a field do (R10). -/
inductive Access where
  | rw | ro | wo | w1c | w1s | sc | rwl
  deriving DecidableEq, Repr

/-- Table 00-5: the reset classes. The bit of a class in `Field.classes` is `ResetClass.bit`. -/
inductive ResetClass where
  | A | B | P | W | T | S | L | X
  deriving DecidableEq, Repr

/-- The bit number of a class in a field's set of classes. -/
def ResetClass.bit : ResetClass → Nat
  | .A => 0 | .B => 1 | .P => 2 | .W => 3 | .T => 4 | .S => 5 | .L => 6 | .X => 7

/-- One field of a register table (R10 to R16, R875). `id` is 256 × block + running number. Instance `i` of an indexed
register lies at `addr + (i / inner) × stride + (i % inner) × istride`. `vals` lists the values a write may store, as
inclusive ranges of the raw field value; empty: every value. `hostLevel` is the lowest host level that may write it. -/
structure Field where
  id : Nat
  addr : Nat
  lo : Nat
  width : Nat
  acc : Access
  reset : Nat
  classes : Nat
  more : List (Nat × Nat) := []
  vals : List (Nat × Nat) := []
  count : Nat := 1
  stride : Nat := 0
  inner : Nat := 1
  istride : Nat := 0
  banked : Bool := false
  live : Bool := false
  hostLevel : Option Nat := none
  secOnly : Bool := false
  prot : Bool := false
  windowOnly : Bool := false
  deriving DecidableEq, Repr

/-- The block a field belongs to (Table 01-1). -/
def Field.block (f : Field) : Nat := f.id / 256

/-- The reset value of instance `i`: the last entry of `more` that starts at or below `i`, else `reset`. -/
def Field.resetAt (f : Field) (i : Nat) : Nat :=
  f.more.foldl (fun v p => if p.1 ≤ i then p.2 else v) f.reset

/-- The address of instance `i`. -/
def Field.addrAt (f : Field) (i : Nat) : Nat :=
  f.addr + (i / f.inner) * f.stride + (i % f.inner) * f.istride

/-- R875: whether a raw value is in the field's set. -/
def Field.accepts (f : Field) (v : Nat) : Bool :=
  f.vals.isEmpty || f.vals.any (fun r => decide (r.1 ≤ v) && decide (v ≤ r.2))

/-- The store key of instance `i` of a field, as bank `b` (a master number for banked registers, else 0) sees it. The
set of reset classes rides in the key, so that a reset filters the store by key alone. -/
def Field.key (f : Field) (i b : Nat) : Nat :=
  ((f.id * 65536 + i % 65536) * 8 + b % 8) * 256 + f.classes % 256

/-- The value at a key of a sorted store; `d` is what an unlisted key reads as. -/
def storeGet {α : Type} (d : α) : List (Nat × α) → Nat → α
  | [], _ => d
  | (k', v) :: t, k => if k < k' then d else if k = k' then v else storeGet d t k

/-- Write one key of a sorted store, keeping its one canonical form: keys strictly rising, no entry equal to `d`. -/
def storeSet {α : Type} [DecidableEq α] (d : α) : List (Nat × α) → Nat → α → List (Nat × α)
  | [], k, v => if v = d then [] else [(k, v)]
  | (k', v') :: t, k, v =>
    if k < k' then (if v = d then (k', v') :: t else (k, v) :: (k', v') :: t)
    else if k = k' then
      (if v = d then t.dropWhile (fun e => decide (e.1 ≤ k)) else (k, v) :: t)
    else (k', v') :: storeSet d t k v

/-- The low `w` bits of a number. -/
def low (w n : Nat) : Nat := n % 2 ^ w

/-- Bits [lo+w-1 : lo] of a number (R5, R6). -/
def bits (n lo w : Nat) : Nat := n / 2 ^ lo % 2 ^ w

/-- One bit of a number. -/
def bit (n i : Nat) : Bool := n.testBit i

/-- A flag as a number. -/
def ofBool (b : Bool) : Nat := if b then 1 else 0

/-- The `n` little-endian bytes of a number (R7). -/
def leBytes : Nat → Nat → List Byte
  | 0, _ => []
  | n + 1, v => BitVec.ofNat 8 v :: leBytes n (v / 256)

/-- The number that little-endian bytes spell (R7). -/
def ofLe : List Byte → Nat
  | [] => 0
  | b :: t => b.toNat + 256 * ofLe t

/-- The `n` big-endian bytes of a number. -/
def beBytes (n v : Nat) : List Byte := (leBytes n v).reverse

/-- The number that big-endian bytes spell. -/
def ofBe (l : List Byte) : Nat := ofLe l.reverse

/-- A list cut or filled with zero bytes to length `n`. -/
def fit (n : Nat) (l : List Byte) : List Byte := (l ++ List.replicate n 0).take n

/-- `n` bytes of a list from offset `o`, zero where the list has ended. -/
def slice (l : List Byte) (o n : Nat) : List Byte := fit n (l.drop o)

/-- Signed value of a `w`-bit two's complement number. -/
def signed (w n : Nat) : Int := if n % 2 ^ w < 2 ^ (w - 1) then (n % 2 ^ w : Nat) else (n % 2 ^ w : Nat) - (2 ^ w : Nat)

/-- The `w`-bit two's complement of an integer. -/
def unsigned (w : Nat) (i : Int) : Nat := (i % (2 ^ w : Nat)).toNat

/-- A counter of `w` bits that saturates. -/
def satInc (w n : Nat) : Nat := if n + 1 < 2 ^ w then n + 1 else 2 ^ w - 1

end Sys2Proof
end

