-- ==== Sys2Proof/Syntax.lean ====
section
/-! DEFINITION. The commands of spec/opcode_table.json, one constructor a row, in the table's order. Operands are what the
command carries on its bus, frame or pin, and, for an event of the outside world, what the device senses of it. -/
namespace Sys2Proof


/-- One command (a row of the table). -/
inductive Instr where
  /-- REGISTER_WRITE (R10): A master writes a register field that has no behaviour of its own, which stores, ignores or filters the value by its access code and range. -/
  | registerWrite (master addr width value : Nat)
  /-- UNMAPPED_ACCESS (R20): An access outside every range of the address map ends in a bus error with read data 0xDEAD_0FF5 and a decode entry in the bus-fault record. -/
  | unmappedAccess (master addr : Nat) (write : Bool)
  /-- POLICY_ACCESS (R25): An access that Table 01-4, the width rules or a region refuse ends as a policy error. -/
  | policyAccess (master addr width value : Nat) (write : Bool)
  /-- BLOCK_OFF_ACCESS (R852): A bus access to a block that is off completes within 16 cycles with a bus error and BLOCK_OFF. -/
  | blockOffAccess (master addr : Nat) (write : Bool)
  /-- AUTHORITY_WINDOW_EXPIRY (R31): Once 10 ms have passed since the window opened, named writes not yet admitted are dropped. -/
  | authorityWindowExpiry
  /-- COLD_POWER_UP (R137): VSUP or VIO rising through its threshold begins a cold power-up. -/
  | coldPowerUp (vio : Bool)
  /-- AON_POWER_LOSS (R156): The AON supply falling below 2.5 V causes a class A reset. -/
  | aonPowerLoss
  /-- BROWNOUT (R154): VSUP falling below the reset level causes a class B reset, stops the charger and starts the hold-up commit. -/
  | brownout (vmin : Nat)
  /-- HOLDUP_EXHAUSTED (R93): VHOLD falling below 4.0 V stops the hold-up commit. -/
  | holdupExhausted
  /-- HOLDUP_READY_CHANGE (R95): VHOLD crossing the hold-up ready threshold changes HOLDUP_READY and with it the Locket's acceptance mode. -/
  | holdupReadyChange (ready : Bool)
  /-- VIO_UNDERVOLTAGE (R862): VIO below its undervoltage level for 10 µs in run holds the MAIN outputs and makes HIF ignore frames. -/
  | vioUndervoltage
  /-- VIO_RESTORED (R862): Once VIO has been back for 1 ms, the MAIN outputs and HIF frames resume. -/
  | vioRestored
  /-- RESET_N_ASSERT (R867): A RESET_N low that lasts past the detection threshold puts the device into a class P reset. -/
  | resetNAssert
  /-- RESET_N_RELEASE (R867): RESET_N rising ends the class P reset and begins the power-up stages. -/
  | resetNRelease
  /-- PARTNER_RESET (R68): PAIR_RST_N held low for 20 µs by the other device puts this device into a class X reset. -/
  | partnerReset
  /-- PARTNER_RESET_RELEASE (R867): PAIR_RST_N rising ends the class X reset and begins the power-up stages. -/
  | partnerResetRelease
  /-- WP_N_CHANGE (R69): WP_N changing level forbids or again allows the acceptance of new Locket writes. -/
  | wpNChange (low : Bool)
  /-- ENG_RUN_CHANGE (R421): A new filtered level of ENG_RUN moves a WAITING release to RUNNING or starts the RUN_DROP count. -/
  | engRunChange (high : Bool)
  /-- START_BTN_ASSERT (R383): The filtered level of START_BTN asserting latches a START trigger. -/
  | startBtnAssert (level : Bool)
  /-- POWER_UP_STAGE (R136): A power-up stage asserts its ready signal and the next stage begins, or the logic stage completes. -/
  | powerUpStage (recordOk recovLow secondary : Bool)
  /-- BOOT_FAULT (R141): A power-up stage that exceeds its bound puts the device into BOOT_FAULT with its stage code recorded. -/
  | bootFault
  /-- BOOT_FAULT_BLINK (R141): Every 250 ms in BOOT_FAULT, BOOT_STAT alternates between the stage code and 0b000. -/
  | bootFaultBlink
  /-- SOFTWARE_SYSTEM_RESET (R156): PWR_RST_REQ.KEY written with 0xA5 by the security core causes a class S reset. -/
  | softwareSystemReset (master : Nat) (key : BitVec 8)
  /-- LEVEL_CHANGE (R101): A change of the granted performance level starts moving VCORE and the CORE clock in the order that R101 gives. -/
  | levelChange
  /-- LEVEL_CHANGE_DONE (R102): A level change completes, clearing BUSY and applying any LEVEL written meanwhile. -/
  | levelChangeDone
  /-- DROOP_BEGIN (R103): VCORE below 92 % of target for 2 ns halves the CORE clock and counts a droop episode. -/
  | droopBegin
  /-- DROOP_END (R104): VCORE at or above 92 % of target for 1 µs restores the undivided clock. -/
  | droopEnd
  /-- CAPO_SAMPLE (R106): Every 1 ms Capo samples Tj and forms the power estimate. -/
  | capoSample (tj : BitVec 8) (mw : BitVec 12)
  /-- CAPO_STEP_UP (R108): After 100 ms below the limits with hysteresis, Capo raises the caps by one step. -/
  | capoStepUp
  /-- WAKE_EVENT (R115): An enabled wake source in a sleep state wakes the device and records its source and index. -/
  | wakeEvent (src : Fin 9) (index : Fin 16)
  /-- SLEEP_QUERY (R119): Setting PWR_SLEEP_CTL.QUERY asks every MAIN and UWB block whether it is ready to sleep. -/
  | sleepQuery (master : Nat)
  /-- SLEEP_QUERY_RESULT (R119): The blocks' answers set OUTCOME to ready or refused with the lowest refuser and its cause. -/
  | sleepQueryResult
  /-- SLEEP_COMMIT (R121): Setting PWR_SLEEP_CTL.COMMIT stops the blocks in reverse standard order, or is refused. -/
  | sleepCommit (master : Nat)
  /-- SLEEP_ENTRY_COMPLETE (R125): Sleep entry completes and the target state is entered. -/
  | sleepEntryComplete
  /-- DAY_TICK (R126): A whole day passing increments DAYS_ELAPSED. -/
  | dayTick
  /-- STORAGE_LISTEN_TIMEOUT (R129): When the 10 s UHF listening period after a wake in S3 ends without an accepted telegram, the device returns to S3. -/
  | storageListenTimeout
  /-- DIP_BEGIN (R145): VSUP below the warning level begins a supply dip, which caps the level at P3 and stops LF and UWB. -/
  | dipBegin (vsup : Nat)
  /-- DIP_RECOVERY_RISE (R152): VSUP rising above the recovery level starts the 200 µs count that ends the dip. -/
  | dipRecoveryRise (vmin : Nat)
  /-- DIP_END (R153): 200 µs after recovery the dip ends, the cap is removed and a SUPPLY_DIP record is appended. -/
  | dipEnd
  /-- LFA_ENABLE (R212): Setting LFA_CTRL.EN starts the phase reference and pings every enabled channel once to seed its baselines. -/
  | lfaEnable (master : Nat)
  /-- LFA_CARRIER_WRITE (R169): A write of LFA_CARRIER.FREQ takes effect at the first free Fret boundary, without a phase step. -/
  | lfaCarrierWrite (master freq : Nat)
  /-- LFA_STOP (R221): Setting LFA_CTRL.STOP stops the running Q_2 or Q_13 sequence at the next boundary. -/
  | lfaStop (master : Nat)
  /-- FRET_BOUNDARY (R189): At each Fret boundary LFA starts, runs, withholds or ends sequences and pings. -/
  | fretBoundary (driven : List (Nat × Nat)) (sensed : List (Nat × Nat × Nat))
  /-- VDRV_UNDERVOLTAGE (R168): VDRV_b below its undervoltage level stops every channel of the bank within 2 µs. -/
  | vdrvUndervoltage (bank : Fin 4)
  /-- VDRV_RECOVERED (R168): Once VDRV_OK has been set for 1 ms, bank b drives again from the next Fret boundary. -/
  | vdrvRecovered (bank : Fin 4)
  /-- CHANNEL_OVERCURRENT (R200): Coil current at 2.0 A turns the channel off until the Fret ends. -/
  | channelOvercurrent (ch : Fin 16)
  /-- CHANNEL_SETTLE_CHECK (R200): At the 8th driven cycle the channel is judged for OPEN_LOAD, SATURATED and PHASE_ERR. -/
  | channelSettleCheck (ch : Fin 16) (cycle current phase : Nat)
  /-- PING_DUE (R207): The ping period expires and the scheduler's pings wait for the first free boundary. -/
  | pingDue
  /-- PING_RESULT (R206): A ping's ring-down ends and the channel reports DF and Q and updates its baselines. -/
  | pingResult (ch : Fin 16) (df : BitVec 16) (q : BitVec 8)
  /-- PRESENCE_HOLD_EXPIRY (R211): After PRES_HOLD seconds of continuous presence the baselines are re-seeded and STUCK is set. -/
  | presenceHoldExpiry (ch : Fin 16)
  /-- TOUCH_SCAN (R214): TCH measures the capacitance of each enabled channel at its scan period. -/
  | touchScan (c : List (Nat × Nat))
  /-- TOUCH_HOLD_EXPIRY (R217): After 30 s of continuous touch the baseline is re-seeded and TOUCH clears. -/
  | touchHoldExpiry (k : Fin 8)
  /-- LF_RUN (R220): Q_2 LF_RUN runs 1 to 3 descriptors once. -/
  | lfRun
  /-- LF_STOP (R220): Q_2 LF_STOP stops the running Q_2 sequence at the next boundary. -/
  | lfStop
  /-- LF_CAL (R220): Q_13 LF_CAL drives CW Frets on the named channels and reports the mean sensed amplitude and phase. -/
  | lfCal
  /-- LF_STATUS (R220): Q_13 LF_STATUS returns the status and ring registers of every channel. -/
  | lfStatus
  /-- GLT_OPEN (R262): Setting GLT_SESS_CTL.OPEN opens a Gelet session on a template, or refuses it. -/
  | gltOpen (master : Nat) (template : Fin 16)
  /-- GLT_ABORT (R273): Setting GLT_SESS_CTL.ABORT ends the session at the next Fret boundary with cause 2. -/
  | gltAbort (master : Nat)
  /-- SESSION_OPEN (R409): Q_1 SESSION_OPEN opens a session and completes when the session completes. -/
  | sessionOpen
  /-- WAKE (R234): GLT sends a WAKE downlink frame that opens the first round. -/
  | wake
  /-- ROUND (R247): GLT sends a ROUND frame that lists the selected handles and opens a new round. -/
  | round
  /-- CHALLENGE (R253): GLT sends a CHALLENGE to the selected handles, with a NONCE and proof slot length S. -/
  | challenge
  /-- MEASURE (R254): GLT sends MEASURE to announce a further group of bursts. -/
  | measure
  /-- REPORT (R252): GLT sends REPORT to ask a token for its burst measurements. -/
  | report
  /-- HALT (R263): GLT sends HALT to one handle or to every token of the session. -/
  | halt
  /-- REPEAT (R260): GLT sends REPEAT to a handle whose awaited reply was missing, bad or out of window. -/
  | repeatReply
  /-- RELEASE (R260): GLT sends RELEASE to a handle whose PROOF attempts are exhausted, and the handle counts as released. -/
  | release
  /-- NEXT_SLOT (R244): In passive mode GLT sends NEXT_SLOT to open the next reply window. -/
  | nextSlot
  /-- HANDLE_REPLY (R245): A HANDLE uplink frame is received and judged for its slot. -/
  | handleReply (rx : Fin 3) (start : Nat) (rssi : BitVec 8) (frame : List Byte)
  /-- PROOF_REPLY (R282): A PROOF uplink frame is received and handed to the proof check. -/
  | proofReply (rx : Fin 3) (start : Nat) (rssi : BitVec 8) (frame : List Byte)
  /-- PROOF_CHECK_DONE (R283): The proof check completes with an outcome of Table 06-3 and one Q_40 entry. -/
  | proofCheckDone
  /-- LOCKOUT_END (R307): A lockout's duration expires and the end is journaled. -/
  | lockoutEnd (place : Fin 129)
  /-- LOCKOUT_CLR_DEVICE (R313): GLT_LOCKOUT_CLR.DEVICE written under R29 ends the device lockout. -/
  | lockoutClrDevice (master : Nat)
  /-- LOCKOUT_CLR_CRED (R313): GLT_LOCKOUT_CLR.CRED written under R29 ends the lockout of INDEX. -/
  | lockoutClrCred (master : Nat) (index : Fin 4096)
  /-- LOCKOUT_CLR_ALL (R313): GLT_LOCKOUT_CLR.ALL written under R29 ends every lockout. -/
  | lockoutClrAll (master : Nat)
  /-- REPORT_REPLY (R259): A REPORT uplink frame is received and its bursts are entered on Q_42. -/
  | reportReply (rx : Fin 3) (start : Nat) (rssi : BitVec 8) (frame : List Byte)
  /-- BUTTON_TELEGRAM (R294): A valid BUTTON frame is checked against the rows of Table 06-5. -/
  | buttonTelegram (rx : Fin 2) (rssi : BitVec 8) (frame : List Byte)
  /-- TELEGRAM_COUNTER_ACCEPTED (R297): The Locket accepts a telegram's counter write, and the telegram is passed on or completes row 6. -/
  | telegramCounterAccepted
  /-- PENDING_LAPSE (R295): A pending button entry lapses 5.0 s after reception. -/
  | pendingLapse (cred : Nat)
  /-- SLOT_END (R245): An anticollision slot or reply window ends and is classified EMPTY, SINGLE or COLLISION. -/
  | slotEnd (energy : Bool)
  /-- REPLY_TIMEOUT (R260): An awaited reply fails to arrive within its window, leading to REPEAT, RELEASE or HALT. -/
  | replyTimeout
  /-- SESSION_TIMEOUT (R263): T_MAX is reached and the session ends with unfinished tokens dropped. -/
  | sessionTimeout
  /-- SNIFF_WINDOW (R269): A UHF sniff window of 9 ms opens at the sniff period. -/
  | sniffWindow (energy : Bool)
  /-- SNIFF_EXTENSION_END (R269): An extended sniff listen ends 17 ms after its window opened. -/
  | sniffExtensionEnd
  /-- UHF_JAM (R271): RSSI above THRESH for 50 ms without a valid frame sets JAM. -/
  | uhfJam (rx : Fin 2) (rssi : BitVec 8)
  /-- UHF_JAM_CLEAR (R271): RSSI below THRESH for 50 ms clears JAM. -/
  | uhfJamClear (rx : Fin 2) (rssi : BitVec 8)
  /-- UHF_LOCK_LOST (R272): A UHF synthesiser loses lock. -/
  | uhfLockLost (rx : Fin 2)
  /-- GLT_ERR_CLR (R273): Writing 1 to GLT_ERR_CLR.CLR clears GLT_ERR. -/
  | gltErrClr (master : Nat)
  /-- RANGE_REQ (R326): Setting UWB_RANGE_CTL.REQ requests a ranging block for a handle. -/
  | rangeReq (master : Nat) (handle : BitVec 16)
  /-- RANGING_BLOCK_START (R329): UWB starts a waiting ranging block. -/
  | rangingBlockStart (selfTest : BitVec 4)
  /-- POLL (R329): At its scheduled instant, a port transmits an SP3 poll. -/
  | poll (tx : BitVec 40)
  /-- RESPONSE_RECEIVED (R338): A response is received at a port and accepted or rejected. -/
  | responseReceived (port : Fin 4) (rx : BitVec 40) (qual : BitVec 8) (fpDiff lead : Nat) (eps : Int) (fpPwr : BitVec 8) (phase : Int)
  /-- BLOCK_END (R347): A ranging block ends and each named port yields one Q_41 entry. -/
  | blockEnd
  /-- UWB_SYNTH_LOCK_LOST (R346): The UWB synthesiser loses lock during a block, and its ports complete with cause 6. -/
  | uwbSynthLockLost
  /-- UWB_CAL (R360): Q_3 UWB_CAL ranges a calibration responder and reports mean round trips and phase differences. -/
  | uwbCal (rx : List (Nat × Nat × Int × Int × Int))
  /-- UWB_SCAN (R360): Q_3 UWB_SCAN measures the noise floor and peak power per port. -/
  | uwbScan
  /-- UWB_STATUS (R360): Q_3 UWB_STATUS returns UWB_STAT and the port status registers. -/
  | uwbStatus
  /-- UWB_ERR_CLR (R361): Writing 1 to UWB_ERR_CLR.CLR clears UWB_ERR. -/
  | uwbErrClr (master : Nat)
  /-- SOLVE_COMPLETE (R373): LOC enters a position on Q_43. -/
  | solveComplete
  /-- TRIGGER_EXPIRY (R383): A latched trigger stops standing 1,000 ms after it was latched. -/
  | triggerExpiry
  /-- VRD_PROPOSE (R385): Setting VRD_PROPOSE.GO submits a core's proposal of a verdict type and session. -/
  | vrdPropose (master : Nat) (typ : BitVec 3)
  /-- PROPOSE (R409): Q_1 PROPOSE submits a host proposal that completes at its decision point. -/
  | propose
  /-- VERDICT_STATUS (R409): Q_1 VERDICT_STATUS returns VRD_RESULT, VRD_RESULT_CRED and VRD_TRIG. -/
  | verdictStatus
  /-- VERDICT_DEADLINE (R389): A verdict type's deadline after its trigger expires. -/
  | verdictDeadline (start : Bool)
  /-- DECISION (R389): At the decision point VRD judges the tokens and completes the proposal. -/
  | decision
  /-- TICKET_TAKE (R415): GOV takes the next ticket from Q_44 and judges it against Table 09-2. -/
  | ticketTake
  /-- GRANT_COUNTER_ACCEPTED (R416): The Locket accepts the raised grant counter, and GOV has AEA seal the Signet. -/
  | grantCounterAccepted
  /-- SIGNET_SEALED (R416): The Signet is sealed, and GOV asserts the release for START and enters the Signet request on Q_45 in one cycle. -/
  | signetSealed
  /-- START_WAIT_EXPIRY (R422): A WAITING release reaches START_WAIT and is deasserted. -/
  | startWaitExpiry
  /-- RUN_DROP_EXPIRY (R422): ENG_RUN low for RUN_DROP × 10 ms ends a RUNNING release. -/
  | runDropExpiry
  /-- OUTPUT_READBACK (R423): GOV reads back the release outputs 20 µs after each change and every 1 ms. -/
  | outputReadback (a b : Bool)
  /-- SIGNET_TRANSMITTED (R435): A Signet copy is transmitted on its controller. -/
  | signetTransmitted (c : Fin 2)
  /-- SIGNET_REPEAT (R434): 10 ms after the last copy, the next identical Signet copy is queued. -/
  | signetRepeat (c : Fin 2)
  /-- SIGNET_ABANDON (R435): A Signet copy not transmitted within 50 ms is abandoned and recorded. -/
  | signetAbandon (c : Fin 2)
  /-- CAN_FRAME_RECEIVED (R438): A CAN controller receives a frame that may pass its filters. -/
  | canFrameReceived (c : Fin 2) (id : BitVec 29) (xtd fd brs : Bool) (data : List Byte)
  /-- CAN_BUS_OFF_RECOVERY (R438): A bus-off controller recovers after 128 × 11 recessive bits. -/
  | canBusOffRecovery (c : Fin 2)
  /-- CAN_SEND (R734): Q_12 CAN_SEND transmits a frame and completes at transmission. -/
  | canSend
  /-- CAN_RECV (R735): Q_12 CAN_RECV arms a filter and completes with the next frame that passes it. -/
  | canRecv
  /-- CAN_STATUS (R732): Q_12 CAN_STATUS returns CAN_STAT. -/
  | canStatus
  /-- PRIV_CHALLENGE (R455): Q_10 PRIV_CHALLENGE returns a fresh challenge and the device number. -/
  | privChallenge
  /-- PRIV_PROVE (R456): Q_10 PRIV_PROVE verifies a signature over the challenge and grants MAKER or OPERATOR. -/
  | privProve
  /-- PRIV_DRIVER (R458): Q_10 PRIV_DRIVER grants DRIVER for the credential of a recently proved handle. -/
  | privDriver
  /-- PRIV_DROP (R451): Q_10 PRIV_DROP returns the host to PUBLIC. -/
  | privDrop
  /-- PRIVILEGE_EXPIRY (R449): The holding time of a privilege level expires. -/
  | privilegeExpiry
  /-- AUTH_COMMAND (R460): Q_10 AUTH_COMMAND checks an authority command and applies its writes or anchor rotation. -/
  | authCommand
  /-- ANCHOR_GET (R502): Q_10 ANCHOR_GET returns both anchor keys and the counter. -/
  | anchorGet
  /-- HALLMARK_GET (R478): Q_10 HALLMARK_GET returns the certificate, the transport public key and the attestation. -/
  | hallmarkGet
  /-- DEVICE_ATTEST (R477): Q_10 DEVICE_ATTEST returns a Hallmark signature over a caller challenge. -/
  | deviceAttest
  /-- KEY_LOAD (R498): Q_10 KEY_LOAD unwraps and loads a key into a slot, or puts the slot in DRAINING. -/
  | keyLoad
  /-- KEY_LOAD_TAKES_EFFECT (R499): The last in-flight operation on a DRAINING slot completes, and the new key takes effect. -/
  | keyLoadTakesEffect (slot : Fin 256)
  /-- KEY_ZEROIZE (R870): Q_10 KEY_ZEROIZE zeroizes one slot for an issuer that holds its OWNER level. -/
  | keyZeroize
  /-- KEY_ZEROIZE_SLOT (R500): KEY_ZEROIZE written with key 0x5A zeroizes the named slot. -/
  | keyZeroizeSlot (master : Nat) (slot key : BitVec 8)
  /-- KEY_ZEROIZE_ALL (R500): KEY_ZEROIZE.ALL zeroizes slots 0 to 247 and 255. -/
  | keyZeroizeAll (master : Nat)
  /-- KEY_INFO (R502): Q_10 KEY_INFO returns a slot's info and use count. -/
  | keyInfo
  /-- SET_LEARN (R468): Q_9 SET_LEARN checks an issued credential set and writes the stored bank. -/
  | setLearn
  /-- SET_STATUS (R502): Q_9 SET_STATUS returns CRD_STAT and CRD_GEN. -/
  | setStatus
  /-- SET_SWITCH (R472): At a quiet point CRD switches the credential selector and moves the lockouts. -/
  | setSwitch
  /-- LEARN_QUIET_TIMEOUT (R469): No quiet point within 2 s ends the learning with cause 11. -/
  | learnQuietTimeout
  /-- LEARN_PARTNER_TIMEOUT (R474): A partner that has not reported its bank within 5 s leads the active device to switch alone, DEGRADED. -/
  | learnPartnerTimeout
  /-- AEAD_OP_COMPLETE (R509): An AEAD engine finishes an operation and releases its output. -/
  | aeadOpComplete (engine : Fin 2)
  /-- BULK_SUSPEND (R518): A BULK operation is suspended so that a waiting higher-class request can run. -/
  | bulkSuspend (engine : Fin 2)
  /-- PKE_OP_COMPLETE (R521): PKE finishes an operation. -/
  | pkeOpComplete (checkOk : Bool)
  /-- HSH_OP_COMPLETE (R526): HSH finishes a SHA-256 message. -/
  | hshOpComplete (ring : Fin 2)
  /-- HEALTH_TEST_FAIL (R529): An entropy health test fails and RNG enters RESTART or FAILED. -/
  | healthTestFail (raw : BitVec 1024)
  /-- RNG_RESTART (R533): Every 1,000 ms in FAILED or UNSEEDED a restart runs. -/
  | rngRestart (raw : BitVec 1024)
  /-- RESEED (R531): The general DRBG reseeds after RESEED_MS or 65,536 requests. -/
  | reseed
  /-- MASK_RESEED (R532): The mask DRBG reseeds from the general DRBG every 2^20 cycles. -/
  | maskReseed
  /-- RNG_STARTUP_DONE (R534): The start-up test completes and the DRBGs are instantiated. -/
  | rngStartupDone (raw : BitVec 1024)
  /-- SELF_TEST_DONE (R539): The known-answer tests of AEA, HSH and RNG complete. -/
  | selfTestDone (aea0 aea1 hsh rng : Bool)
  /-- PKE_KAT (R540): After a wake, PKE runs its known-answer test at its first idle moment. -/
  | pkeKat (ok : Bool)
  /-- KEYGEN_TIMEOUT (R537): Key generation that has waited 1,000 ms for RNG OK completes with cause 15. -/
  | keygenTimeout
  /-- AEAD_SEAL (R545): A Q_4 or Q_5 AEAD_SEAL seals a range under a slot. -/
  | aeadSeal (ring : Fin 2)
  /-- AEAD_OPEN (R509): A Q_4 or Q_5 AEAD_OPEN opens and verifies a range under a slot. -/
  | aeadOpen (ring : Fin 2)
  /-- HASH (R527): A Q_4 or Q_5 HASH computes SHA-256 of a range. -/
  | hash (ring : Fin 2)
  /-- SIGN (R525): A Q_4 or Q_5 SIGN signs a digest under a slot. -/
  | sign (ring : Fin 2)
  /-- VERIFY (R523): A Q_4 or Q_5 VERIFY checks a signature under a given public key. -/
  | verify (ring : Fin 2)
  /-- ECDH (R523): A Q_4 or Q_5 ECDH writes the shared x-coordinate with a slot's key. -/
  | ecdh (ring : Fin 2)
  /-- RANDOM (R531): A Q_4 or Q_5 RANDOM writes DRBG bytes. -/
  | random (ring : Fin 2)
  /-- CRYPTO_STATUS (R542): A Q_4 or Q_5 CRYPTO_STATUS returns the engine status registers. -/
  | cryptoStatus (ring : Fin 2)
  /-- RNG_RAW (R542): Q_13 RNG_RAW writes raw entropy bits. -/
  | rngRaw
  /-- CRYPTO_BULK_WAIT_EXPIRY (R547): A crypto command not started within BULK_WAIT completes with REFUSED_FULL, cause 7. -/
  | cryptoBulkWaitExpiry (ring : Fin 2)
  /-- AEA_ERR_CLR (R549): Writing 1 to AEA_ERR_CLR.CLR clears AEA_ERR_e and AEA_MASK. -/
  | aeaErrClr (master : Nat)
  /-- LOCKET_WINDOW_WRITE (R568): A write through the Locket window updates the shadow and the backlog. -/
  | locketWindowWrite (master addr width value : Nat)
  /-- LOCKET_ACCEPT (R571): A waiting Locket write becomes accepted, or is refused, and its writer proceeds. -/
  | locketAccept
  /-- COMMIT_RECORD (R581): The commit engine finishes programming and verifying a stream record of the oldest backlog entry. -/
  | commitRecord (ok : Bool)
  /-- RECLAIM (R583): A stream reclaims its oldest sector into the reserve and erases it. -/
  | reclaim (stream : Fin 4) (eraseOk : Bool)
  /-- MOUNT_REPAIR (R589): The engine rewrites missing stream copies and finishes any interrupted reclaim, waiting while WP_N is low. -/
  | mountRepair
  /-- LKT_UNLOCK_GO (R564): Setting LKT_UNLOCK.GO hashes the banked password and grants the region on a match. -/
  | lktUnlockGo (master : Nat)
  /-- LKT_UNLOCK_RELOCK (R565): Writing LKT_UNLOCK.RELOCK ends the master's grant for REGION and KIND. -/
  | lktUnlockRelock (master : Nat)
  /-- LOCKET_GRANT_EXPIRY (R565): A region grant ends 30 min after it was given. -/
  | locketGrantExpiry
  /-- RING_UPDATE (R593): Setting LKT_RING_CTL.GO writes a new ring value to both ring zones. -/
  | ringUpdate (master : Nat)
  /-- LKT_READ (R604): Q_6 LKT_READ reads Locket bytes to a destination. -/
  | lktRead
  /-- LKT_WRITE (R569): Q_6 LKT_WRITE makes a page write into the Locket. -/
  | lktWrite
  /-- LKT_UNLOCK (R564): Q_6 LKT_UNLOCK unlocks a region with a password. -/
  | lktUnlock
  /-- LKT_RELOCK (R565): Q_6 LKT_RELOCK ends a region grant. -/
  | lktRelock
  /-- LKT_FLUSH (R868): Q_6 LKT_FLUSH completes when the issuer's accepted writes are committed and closed by an INDEX record. -/
  | lktFlush
  /-- LKT_STATUS (R604): Q_6 LKT_STATUS returns LKT_STAT, LKT_MOUNT and LKT_WEAR. -/
  | lktStatus
  /-- LKT_RING_READ (R594): Q_6 LKT_RING_READ returns a ring's value, depth and passes. -/
  | lktRingRead
  /-- LKT_ERR_CLR (R606): Writing 1 to LKT_ERR_CLR.CLR clears LKT_ERR. -/
  | lktErrClr (master : Nat)
  /-- JOURNAL_ASSIGN (R617): JNL assigns SEQ and TIME to the next record from Q_46 or Q_7 and fills its slot. -/
  | journalAssign
  /-- JOURNAL_FLUSH_TIMER (R622): The oldest unprogrammed record reaching FLUSH_MS programs the open page's filled sectors. -/
  | journalFlushTimer
  /-- PROGRAM_COMPLETE (R623): A NAND program completes, and its records are accepted. -/
  | programComplete (ok : Bool)
  /-- NAND_ERASE_COMPLETE (R633): A block erase for reuse completes, or fails and the block is retired. -/
  | nandEraseComplete (ok : Bool)
  /-- SEAL_GO (R629): Setting JNL_SEAL_CTL.GO hands PKE the message of the oldest unsigned SEAL_HEAD. -/
  | sealGo (master : Nat)
  /-- JOURNAL_MOUNT (R639): JNL completes its mount, finds the head and ACK_NEXT, and appends a BOOT record or formats. -/
  | journalMount (nandOk : Bool)
  /-- JOURNAL_FORMAT (R642): JNL_ADMIN.KEY written with 0xF0 under R29 erases the journal and appends a FORMAT record. -/
  | journalFormat (master : Nat)
  /-- APPEND (R621): Q_7 APPEND adds a record and completes at acceptance. -/
  | append
  /-- SEAL (R649): Q_7 SEAL requests a SEAL_HEAD at the next SEQ. -/
  | seal
  /-- FLUSH (R648): Q_7 FLUSH completes when every earlier-assigned record is accepted. -/
  | flush
  /-- EXPORT (R644): Q_8 EXPORT reads and seals a batch of records. -/
  | exportBatch
  /-- EXPORT_ACK (R645): Q_8 EXPORT_ACK advances ACK_NEXT past a remembered batch. -/
  | exportAck
  /-- DRIVER_READ (R647): Q_8 DRIVER_READ returns the records about the DRIVER credential. -/
  | driverRead
  /-- JNL_STATUS (R648): Q_8 JNL_STATUS returns the journal's state and counters. -/
  | jnlStatus
  /-- JNL_ERR_CLR (R651): Writing 1 to JNL_ERR_CLR.CLR clears JNL_ERR. -/
  | jnlErrClr (master : Nat)
  /-- FIELD_ENTRY (R654): The HF field rises through its threshold, and the tag draws a UID and sets its power mode. -/
  | fieldEntry
  /-- FIELD_EXIT (R654): The field stays below its threshold for 1 ms and the tag goes IDLE. -/
  | fieldExit
  /-- REQA (R661): HFT answers REQA with ATQA. -/
  | reqa
  /-- WUPA (R661): HFT answers WUPA with ATQA. -/
  | wupa
  /-- ANTICOLLISION (R661): HFT answers ANTICOLLISION with its UID and BCC. -/
  | anticollision (valid : Fin 40) (uid : BitVec 40)
  /-- CASCADE_SELECT (R659): HFT answers the cascade level 1 SELECT with SAK. -/
  | cascadeSelect (frame : List Byte)
  /-- HLTA (R664): HLTA returns the tag to IDLE. -/
  | hlta
  /-- RATS (R660): RATS returns the ATS and makes the tag ACTIVE. -/
  | rats (frame : List Byte)
  /-- PPS (R658): HFT accepts PPS with DSI = DRI = 0. -/
  | pps (frame : List Byte)
  /-- DESELECT (R664): S(DESELECT) returns the tag to IDLE. -/
  | deselect
  /-- R_ACK (R658): R(ACK) continues a chained transfer. -/
  | rAck (bn : Bool)
  /-- R_NAK (R663): R(NAK) makes HFT resend its last block without executing the command again. -/
  | rNak
  /-- SELECT (R664): The SELECT APDU of the AID opens the application. -/
  | select (frame : List Byte)
  /-- GET_INFO (R679): GET_INFO returns the version, power mode, flags and page count. -/
  | getInfo (frame : List Byte)
  /-- GET_CHALLENGE (R669): GET_CHALLENGE returns a fresh N_T. -/
  | getChallenge (frame : List Byte)
  /-- PUT_CERT (R668): PUT_CERT checks and stores a certificate of the reader's chain. -/
  | putCert (frame : List Byte)
  /-- ENF_AUTH (R669): ENF_AUTH starts the enforcement method, waking the device if needed. -/
  | enfAuth (frame : List Byte)
  /-- ENF_AUTH_DONE (R670): The PKE work of ENF_AUTH completes and its 208-byte answer is sent. -/
  | enfAuthDone
  /-- ENF_CONFIRM (R669): ENF_CONFIRM verifies the reader's tag and enters SECURED. -/
  | enfConfirm (frame : List Byte)
  /-- WS_AUTH (R672): WS_AUTH runs the workshop method and enters SECURED. -/
  | wsAuth (frame : List Byte)
  /-- FM_READ (R685): FM_READ returns protected Field Memory bytes. -/
  | fmRead (frame : List Byte)
  /-- FM_WRITE (R691): FM_WRITE writes Field Memory bytes in the method's range. -/
  | fmWrite (frame : List Byte) (collapse : Option Nat)
  /-- GET_STATUS (R692): GET_STATUS returns LAST_SEQ, flags and free slots. -/
  | getStatus (frame : List Byte)
  /-- GET_HALLMARK (R679): GET_HALLMARK returns bytes of the Hallmark certificate. -/
  | getHallmark (frame : List Byte)
  /-- AUTH_CMD (R681): AUTH_CMD carries an authority command part, and on the last part runs the authority check. -/
  | authCmd (frame : List Byte)
  /-- CLOSE (R664): CLOSE returns the tag from SECURED to OPEN. -/
  | close (frame : List Byte)
  /-- FIELD_BUSY_TIMEOUT (R688): A master's Field Memory access stalled for 5 ms completes with FIELD_BUSY. -/
  | fieldBusyTimeout
  /-- HF_STATUS (R698): Q_11 HF_STATUS returns HFT_STAT, HFT_COUNT and HFT_LAST. -/
  | hfStatus
  /-- HF_CLOSE (R698): Q_11 HF_CLOSE ends a SECURED state and the tag enters IDLE. -/
  | hfClose
  /-- HF_WAIT_EXIT (R698): Q_11 HF_WAIT_EXIT completes at the next field exit. -/
  | hfWaitExit
  /-- HFT_ERR_CLR (R699): Writing 1 to HFT_ERR_CLR.CLR clears HFT_ERR. -/
  | hftErrClr (master : Nat)
  /-- WRSR (R710): A WRSR frame writes nothing and clears WEL. -/
  | wrsr
  /-- WRITE (R712): A WRITE frame makes a page write to the Locket and sets WIP. -/
  | write (addr : BitVec 16) (data : List Byte)
  /-- READ (R711): A READ frame returns Locket bytes from an address onward. -/
  | read (addr : BitVec 16) (n : Nat)
  /-- WRDI (R710): A WRDI frame clears WEL. -/
  | wrdi
  /-- RDSR (R710): An RDSR frame returns the EEPROM status byte. -/
  | rdsr (n : Nat)
  /-- WREN (R710): A WREN frame sets WEL. -/
  | wren
  /-- MB_PUT (R713): An MB_PUT frame places a legacy message in MB_1. -/
  | mbPut (words : List (BitVec 32)) (abandoned : Bool)
  /-- MB_GET (R713): An MB_GET frame returns and acknowledges the message in MB_2. -/
  | mbGet
  /-- REG_READ (R709): A REG_READ frame makes N + 1 word reads. -/
  | regRead (addr : BitVec 32) (n : BitVec 8)
  /-- REG_WRITE (R709): A REG_WRITE frame makes N + 1 word writes. -/
  | regWrite (addr : BitVec 32) (words : List (BitVec 32)) (abandoned : Bool)
  /-- PUSH (R718): A PUSH frame places a command entry in a ring. -/
  | push (q : BitVec 8) (entry : List Byte) (abandoned : Bool)
  /-- POP (R723): A POP frame returns and removes the host's oldest completion. -/
  | pop (q : BitVec 8)
  /-- STATUS (R707): A STATUS frame returns the vectors, the host level, the last status and the frame count. -/
  | status
  /-- BAD_OP (R704): A frame with an unknown or disallowed opcode is ignored and counted. -/
  | badOp (op : BitVec 8)
  /-- SHORT_FRAME (R707): A frame that ends before it is complete has no effect. -/
  | shortFrame (op : BitVec 8)
  /-- HIF_ERR_CLR (R756): Writing 1 to HIF_ERR_CLR.CLR clears HIF_ERR. -/
  | hifErrClr (master : Nat)
  /-- QUE_ENQ (R718): Setting QUE_ENQ_CTL.GO pushes a core's entry to a ring. -/
  | queEnq (master : Nat)
  /-- QUE_DEQ (R723): Setting QUE_DEQ_CTL.GO pops the core's oldest completion. -/
  | queDeq (master : Nat)
  /-- QUEUE_TAKE (R719): The queue engine takes a ring's head when its target can accept it and a completion place is free. -/
  | queueTake (q : Fin 16)
  /-- QUEUE_BULK_WAIT_EXPIRY (R730): A BULK command not started within BULK_WAIT completes with REFUSED_FULL. -/
  | queueBulkWaitExpiry (q : Fin 16)
  /-- SYS_INFO (R732): Q_0 SYS_INFO returns the identity, device number, image generation and pair role. -/
  | sysInfo
  /-- SLEEP_REQ (R118): Q_0 SLEEP_REQ asks firmware to request a sleep state. -/
  | sleepReq
  /-- TIME_SET (R733): Q_0 TIME_SET sets the RTC and appends a TIME_SET record. -/
  | timeSet
  /-- PING (R732): Q_0 PING completes at once. -/
  | ping
  /-- QUE_STATUS (R732): Q_13 QUE_STATUS returns ring fill and taken counters. -/
  | queStatus
  /-- FIRMWARE_COMMAND (R735): A Q_14 or Q_15 firmware command is handed to its core, which completes it. -/
  | firmwareCommand (security : Bool) (status cause : BitVec 8) (data : List Byte)
  /-- MAILBOX_SEND (R737): Setting MBX_TX_CTL.GO places a message in an empty mailbox, or refuses it. -/
  | mailboxSend (master : Nat)
  /-- MAILBOX_ACK (R739): The receiver writes MBX_ACK_m.ACK and the mailbox empties. -/
  | mailboxAck (master : Nat) (box : Fin 8)
  /-- MAILBOX_CROSSING (R742): Two crossed messages held for CROSS_US set the crossing bit and raise its event. -/
  | mailboxCrossing (k : Fin 4)
  /-- CLASP_READ (R745): A read of a Clasp acquires it when free, or returns its owner. -/
  | claspRead (master : Nat) (k : Fin 32)
  /-- CLASP_WRITE (R748): The owner writes 0 to a Clasp to release it. -/
  | claspWrite (master : Nat) (k : Fin 32) (value : Nat)
  /-- CLASP_RELEASE_HOST (R748): Writing 1 to MBX_CLASP_REL.HOST releases every Clasp the host owns. -/
  | claspReleaseHost (master : Nat)
  /-- LINK_ALIGNED (R764): All four lanes hold code-group alignment, and the link moves from TRAINING to KEYING. -/
  | linkAligned
  /-- HELLO (R769): A HELLO frame is checked and K_LINK is formed. -/
  | hello (frame : List Byte)
  /-- HELLO_REPEAT (R769): In KEYING after a failed check, HELLO is repeated every 1 s. -/
  | helloRepeat
  /-- CONFIRM (R769): A CONFIRM frame that verifies brings the link UP. -/
  | confirm (frame : List Byte)
  /-- HEARTBEAT (R766): A HEARTBEAT frame from the partner updates its role, backlog, timebase and Fret grid. -/
  | heartbeat (frame : List Byte)
  /-- MIRROR_LKT (R782): A MIRROR_LKT frame applies Locket groups and ring items in MSEQ order. -/
  | mirrorLkt (frame : List Byte)
  /-- MIRROR_JNL (R781): A MIRROR_JNL frame stores journal records under the ACTIVE's SEQ. -/
  | mirrorJnl (frame : List Byte)
  /-- MIRROR_CRD (R781): A MIRROR_CRD frame carries part of an issued set or a SWITCH. -/
  | mirrorCrd (frame : List Byte)
  /-- MACK (R784): A MACK acknowledges, or refuses, a mirror item. -/
  | mack (frame : List Byte)
  /-- MACK_DEADLINE (R784): A MACK missing at its deadline makes the work DEGRADED and the partner lost. -/
  | mackDeadline
  /-- MAILBOX (R740): A MAILBOX frame places a message in the partner-facing MB_0 or MB_1. -/
  | mailbox (frame : List Byte)
  /-- RECORD (R788): A RECORD frame brings a STANDBY's hardware record for the ACTIVE to assign. -/
  | record (frame : List Byte)
  /-- SESSION (R795): A SESSION frame gives the STANDBY the values to derive STS keys, or ends them. -/
  | session (frame : List Byte)
  /-- BURST (R792): A BURST frame schedules a CW Fret on the STANDBY's aerials. -/
  | burst (frame : List Byte)
  /-- BURST_DONE (R793): A BURST_DONE frame reports a STANDBY burst's validity. -/
  | burstDone (frame : List Byte)
  /-- BURST_DONE_TIMEOUT (R793): BURST_DONE missing 1 ms after the Fret ended marks the burst not valid. -/
  | burstDoneTimeout
  /-- RANGE_GO (R796): A RANGE_GO frame starts the STANDBY's ranging block. -/
  | rangeGo (frame : List Byte)
  /-- RANGE (R796): A RANGE frame enters a STANDBY port's entry on the ACTIVE's Q_41. -/
  | range (frame : List Byte)
  /-- UHF_FWD (R794): A UHF_FWD frame forwards an uplink frame heard by the STANDBY. -/
  | uhfFwd (frame : List Byte)
  /-- CONTROL_SLEEP (R798): A SLEEP control frame makes the STANDBY run its own sleep query and commit. -/
  | controlSleep (frame : List Byte)
  /-- CONTROL_HANDOVER (R780): A HANDOVER control frame announces that the ACTIVE is releasing PAIR_ARB. -/
  | controlHandover (frame : List Byte)
  /-- CONTROL_RESYNC (R801): A RESYNC control frame carries a resynchronisation stage exchange. -/
  | controlResync (frame : List Byte)
  /-- RESYNC_STAGE_DONE (R801): A resynchronisation stage completes and the next begins, or DEGRADED clears. -/
  | resyncStageDone
  /-- TSU_FRAME_BAD (R768): A frame failing its CRC is discarded, or one failing its tag takes the link DOWN. -/
  | tsuFrameBad (frame : List Byte)
  /-- LINK_RETRAIN (R768): 100 ms after a security failure, training restarts. -/
  | linkRetrain
  /-- LINK_RETRANSMIT (R771): With no ACK advance for 50 µs, unacknowledged sequenced frames are resent. -/
  | linkRetransmit
  /-- PARTNER_LOST (R786): With no valid frame for 5 ms or the link DOWN, the partner is declared lost. -/
  | partnerLost
  /-- ROLE_CLAIM (R772): At the role decision, a device claims PAIR_ARB after its wait, or becomes STANDBY. -/
  | roleClaim
  /-- ARB_TEST (R773): A claiming SECONDARY releases and samples PAIR_ARB at 1, 2 and 4 ms. -/
  | arbTest (low : Bool)
  /-- PAIR_ARB_HIGH (R776): A STANDBY counts PAIR_ARB high for 1 ms and claims the ACTIVE role. -/
  | pairArbHigh
  /-- HANDOVER_REQ (R780): Setting TSU_CTL.HANDOVER stops ticket taking and waits for every acknowledgement. -/
  | handoverReq (master : Nat)
  /-- HANDOVER_TIMEOUT (R780): Acknowledgements missing after 100 ms make HANDOVER complete with REFUSED_FULL. -/
  | handoverTimeout
  /-- RST_PARTNER (R777): Setting TSU_CTL.RST_PARTNER drives PAIR_RST_N low, or is refused. -/
  | rstPartner (master : Nat)
  /-- TSU_ERR_CLR (R805): Writing 1 to TSU_ERR_CLR.CLR clears TSU_ERR. -/
  | tsuErrClr (master : Nat)
  /-- FW_READY (R817): SYS_FW_READY.READY set by the security core makes the device verdict-ready. -/
  | fwReady (master : Nat)
  /-- RECOVERY_GO (R831): Setting SYS_RECOV.GO checks the host's image and writes it to a bank. -/
  | recoveryGo (master : Nat)
  /-- IMG_STAGE (R834): Q_15 IMG_STAGE checks an image and writes the inactive bank. -/
  | imgStage
  /-- IMG_ACTIVATE (R835): Q_15 IMG_ACTIVATE drains the device and then restarts or updates live. -/
  | imgActivate
  /-- IMG_STATUS (R833): Q_15 IMG_STATUS returns the boot and bank state. -/
  | imgStatus
  /-- DRAIN_COMPLETE (R835): The drain finishes, and mode 1 resets or mode 2 applies the live update. -/
  | drainComplete
  /-- DRAIN_TIMEOUT (R835): A drain not finished in 2,000 ms ends with cause 10. -/
  | drainTimeout
  /-- CFG_UPD_STAGE (R834): Setting CFG_UPD_CTL.STAGE checks the staged image and writes the inactive bank. -/
  | cfgUpdStage (master : Nat)
  /-- CFG_UPD_LIVE (R837): Setting CFG_UPD_CTL.LIVE performs the live update steps. -/
  | cfgUpdLive (master : Nat)
  /-- NOR_JOB_COMPLETE (R810): A NOR write job completes its read-back and the next waiting job starts. -/
  | norJobComplete (fault : Fin 4)
  /-- CFG_ERR_CLR (R839): Writing 1 to CFG_ERR_CLR.CLR clears CFG_ERR. -/
  | cfgErrClr (master : Nat)
  /-- SYS_BUSFAULT_CLR (R853): Writing 1 to SYS_BUSFAULT_CLR.CLR clears the bus-fault record. -/
  | sysBusfaultClr (master : Nat)
  /-- MESH_SCAN (R840): TMP drives and compares a new mesh pattern at each scan. -/
  | meshScan (driven read : BitVec 16)
  /-- TAMPER_DETECT (R842): A tamper sensor detects, its latch is set, and its response runs. -/
  | tamperDetect (hits : List (Nat × BitVec 16))
  /-- TAMPER_RESET (R843): An RST response raises a class T reset once the record is accepted or 20 ms have passed. -/
  | tamperReset
  /-- TAMPER_LOCK_CLEAR (R845): TMP_CLR.LOCK written under R29 ends the tamper lock once the Locket accepts the cleared page. -/
  | tamperLockClear (master : Nat)
  /-- TAMPER_LATCH_CLEAR (R841): TMP_LATCH written under R29 clears sensor latches. -/
  | tamperLatchClear (master : Nat)
  /-- WATCHDOG_KICK (R850): A write to TMP_WDG_KICK_c reloads the watchdog, or on a wrong sequence counts as expiry. -/
  | watchdogKick (master : Nat) (c : Fin 2) (value : BitVec 8)
  /-- WATCHDOG_WARNING (R851): A watchdog reaching 25 % of TIMEOUT raises E_189. -/
  | watchdogWarning (c : Fin 2)
  /-- WATCHDOG_EXPIRY (R851): A watchdog expires and causes a class W reset. -/
  | watchdogExpiry (c : Fin 2)
  /-- BLOCK_RESET (R861): TMP_BLK_RST with key 0xC3 applies a class L reset to one block. -/
  | blockReset (master : Nat) (block : Fin 32) (key : BitVec 8)
  /-- BLOCK_RETURN (R858): A block returns from its class L reset. -/
  | blockReturn (block : Fin 32)
  /-- STALE_REPLY (R857): A reply with a lower epoch reaches its consumer and is discarded. -/
  | staleReply (block : Fin 32) (epoch : Nat)
  /-- SRAM_ECC_ERROR (R862): An uncorrectable ECC error ends an access in a bus error, or causes a class W reset. -/
  | sramEccError (master : Fin 8) (addr : Nat) (keyStore : Bool)
  /-- BLOCK_SELF_CHECK_FAIL (R862): A block's RAM parity or self-check fails and the block is reset under the fence rules. -/
  | blockSelfCheckFail (block : Fin 31)
  /-- IEEE_1149_1_LOCK (R23): The IEEE 1149.1 port is locked for field life, after which the debug master reaches nothing, its Clasps are released and sends to MB_7 are refused. -/
  | ieee11491Lock
  /-- CAN_FRAME_TRANSMITTED (R732): A frame queued by CAN_SEND is transmitted on its controller, and the command completes. -/
  | canFrameTransmitted (c : Fin 2)
  /-- CAN_BUS_ERROR (R438): A CAN controller detects a bus error, updates TEC or REC and may enter error passive or bus-off. -/
  | canBusError (c : Fin 2) (tx eight : Bool)
  /-- NAND_READ_COMPLETE (R644): A NAND page read for EXPORT or DRIVER_READ completes and its records are decoded under R614. -/
  | nandReadComplete (errs : List (Nat × Nat × Byte))
  /-- RESTART_COLLECTION_DONE (R533): In RESTART, 1,024 fresh raw bits finish collection and pass, returning RNG to OK, or fail again toward FAILED. -/
  | restartCollectionDone (raw : BitVec 1024)
  /-- HEARTBEAT_SEND (R766): Each millisecond TSU sends a HEARTBEAT frame to the partner, advancing TXC. -/
  | heartbeatSend
  /-- LINK_ALIGNMENT_LOST (R786): The Tsudon receivers lose code-group alignment and the link goes DOWN. -/
  | linkAlignmentLost
  /-- PAIR_ARB_CHANGE (R774): PAIR_ARB changes level, which starts or cancels a device's 1 ms count of the line as high. -/
  | pairArbChange (high : Bool)
  /-- FD_N_CHANGE (R693): The HF field crosses the FD_N threshold, and FD_N is asserted or deasserted within 1 ms. -/
  | fdNChange (asserted : Bool)
  /-- S_WTX_RESPONSE (R662): The reader answers HFT's S(WTX) request with an S(WTX) response, and the extended wait begins. -/
  | sWtxResponse
  /-- CHAINED_I_BLOCK (R658): The reader sends a non-final chained I-block, which HFT stores and acknowledges with R(ACK). -/
  | chainedIBlock (frame : List Byte)
  /-- CRC_A_FAIL (R699): A reader frame fails its CRC_A, which is counted in HFT_ERR.CRC and draws no answer. -/
  | crcAFail
  /-- UNKNOWN_APDU (R680): An APDU with an unknown CLA or INS completes with SW 0x6E00 or 0x6D00. -/
  | unknownApdu (frame : List Byte)
  /-- SLEEP_ANSWER (R798): The ACTIVE receives the STANDBY's answer to SLEEP, giving its query and commit outcome, and stops answering its own query as refused. -/
  | sleepAnswer (frame : List Byte)
  /-- UWB_SCAN_END (R360): The duration of a running UWB_SCAN ends, and the command completes with the noise floor and peak power per port. -/
  | uwbScanEnd (meas : List (BitVec 8 × BitVec 8))
  /-- RNG_RAW_DONE (R542): Collection of the raw bits requested by RNG_RAW finishes, and they are written to the destination. -/
  | rngRawDone
  /-- DISCARDED_UPLINK (R241): A valid UHF frame of a type not in Table 05-4 is received and discarded, while counting in UHF_STAT.FRAMES and raising E_104 or E_105. -/
  | discardedUplink (rx : Fin 2) (rssi : BitVec 8) (frame : List Byte)
  deriving DecidableEq, Repr

end Sys2Proof
end

