-- ==== Sys2Proof/Decode.lean ====
section
/-! DEFINITION. Words as commands. No row of spec/opcode_table.json gives bits: every row has an empty list of fields and its operands stand in
prose, so no word spells a command. Frames and entries carry their own bytes and are read by the meanings that take them. -/
namespace Sys2Proof

/-- The command that a word of `nbits` bits spells by the table's bits: none, since no row has any. -/
def decodeTableWord (_nbits _w : Nat) : Option Instr := none

end Sys2Proof
end

