-- ==== Sys2Proof/Machine/Codes.lean ====
section
/-! DEFINITION. The check codes of the manual: the Locket's group code (R555, R556) and CRC-8 (R580), CRC-16 and CRC-32 over bit
strings, and the journal's Reed–Solomon code RS(128,112) (R613, R614). -/
namespace Sys2Proof.Machine

/-- The integers 3 to 71 that are no power of two, in order: p(0), …, p(63) (R555). -/
def eccPositions : List Nat :=
  (List.range 72).filter (fun n => decide (3 ≤ n) && !([4, 8, 16, 32, 64].contains n))

/-- Parity of the bits of a number of at most `n` bits. -/
def parity : Nat → Nat → Bool
  | 0, _ => false
  | n + 1, v => xor (v % 2 == 1) (parity n (v / 2))

/-- c0 to c6: the exclusive-or of the positions of the set data bits (R555). -/
def eccLow7 (d : Nat) : Nat :=
  ((List.range 64).zip eccPositions).foldl (fun c jp => if d.testBit jp.1 then c ^^^ jp.2 else c) 0

/-- The check byte of R555. -/
def eccCheck (d : Nat) : Nat :=
  let c := eccLow7 d
  c + 128 * ofBool (xor (parity 64 d) (parity 7 c))

/-- Reading a group (Table 12-1): the value and whether it was corrected, or none when uncorrectable. -/
def eccDecode (d c : Nat) : Option (Nat × Bool) :=
  let s := (c % 128) ^^^ eccLow7 d
  let p := xor (parity 64 d) (parity 8 c)
  if s = 0 then some (d, p)
  else if !p then none
  else if [1, 2, 4, 8, 16, 32, 64].contains s then some (d, true)
  else if s ≤ 71 then
    match ((List.range 64).zip eccPositions).find? (fun jp => jp.2 == s) with
    | some jp => some (d ^^^ 2 ^ jp.1, true)
    | none => none
  else none

/-- One step of an MSB-first CRC of width `w` over one bit. -/
def crcBit (w poly crc : Nat) (b : Bool) : Nat :=
  let top := xor (crc.testBit (w - 1)) b
  let sh := crc * 2 % 2 ^ w
  if top then sh ^^^ poly else sh

/-- `foldl` with a number for its accumulator: `List.foldl` with a comparison at every element, which makes an evaluation keep
the accumulator a number and not a term that grows (`foldNat_eq_foldl` in Laws/Ops.lean). -/
def foldNat {α : Type} (f : Nat → α → Nat) : Nat → List α → Nat
  | n, [] => n
  | n, a :: l => if n = 0 then foldNat f (f 0 a) l else foldNat f (f n a) l

/-- MSB-first CRC over a bit string. -/
def crcBits (w poly init : Nat) (l : List Bool) : Nat := foldNat (crcBit w poly) init l

/-- The bits of a byte, most significant first. -/
def byteBits (b : Byte) : List Bool :=
  [b.getLsbD 7, b.getLsbD 6, b.getLsbD 5, b.getLsbD 4, b.getLsbD 3, b.getLsbD 2, b.getLsbD 1, b.getLsbD 0]

/-- The bits of `w`-bit number, most significant first. -/
def natBits : Nat → Nat → List Bool
  | 0, _ => []
  | w + 1, n => n.testBit w :: natBits w n

/-- The number that bits spell, most significant first. -/
def ofBits (l : List Bool) : Nat := l.foldl (fun n b => 2 * n + ofBool b) 0

/-- The bits of bytes, most significant first in each byte. -/
def bytesBits (l : List Byte) : List Bool := l.flatMap byteBits

/-- RCHK: CRC-8, polynomial 0x07, initial value 0 (R580). -/
def crc8 (l : List Byte) : Nat := crcBits 8 0x07 0 (bytesBits l)

/-- CRC-16, polynomial 0x1021, initial value 0xFFFF, over a bit string. -/
def crc16 (l : List Bool) : Nat := crcBits 16 0x1021 0xFFFF l

/-! GF(2⁸) with field polynomial 0x11D, α = 2 (R613). -/

/-- Multiplication by x in GF(2⁸) under a field polynomial. -/
def gfDouble (poly a : Nat) : Nat := if a < 128 then 2 * a else (2 * a) ^^^ poly

/-- Multiplication in GF(2⁸): the low `n` bits of `b`. -/
def gfMulAux (poly : Nat) : Nat → Nat → Nat → Nat
  | 0, _, _ => 0
  | n + 1, a, b => (if b % 2 = 1 then a else 0) ^^^ gfMulAux poly n (gfDouble poly a) (b / 2)

/-- Multiplication in GF(2⁸) with polynomial 0x11D. -/
def gfMul (a b : Nat) : Nat := gfMulAux 0x11D 8 a b

/-- Powers in GF(2⁸). -/
def gfPow (a : Nat) : Nat → Nat
  | 0 => 1
  | n + 1 => gfMul a (gfPow a n)

/-- The inverse in GF(2⁸): a^254. -/
def gfInv (a : Nat) : Nat := gfPow a 254

/-- The coefficients of g(x) below x¹⁶, from x¹⁵ down (Table 13-4). -/
def rsGen : List Nat :=
  [0x3B, 0x0D, 0x68, 0xBD, 0x44, 0xD1, 0x1E, 0x08, 0xA3, 0x41, 0x29, 0xE5, 0x62, 0x32, 0x24, 0x3B]

/-- One byte through the RS encoder's register (x¹⁵ first). -/
def rsStep (r : List Nat) (m : Nat) : List Nat :=
  let f := m ^^^ r.headD 0
  List.zipWith (fun a g => a ^^^ gfMul f g) (r.drop 1 ++ [0]) rsGen

/-- PARITY of a record's bytes 0 to 111 (R613). -/
def rsParity (l : List Byte) : List Byte :=
  (l.foldl (fun r b => rsStep r b.toNat) (List.replicate 16 0)).map (BitVec.ofNat 8)

/-- The value of a polynomial (highest coefficient first) at a point. -/
def gfEval (l : List Nat) (x : Nat) : Nat := l.foldl (fun a c => gfMul a x ^^^ c) 0

/-- The sixteen syndromes of a codeword (R614). -/
def rsSyndromes (l : List Byte) : List Nat :=
  (List.range 16).map (fun j => gfEval (l.map BitVec.toNat) (gfPow 2 j))

/-- One step of Berlekamp and Massey's search for the error locator: locator `c`, previous `b`, discrepancy `d`, length `n`, gap `m`. -/
def bmStep (s : List Nat) (st : List Nat × List Nat × Nat × Nat × Nat) (i : Nat) : List Nat × List Nat × Nat × Nat × Nat :=
  let (c, b, bd, n, m) := st
  let d := (List.range (n + 1)).foldl (fun a j => a ^^^ gfMul (c.getD j 0) (if j ≤ i then s.getD (i - j) 0 else 0)) 0
  if d = 0 then (c, b, bd, n, m + 1)
  else
    let f := gfMul d (gfInv bd)
    let sh := List.replicate m 0 ++ b.map (gfMul f)
    let len := max c.length sh.length
    let c' := (List.range len).map (fun k => c.getD k 0 ^^^ sh.getD k 0)
    if 2 * n ≤ i then (c', c, d, i + 1 - n, 1) else (c', b, bd, n, m + 1)

/-- Solve a small linear system over GF(2⁸) for the error values: `xs` the error locators, by Forney's form
Y = Ω(X⁻¹) / Λ'(X⁻¹) with first root α⁰. -/
def rsValue (s lam : List Nat) (x : Nat) : Nat :=
  let xi := gfInv x
  let om := (List.range 16).map (fun k =>
    (List.range (k + 1)).foldl (fun a j => a ^^^ gfMul (lam.getD j 0) (s.getD (k - j) 0)) 0)
  let num := (List.range 16).foldl (fun a k => a ^^^ gfMul (om.getD k 0) (gfPow xi k)) 0
  let den := ((List.range lam.length).filter (fun k => k % 2 = 1)).foldl
    (fun a k => a ^^^ gfMul (lam.getD k 0) (gfPow xi (k - 1))) 0
  gfMul x (gfMul num (gfInv den))

/-- R614: the record corrected (and whether it was), or none when uncorrectable. -/
def rsDecode (l : List Byte) : Option (List Byte × Bool) :=
  let s := rsSyndromes l
  if s.all (· == 0) then some (l, false)
  else
    let (lam, _, _, n, _) := (List.range 16).foldl (bmStep s) ([1], [1], 1, 0, 1)
    let roots := (List.range 128).filter (fun p =>
      (List.range lam.length).foldl (fun a k => a ^^^ gfMul (lam.getD k 0) (gfPow (gfInv (gfPow 2 p)) k)) 0 == 0)
    if n ≤ 8 ∧ roots.length = n then
      let fixed := (List.range 128).map (fun i =>
        let b := (l.getD i 0).toNat
        if roots.contains (127 - i) then BitVec.ofNat 8 (b ^^^ rsValue s lam (gfPow 2 (127 - i))) else BitVec.ofNat 8 b)
      if (rsSyndromes fixed).all (· == 0) then some (fixed, true) else none
    else none

end Sys2Proof.Machine
end

