-- ==== Sys2Proof/Machine/Aes.lean ====
section
/-! DEFINITION. AES with 128- and 256-bit keys, counter mode, GCM, CCM, CMAC and AES key wrap over lists of bytes (R509 and the
layouts that name them). -/
namespace Sys2Proof.Machine

/-- The AES S-box as one number, entry `x` at bits 8x and up. -/
def sboxNum : Nat :=
  0x16bb54b00f2d99416842e6bf0d89a18cdf2855cee9871e9b948ed9691198f8e19e1dc186b95735610ef6034866b53e708a8bbd4b1f74dde8c6b4a61c2e2578ba08ae7a65eaf4566ca94ed58d6d37c8e779e4959162acd3c25c2406490a3a32e0db0b5ede14b8ee4688902a22dc4f816073195d643d7ea7c41744975fec130ccdd2f3ff1021dab6bcf5389d928f40a351a89f3c507f02f94585334d43fbaaefd0cf584c4a39becb6a5bb1fc20ed00d153842fe329b3d63b52a05a6e1b1a2c830975b227ebe28012079a059618c323c7041531d871f1e5a534ccf73f362693fdb7c072a49cafa2d4adf04759fa7dc982ca76abd7fe2b670130c56f6bf27b777c63

/-- The inverse S-box as one number, entry `x` at bits 8x and up. -/
def invSboxNum : Nat :=
  0x7d0c2155631469e126d677ba7e042b17619953833cbbebc8b0f52aae4d3be0a0ef9cc9939f7ae52d0d4ab519a97f51605fec8027591012b131c7078833a8dd1ff45acd78fec0db9a2079d2c64b3e56fc1bbe18aa0e62b76f89c5291d711af1476edf751ce837f9e28535ade72274ac9673e6b4f0cecff297eadc674f4111913a6b8a130103bdafc1020f3fca8f1e2cd00645b3b80558e4f70ad3bc8c00abd890849d8da75746155edab9edfd5048706c92b6655dcc5ca4d41698688664f6f87225d18b6d49a25b76b224d92866a12e084ec3fa420b954cee3d23c2a632947b54cbe9dec444438e3487ff2f9b8239e37cfbd7f3819ea340bf38a53630d56a0952

/-- Exclusive-or of byte lists. -/
def xorBytes (a b : List Byte) : List Byte := List.zipWith (· ^^^ ·) a b

/-- Bytes in groups of `k`, `n` of them. -/
def groupBytes (k : Nat) : Nat → List Byte → List (List Byte)
  | 0, _ => []
  | n + 1, l => l.take k :: groupBytes k n (l.drop k)

/-- The low `n` bytes of a number through a table of 256 entries. -/
def subNum (table : Nat) : Nat → Nat → Nat
  | 0, _ => 0
  | n + 1, x => ((table >>> (8 * (x % 256))) % 256) + 256 * subNum table n (x / 256)

/-! A block of AES is a number of 128 bits, its first byte the most significant: column c is bits 127−32c to 96−32c, row r of a
column its byte r from the top. -/

/-- A block turned left by `n` bits. -/
def turn128 (n x : Nat) : Nat := ((x <<< n) ||| (x >>> (128 - n))) % 2 ^ 128

/-- The mask of row `r`. -/
def rowMask (r : Nat) : Nat := 0xFF000000FF000000FF000000FF000000 >>> (8 * r)

/-- ShiftRows: row `r` moves `r` columns to the left. -/
def shiftRows (x : Nat) : Nat :=
  (x &&& rowMask 0) ||| turn128 32 (x &&& rowMask 1) ||| turn128 64 (x &&& rowMask 2) ||| turn128 96 (x &&& rowMask 3)

/-- The inverse of ShiftRows. -/
def invShiftRows (x : Nat) : Nat :=
  (x &&& rowMask 0) ||| turn128 96 (x &&& rowMask 1) ||| turn128 64 (x &&& rowMask 2) ||| turn128 32 (x &&& rowMask 3)

/-- Every byte of a block doubled in AES's GF(2⁸), polynomial 0x11B. -/
def dbl128 (x : Nat) : Nat :=
  ((x &&& 0x7F7F7F7F7F7F7F7F7F7F7F7F7F7F7F7F) <<< 1) ^^^ (((x >>> 7) &&& 0x01010101010101010101010101010101) * 0x1B)

/-- Every column turned by one row: row r takes what row r + 1 holds. -/
def turnCols (x : Nat) : Nat :=
  ((x <<< 8) &&& 0xFFFFFF00FFFFFF00FFFFFF00FFFFFF00) ||| ((x >>> 24) &&& 0x000000FF000000FF000000FF000000FF)

/-- MixColumns: 2, 3, 1, 1. -/
def mixColumns (x : Nat) : Nat :=
  let y := turnCols x
  dbl128 (x ^^^ y) ^^^ y ^^^ turnCols y ^^^ turnCols (turnCols y)

/-- The inverse of MixColumns, 14, 11, 13, 9: MixColumns after the circulant 5, 0, 4, 0. -/
def invMixColumns (x : Nat) : Nat := mixColumns (x ^^^ dbl128 (dbl128 (x ^^^ turnCols (turnCols x))))

/-- Doubling one byte. -/
def dbl8 (x : Nat) : Nat := (2 * x % 256) ^^^ (x / 128 * 0x1B)

/-- The round constant of index `n`, from 1. -/
def rcon : Nat → Nat
  | 0 => 0x8D
  | n + 1 => dbl8 (rcon n)

/-- The next word of the key schedule: `ws` newest first, `nk` key words, index `i`. -/
def keyWord (nk : Nat) (ws : List Nat) (i : Nat) : List Nat :=
  let t := ws.headD 0
  let t := if i % nk = 0 then
      let u := subNum sboxNum 4 t
      ((u * 256) % 2 ^ 32 + u / 2 ^ 24) ^^^ (rcon (i / nk) * 2 ^ 24)
    else if nk > 6 ∧ i % nk = 4 then subNum sboxNum 4 t else t
  (ws.getD (nk - 1) 0 ^^^ t) :: ws

/-- Words in fours as blocks. -/
def blocksOf : List Nat → List Nat
  | a :: b :: c :: d :: t => (a * 2 ^ 96 + b * 2 ^ 64 + c * 2 ^ 32 + d) :: blocksOf t
  | _ => []

/-- The round keys, first to last. -/
def roundKeys (key : List Byte) : List Nat :=
  let nk := key.length / 4
  blocksOf (((List.range (4 * (nk + 7))).drop nk).foldl (keyWord nk) ((groupBytes 4 nk key).map ofBe).reverse).reverse

/-- The rounds of encryption after the first key. -/
def encRounds : List Nat → Nat → Nat
  | [], x => x
  | [k], x => shiftRows (subNum sboxNum 16 x) ^^^ k
  | k :: rest, x => encRounds rest (mixColumns (shiftRows (subNum sboxNum 16 x)) ^^^ k)

/-- AES encryption of one block with round keys. -/
def aesEncryptWith (ks : List Nat) (b : List Byte) : List Byte :=
  beBytes 16 (encRounds ks.tail (ofBe b ^^^ ks.headD 0))

/-- AES encryption of one block. -/
def aesEncrypt (key b : List Byte) : List Byte := aesEncryptWith (roundKeys key) b

/-- The rounds of decryption after the last key, the keys last to first. -/
def decRounds : List Nat → Nat → Nat
  | [], x => x
  | [k], x => subNum invSboxNum 16 (invShiftRows x) ^^^ k
  | k :: rest, x => decRounds rest (invMixColumns (subNum invSboxNum 16 (invShiftRows x) ^^^ k))

/-- AES decryption of one block with round keys. -/
def aesDecryptWith (ks : List Nat) (b : List Byte) : List Byte :=
  beBytes 16 (decRounds ks.reverse.tail (ofBe b ^^^ ks.reverse.headD 0))

/-- AES decryption of one block. -/
def aesDecrypt (key b : List Byte) : List Byte := aesDecryptWith (roundKeys key) b

/-- The number of blocks of 16 that hold `n` bytes. -/
def blocks16 (n : Nat) : Nat := (n + 15) / 16

/-- Zero padding to whole blocks. -/
def pad16 (l : List Byte) : List Byte := l ++ List.replicate (16 * blocks16 l.length - l.length) 0

/-! GCM. -/

/-- Multiplication in GCM's GF(2¹²⁸): bits of `x` from the most significant. -/
def ghashMul : Nat → Nat → Nat → Nat → Nat
  | 0, _, _, z => z
  | n + 1, x, v, z =>
    ghashMul n x (if v % 2 = 1 then (v / 2) ^^^ (0xE1 * 2 ^ 120) else v / 2) (if x.testBit n then z ^^^ v else z)

/-- GHASH over whole blocks. -/
def ghash (h : Nat) (l : List Byte) : Nat :=
  (groupBytes 16 (l.length / 16) l).foldl (fun y b => ghashMul 128 (y ^^^ ofBe b) h 0) 0

/-- The key stream of counter mode from counter block `c`, `n` blocks. -/
def ctrStream (ks : List Nat) (pre : List Byte) (w : Nat) : Nat → Nat → List Byte
  | 0, _ => []
  | n + 1, c => aesEncryptWith ks (pre ++ beBytes w c) ++ ctrStream ks pre w n (c + 1)

/-- GCM's tag. -/
def gcmTag (ks : List Nat) (nonce aad ct : List Byte) : List Byte :=
  let h := ofBe (aesEncryptWith ks (List.replicate 16 0))
  let s := ghash h (pad16 aad ++ pad16 ct ++ beBytes 8 (8 * aad.length) ++ beBytes 8 (8 * ct.length))
  xorBytes (beBytes 16 s) (aesEncryptWith ks (nonce ++ beBytes 4 1))

/-- AES-GCM with a 12-byte nonce: ciphertext and 16-byte tag. -/
def gcmSeal (key nonce aad pt : List Byte) : List Byte × List Byte :=
  let ks := roundKeys key
  let ct := xorBytes pt (ctrStream ks nonce 4 (blocks16 pt.length) 2)
  (ct, gcmTag ks nonce aad ct)

/-- AES-GCM opening with a tag of 12 to 16 bytes: the plaintext when the tag verifies. -/
def gcmOpen (key nonce aad ct tag : List Byte) : Option (List Byte) :=
  let ks := roundKeys key
  if 12 ≤ tag.length ∧ (gcmTag ks nonce aad ct).take tag.length = tag then some (xorBytes ct (ctrStream ks nonce 4 (blocks16 ct.length) 2)) else none

/-! CCM with a 13-byte nonce (L = 2). -/

/-- CBC-MAC over whole blocks. -/
def cbcMac (ks : List Nat) (l : List Byte) : List Byte :=
  (groupBytes 16 (l.length / 16) l).foldl (fun y b => aesEncryptWith ks (xorBytes y b)) (List.replicate 16 0)

/-- CCM's tag of `t` bytes, before encryption. -/
def ccmMac (ks : List Nat) (t : Nat) (nonce aad pt : List Byte) : List Byte :=
  let flags := (if aad.isEmpty then 0 else 64) + 8 * ((t - 2) / 2) + (14 - nonce.length)
  let b0 := BitVec.ofNat 8 flags :: nonce ++ beBytes (15 - nonce.length) pt.length
  let a := if aad.isEmpty then [] else pad16 (beBytes 2 aad.length ++ aad)
  (cbcMac ks (b0 ++ a ++ pad16 pt)).take t

/-- AES-CCM: ciphertext and tag of `t` bytes. -/
def ccmSeal (key : List Byte) (t : Nat) (nonce aad pt : List Byte) : List Byte × List Byte :=
  let ks := roundKeys key
  let pre := BitVec.ofNat 8 (14 - nonce.length) :: nonce
  let w := 15 - nonce.length
  (xorBytes pt (ctrStream ks pre w (blocks16 pt.length) 1),
   xorBytes (ccmMac ks t nonce aad pt) (aesEncryptWith ks (pre ++ beBytes w 0)))

/-- AES-CCM opening. -/
def ccmOpen (key : List Byte) (t : Nat) (nonce aad ct tag : List Byte) : Option (List Byte) :=
  let ks := roundKeys key
  let pre := BitVec.ofNat 8 (14 - nonce.length) :: nonce
  let w := 15 - nonce.length
  let pt := xorBytes ct (ctrStream ks pre w (blocks16 ct.length) 1)
  if xorBytes (ccmMac ks t nonce aad pt) (aesEncryptWith ks (pre ++ beBytes w 0)) = tag then some pt else none

/-! CMAC and key wrap. -/

/-- Doubling in CMAC's GF(2¹²⁸). -/
def cmacDouble (n : Nat) : Nat := if n.testBit 127 then (2 * n) % 2 ^ 128 ^^^ 0x87 else 2 * n

/-- AES-CMAC. -/
def cmac (key msg : List Byte) : List Byte :=
  let ks := roundKeys key
  let k1 := cmacDouble (ofBe (aesEncryptWith ks (List.replicate 16 0)))
  let n := max 1 (blocks16 msg.length)
  let body := msg.take (16 * (n - 1))
  let last := msg.drop (16 * (n - 1))
  let m := if last.length = 16 then xorBytes last (beBytes 16 k1)
    else xorBytes (fit 16 (last ++ [0x80])) (beBytes 16 (cmacDouble k1))
  cbcMac ks (body ++ m)

/-- The integrity check value of key wrap. -/
def wrapIv : List Byte := List.replicate 8 0xA6

/-- One step of key wrap: registers `a` and `r` (8 bytes each), step number `t`. -/
def wrapStep (ks : List Nat) (st : List Byte × List (List Byte)) (t : Nat) : List Byte × List (List Byte) :=
  match st.2 with
  | [] => st
  | r :: rest =>
    let b := aesEncryptWith ks (st.1 ++ r)
    (xorBytes (b.take 8) (beBytes 8 t), rest ++ [b.drop 8])

/-- AES key wrap. -/
def aesWrap (kek pt : List Byte) : List Byte :=
  let n := pt.length / 8
  let st := ((List.range (6 * n)).map (· + 1)).foldl (wrapStep (roundKeys kek)) (wrapIv, groupBytes 8 n pt)
  st.1 ++ st.2.flatten

/-- One step of key unwrap. -/
def unwrapStep (ks : List Nat) (st : List Byte × List (List Byte)) (t : Nat) : List Byte × List (List Byte) :=
  match st.2.reverse with
  | [] => st
  | r :: rest =>
    let b := aesDecryptWith ks (xorBytes st.1 (beBytes 8 t) ++ r)
    (b.take 8, b.drop 8 :: rest.reverse)

/-- AES key unwrap: the plaintext when the check value is right. -/
def aesUnwrap (kek ct : List Byte) : Option (List Byte) :=
  let n := ct.length / 8 - 1
  let st := ((List.range (6 * n)).reverse.map (· + 1)).foldl (unwrapStep (roundKeys kek)) (ct.take 8, groupBytes 8 n (ct.drop 8))
  if st.1 = wrapIv then some st.2.flatten else none

end Sys2Proof.Machine
end

