-- ==== Sys2Proof/Machine/Sha256.lean ====
section
/-! DEFINITION. SHA-256 and HMAC-SHA-256 over lists of bytes (R526, R527). -/
namespace Sys2Proof.Machine

/-- Addition of 32-bit words. -/
def add32 (a b : Nat) : Nat := (a + b) % 2 ^ 32

/-- Rotation of a 32-bit word to the right. -/
def rotr (n a : Nat) : Nat := (a >>> n ||| a <<< (32 - n)) % 2 ^ 32

/-- The round constants as one number: the first 32 bits of the fractional part of the cube root of the prime of index `i` at bits 32i and up. -/
def roundNum : Nat :=
  0xc67178f2bef9a3f7a4506ceb90befffa8cc7020884c8781478a5636f748f82ee682e6ff35b9cca4f4ed8aa4a391c0cb334b0bcb52748774c1e376c0819a4c116106aa070f40e3585d6990624d192e819c76c51a3c24b8b70a81a664ba2bfe8a192722c8581c2c92e766a0abb650a735453380d134d2c6dfc2e1b213827b70a851429296706ca6351d5a79147c6e00bf3bf597fc7b00327c8a831c66d983e515276f988da5cb0a9dc4a7484aa2de92c6f240ca1cc0fc19dc6efbe4786e49b69c1c19bf1749bdc06a780deb1fe72be5d74550c7dc3243185be12835b01d807aa98ab1c5ed5923f82a459f111f13956c25be9b5dba5b5c0fbcf71374491428a2f98

/-- The initial hash value as one number, its word `i` at bits 32i and up. -/
def startNum : Nat := 0x5be0cd191f83d9ab9b05688c510e527fa54ff53a3c6ef372bb67ae856a09e667

/-- The lowest `n` words of a number, lowest first. -/
def wordsOf : Nat → Nat → List Nat
  | 0, _ => []
  | n + 1, x => x % 2 ^ 32 :: wordsOf n (x >>> 32)

/-- Complement of a 32-bit word. -/
def not32 (a : Nat) : Nat := (2 ^ 32 - 1) ^^^ a

/-- The message schedule: the last 16 words, newest first, extended `n` times; all words newest first. -/
def shaSchedule : Nat → List Nat → List Nat
  | 0, w => w
  | n + 1, w =>
    let w2 := w.getD 1 0; let w7 := w.getD 6 0; let w15 := w.getD 14 0; let w16 := w.getD 15 0
    let s1 := rotr 17 w2 ^^^ rotr 19 w2 ^^^ (w2 >>> 10)
    let s0 := rotr 7 w15 ^^^ rotr 18 w15 ^^^ (w15 >>> 3)
    shaSchedule n (add32 (add32 s1 w7) (add32 s0 w16) :: w)

/-- One round on the eight working words. -/
def shaRound (v : List Nat) (kw : Nat × Nat) : List Nat :=
  match v with
  | [a, b, c, d, e, f, g, h] =>
    let s1 := rotr 6 e ^^^ rotr 11 e ^^^ rotr 25 e
    let ch := (e &&& f) ^^^ (not32 e &&& g)
    let t1 := add32 (add32 h s1) (add32 ch (add32 kw.1 kw.2))
    let s0 := rotr 2 a ^^^ rotr 13 a ^^^ rotr 22 a
    let mj := (a &&& b) ^^^ (a &&& c) ^^^ (b &&& c)
    [add32 t1 (add32 s0 mj), a, b, c, add32 d t1, e, f, g]
  | _ => v

/-- Big-endian 32-bit words of bytes. -/
def beWords : Nat → List Byte → List Nat
  | 0, _ => []
  | n + 1, l => ofBe (l.take 4) :: beWords n (l.drop 4)

/-- The compression of one block of 64 bytes. -/
def shaBlock (h : List Nat) (blk : List Byte) : List Nat :=
  let w := (shaSchedule 48 (beWords 16 blk).reverse).reverse
  List.zipWith add32 h (((wordsOf 64 roundNum).zip w).foldl shaRound h)

/-- The blocks of a padded message, `n` of them. -/
def shaBlocks : Nat → List Nat → List Byte → List Nat
  | 0, h, _ => h
  | n + 1, h, l => shaBlocks n (shaBlock h (l.take 64)) (l.drop 64)

/-- SHA-256 padding. -/
def shaPad (l : List Byte) : List Byte :=
  l ++ [0x80] ++ List.replicate ((119 - l.length % 64) % 64) 0 ++ beBytes 8 (8 * l.length)

/-- SHA-256. -/
def sha256 (l : List Byte) : List Byte :=
  let p := shaPad l
  (shaBlocks (p.length / 64) (wordsOf 8 startNum) p).flatMap (beBytes 4)

/-- HMAC-SHA-256. -/
def hmac (key msg : List Byte) : List Byte :=
  let k := fit 64 (if key.length > 64 then sha256 key else key)
  sha256 (k.map (· ^^^ 0x5C) ++ sha256 (k.map (· ^^^ 0x36) ++ msg))

end Sys2Proof.Machine
end

