-- ==== Sys2Proof/Config.lean ====
section
/-! DEFINITION. What the manual leaves open, as constants without a body: nothing can be proved of their values, so a statement
holds for every one. -/
namespace Sys2Proof.Config

/-- Fresh bytes of a DRBG, of a raw collection or of another value that the manual leaves open, by the count of draws so far
(R531, R542; assumption 4). -/
opaque freeByte : Nat → Byte

/-- The boot ROM's contents, which the manual does not give (Table 01-2; assumption 5). -/
opaque romByte : Nat → Byte

/-- The damping of a step of the solver (R371), which the manual does not give: a factor in parts of 65,536, by the number of the run and of the step, the point and the inputs of the solve
(assumption 6). -/
opaque damping : List Int → Nat

/-- Values of R366 and R369 to which the formulas give none: the logarithm of a magnitude of 0, the cosine with a vector of length 0, and each axis of an aerial's field at the aerial itself
(assumption 6). -/
opaque lnZero : Int
opaque cosZero : Int
opaque fieldAtAerial : Nat → Int

/-- The UWB timestamp counter when the model's clock reads 0 (R324 gives its rate and width, not its start). -/
opaque uwbEpoch : Nat

/-- KEY_NONCE_CFG.DEVICE of the partner (R497): no frame of the link carries it (assumption 87). -/
opaque partnerNonceDevice : BitVec 32

/-- VER of the tag's GET_INFO (Table 14-5 gives its width, not its value). -/
opaque tagVersion : Byte

/-- The Sachexis firmware key of the boot ROM, x ‖ y (R815), with which every device leaves the factory: the manual does not give it. -/
opaque firmwareKey : List Byte

/-- TSU_SYNC as read at a time: the partner's reference offset and the skew absorbed, which the manual leaves to the link (Table 16-7). -/
opaque tsuSync : Nat → Nat

/-- What an internal timer or trim register reads at a time, by its address: the manual names these registers and gives no content. -/
opaque internalReg : Nat → Nat → Nat

end Sys2Proof.Config
end

