-- ==== Sys2Proof/Machine/Regs.lean ====
section
/-! DEFINITION. The register fields of the register tables (chapters 03 to 18), one constant a field, named
as the manual names it (R10, R15, R16, R17, R25). A field's constant says where it lies, what a write does to it (Table 00-4), what
it resets to and on which classes, and which values it takes (R875). -/
namespace Sys2Proof.Machine.Reg

/-! PWR (03_power_reset_clocks.md). -/
/-- PWR_SLEEP_CTL.TARGET (R163). -/
def PWR_SLEEP_CTL_TARGET : Field :=
  { id := 256, addr := 0x40010000, lo := 0, width := 3, acc := .rw, reset := 0, classes := 191, vals := [(1, 4)] }
/-- PWR_SLEEP_CTL.QUERY (R163). -/
def PWR_SLEEP_CTL_QUERY : Field := { id := 257, addr := 0x40010000, lo := 8, width := 1, acc := .sc, reset := 0, classes := 191 }
/-- PWR_SLEEP_CTL.COMMIT (R163). -/
def PWR_SLEEP_CTL_COMMIT : Field := { id := 258, addr := 0x40010000, lo := 9, width := 1, acc := .sc, reset := 0, classes := 191 }
/-- PWR_SLEEP_STAT.PHASE (R163). -/
def PWR_SLEEP_STAT_PHASE : Field :=
  { id := 259, addr := 0x40010004, lo := 0, width := 2, acc := .ro, reset := 0, classes := 255, live := true }
/-- PWR_SLEEP_STAT.OUTCOME (R163). -/
def PWR_SLEEP_STAT_OUTCOME : Field := { id := 260, addr := 0x40010004, lo := 2, width := 2, acc := .ro, reset := 0, classes := 191 }
/-- PWR_SLEEP_STAT.REFUSER (R163). -/
def PWR_SLEEP_STAT_REFUSER : Field := { id := 261, addr := 0x40010004, lo := 4, width := 5, acc := .ro, reset := 0, classes := 191 }
/-- PWR_SLEEP_STAT.CAUSE (R163). -/
def PWR_SLEEP_STAT_CAUSE : Field := { id := 262, addr := 0x40010004, lo := 12, width := 4, acc := .ro, reset := 0, classes := 191 }
/-- PWR_SLEEP_STAT.ENTERED (R163). -/
def PWR_SLEEP_STAT_ENTERED : Field := { id := 263, addr := 0x40010004, lo := 16, width := 3, acc := .ro, reset := 0, classes := 191 }
/-- PWR_WAKE_EN.LF (R163). -/
def PWR_WAKE_EN_LF : Field := { id := 264, addr := 0x40010008, lo := 0, width := 1, acc := .rwl, reset := 1, classes := 1 }
/-- PWR_WAKE_EN.UHF (R163). -/
def PWR_WAKE_EN_UHF : Field := { id := 265, addr := 0x40010008, lo := 1, width := 1, acc := .rwl, reset := 1, classes := 1 }
/-- PWR_WAKE_EN.TOUCH (R163). -/
def PWR_WAKE_EN_TOUCH : Field := { id := 266, addr := 0x40010008, lo := 2, width := 1, acc := .rwl, reset := 1, classes := 1 }
/-- PWR_WAKE_EN.FD (R163). -/
def PWR_WAKE_EN_FD : Field := { id := 267, addr := 0x40010008, lo := 3, width := 1, acc := .rwl, reset := 1, classes := 1 }
/-- PWR_WAKE_EN.CAN (R163). -/
def PWR_WAKE_EN_CAN : Field := { id := 268, addr := 0x40010008, lo := 4, width := 1, acc := .rwl, reset := 1, classes := 1 }
/-- PWR_WAKE_EN.RTC (R163). -/
def PWR_WAKE_EN_RTC : Field := { id := 269, addr := 0x40010008, lo := 5, width := 1, acc := .rwl, reset := 0, classes := 1 }
/-- PWR_WAKE_EN.HOST (R163). -/
def PWR_WAKE_EN_HOST : Field := { id := 270, addr := 0x40010008, lo := 6, width := 1, acc := .rwl, reset := 1, classes := 1 }
/-- PWR_WAKE_SRC.SOURCE (R163). -/
def PWR_WAKE_SRC_SOURCE : Field := { id := 271, addr := 0x4001000c, lo := 0, width := 4, acc := .ro, reset := 0, classes := 1 }
/-- PWR_WAKE_SRC.INDEX (R163). -/
def PWR_WAKE_SRC_INDEX : Field := { id := 272, addr := 0x4001000c, lo := 8, width := 4, acc := .ro, reset := 0, classes := 1 }
/-- PWR_RET_CFG.BANKS (R163). -/
def PWR_RET_CFG_BANKS : Field := { id := 273, addr := 0x40010010, lo := 0, width := 4, acc := .rwl, reset := 1, classes := 1 }
/-- PWR_RET_CFG.MODE (R163). -/
def PWR_RET_CFG_MODE : Field := { id := 274, addr := 0x40010010, lo := 8, width := 1, acc := .rwl, reset := 0, classes := 1 }
/-- PWR_IDLE_CFG.DAYS (R163). -/
def PWR_IDLE_CFG_DAYS : Field :=
  { id := 275, addr := 0x40010014, lo := 0, width := 6, acc := .rwl, reset := 21, classes := 1, vals := [(1, 60)] }
/-- PWR_IDLE_STAT.DAYS_ELAPSED (R163). -/
def PWR_IDLE_STAT_DAYS_ELAPSED : Field := { id := 276, addr := 0x40010018, lo := 0, width := 6, acc := .ro, reset := 0, classes := 1 }
/-- PWR_IDLE_STAT.STORAGE (R163). -/
def PWR_IDLE_STAT_STORAGE : Field := { id := 277, addr := 0x40010018, lo := 8, width := 1, acc := .ro, reset := 0, classes := 1 }
/-- PWR_RST_CAUSE.CAUSE (R163). -/
def PWR_RST_CAUSE_CAUSE : Field :=
  { id := 278, addr := 0x4001001c, lo := 0, width := 7, acc := .w1c, reset := 1, classes := 1, hostLevel := some 2 }
/-- PWR_RST_REQ.KEY (R163). -/
def PWR_RST_REQ_KEY : Field := { id := 279, addr := 0x40010020, lo := 0, width := 8, acc := .wo, reset := 0, classes := 0 }
/-- PWR_SUPPLY_STAT.DIP (R163). -/
def PWR_SUPPLY_STAT_DIP : Field :=
  { id := 280, addr := 0x40010024, lo := 0, width := 1, acc := .ro, reset := 0, classes := 255, live := true }
/-- PWR_SUPPLY_STAT.HOLDUP_READY (R163). -/
def PWR_SUPPLY_STAT_HOLDUP_READY : Field :=
  { id := 281, addr := 0x40010024, lo := 1, width := 1, acc := .ro, reset := 0, classes := 255, live := true }
/-- PWR_SUPPLY_STAT.VIO_OK (R163). -/
def PWR_SUPPLY_STAT_VIO_OK : Field :=
  { id := 282, addr := 0x40010024, lo := 2, width := 1, acc := .ro, reset := 0, classes := 255, live := true }
/-- PWR_SUPPLY_STAT.VDRV_OK (R163). -/
def PWR_SUPPLY_STAT_VDRV_OK : Field :=
  { id := 283, addr := 0x40010024, lo := 4, width := 4, acc := .ro, reset := 0, classes := 255, live := true }
/-- PWR_SUPPLY_STAT.DIP_COUNT (R163). -/
def PWR_SUPPLY_STAT_DIP_COUNT : Field := { id := 284, addr := 0x40010024, lo := 16, width := 16, acc := .ro, reset := 0, classes := 1 }
/-- PWR_BOOT_FAULT.STAGE (R163). -/
def PWR_BOOT_FAULT_STAGE : Field := { id := 285, addr := 0x40010028, lo := 0, width := 3, acc := .ro, reset := 0, classes := 1 }
/-- PWR_LOCK.LOCK (R163). -/
def PWR_LOCK_LOCK : Field := { id := 286, addr := 0x40010030, lo := 0, width := 1, acc := .w1s, reset := 0, classes := 191 }

/-- Every field of PWR. -/
def fieldsPWR : List Field :=
  [PWR_SLEEP_CTL_TARGET, PWR_SLEEP_CTL_QUERY, PWR_SLEEP_CTL_COMMIT, PWR_SLEEP_STAT_PHASE, PWR_SLEEP_STAT_OUTCOME, PWR_SLEEP_STAT_REFUSER, PWR_SLEEP_STAT_CAUSE, PWR_SLEEP_STAT_ENTERED] ++
  [PWR_WAKE_EN_LF, PWR_WAKE_EN_UHF, PWR_WAKE_EN_TOUCH, PWR_WAKE_EN_FD, PWR_WAKE_EN_CAN, PWR_WAKE_EN_RTC, PWR_WAKE_EN_HOST, PWR_WAKE_SRC_SOURCE] ++
  [PWR_WAKE_SRC_INDEX, PWR_RET_CFG_BANKS, PWR_RET_CFG_MODE, PWR_IDLE_CFG_DAYS, PWR_IDLE_STAT_DAYS_ELAPSED, PWR_IDLE_STAT_STORAGE, PWR_RST_CAUSE_CAUSE, PWR_RST_REQ_KEY] ++
  [PWR_SUPPLY_STAT_DIP, PWR_SUPPLY_STAT_HOLDUP_READY, PWR_SUPPLY_STAT_VIO_OK, PWR_SUPPLY_STAT_VDRV_OK, PWR_SUPPLY_STAT_DIP_COUNT, PWR_BOOT_FAULT_STAGE, PWR_LOCK_LOCK]

/-! CLK (03_power_reset_clocks.md). -/
/-- CLK_PERF.LEVEL (R164). -/
def CLK_PERF_LEVEL : Field := { id := 512, addr := 0x40020000, lo := 0, width := 2, acc := .rw, reset := 1, classes := 191 }
/-- CLK_PERF.GRANTED (R164). -/
def CLK_PERF_GRANTED : Field :=
  { id := 513, addr := 0x40020000, lo := 8, width := 2, acc := .ro, reset := 0, classes := 255, live := true }
/-- CLK_PERF.BUSY (R164). -/
def CLK_PERF_BUSY : Field :=
  { id := 514, addr := 0x40020000, lo := 16, width := 1, acc := .ro, reset := 0, classes := 255, live := true }
/-- CLK_CAPO_CFG.TJ_LIMIT (R164). -/
def CLK_CAPO_CFG_TJ_LIMIT : Field :=
  { id := 515, addr := 0x40020004, lo := 0, width := 8, acc := .rwl, reset := 140, classes := 191, vals := [(100, 140)] }
/-- CLK_CAPO_CFG.HYST (R164). -/
def CLK_CAPO_CFG_HYST : Field :=
  { id := 516, addr := 0x40020004, lo := 8, width := 8, acc := .rwl, reset := 5, classes := 191, vals := [(2, 20)] }
/-- CLK_CAPO_CFG.PWR_LIMIT (R164). -/
def CLK_CAPO_CFG_PWR_LIMIT : Field :=
  { id := 517, addr := 0x40020004, lo := 16, width := 12, acc := .rwl, reset := 3800, classes := 191, vals := [(2000, 3800)] }
/-- CLK_CAPO_STAT.LF_CAP (R164). -/
def CLK_CAPO_STAT_LF_CAP : Field :=
  { id := 518, addr := 0x40020008, lo := 0, width := 3, acc := .ro, reset := 0, classes := 255, live := true }
/-- CLK_CAPO_STAT.LEVEL_CAP (R164). -/
def CLK_CAPO_STAT_LEVEL_CAP : Field :=
  { id := 519, addr := 0x40020008, lo := 4, width := 2, acc := .ro, reset := 0, classes := 255, live := true }
/-- CLK_CAPO_STAT.TJ (R164). -/
def CLK_CAPO_STAT_TJ : Field :=
  { id := 520, addr := 0x40020008, lo := 8, width := 8, acc := .ro, reset := 0, classes := 255, live := true }
/-- CLK_CAPO_STAT.PWR_EST (R164). -/
def CLK_CAPO_STAT_PWR_EST : Field :=
  { id := 521, addr := 0x40020008, lo := 16, width := 12, acc := .ro, reset := 0, classes := 255, live := true }
/-- CLK_CAPO_STAT.THERMAL_STOP (R164). -/
def CLK_CAPO_STAT_THERMAL_STOP : Field :=
  { id := 522, addr := 0x40020008, lo := 28, width := 1, acc := .ro, reset := 0, classes := 255, live := true }
/-- CLK_DROOP.COUNT (R164). -/
def CLK_DROOP_COUNT : Field := { id := 523, addr := 0x4002000c, lo := 0, width := 16, acc := .ro, reset := 0, classes := 191 }
/-- CLK_DROOP.ACTIVE (R164). -/
def CLK_DROOP_ACTIVE : Field :=
  { id := 524, addr := 0x4002000c, lo := 16, width := 1, acc := .ro, reset := 0, classes := 255, live := true }
/-- CLK_LOCK.LOCK (R164). -/
def CLK_LOCK_LOCK : Field := { id := 525, addr := 0x40020010, lo := 0, width := 1, acc := .w1s, reset := 0, classes := 191 }

/-- Every field of CLK. -/
def fieldsCLK : List Field :=
  [CLK_PERF_LEVEL, CLK_PERF_GRANTED, CLK_PERF_BUSY, CLK_CAPO_CFG_TJ_LIMIT, CLK_CAPO_CFG_HYST, CLK_CAPO_CFG_PWR_LIMIT, CLK_CAPO_STAT_LF_CAP, CLK_CAPO_STAT_LEVEL_CAP] ++
  [CLK_CAPO_STAT_TJ, CLK_CAPO_STAT_PWR_EST, CLK_CAPO_STAT_THERMAL_STOP, CLK_DROOP_COUNT, CLK_DROOP_ACTIVE, CLK_LOCK_LOCK]

/-! LFA (04_lf_field_array.md). -/
/-- LFA_CTRL.EN (R221). -/
def LFA_CTRL_EN : Field := { id := 1536, addr := 0x40060000, lo := 0, width := 1, acc := .rwl, reset := 0, classes := 191 }
/-- LFA_CTRL.STOP (R221). -/
def LFA_CTRL_STOP : Field := { id := 1537, addr := 0x40060000, lo := 1, width := 1, acc := .sc, reset := 0, classes := 255 }
/-- LFA_CTRL.RUN_PING (R221). -/
def LFA_CTRL_RUN_PING : Field := { id := 1538, addr := 0x40060000, lo := 8, width := 1, acc := .rwl, reset := 0, classes := 191 }
/-- LFA_CTRL.REF_OUT (R221). -/
def LFA_CTRL_REF_OUT : Field := { id := 1539, addr := 0x40060000, lo := 9, width := 1, acc := .rw, reset := 0, classes := 255 }
/-- LFA_CARRIER.FREQ (R221). -/
def LFA_CARRIER_FREQ : Field :=
  { id := 1540, addr := 0x40060004, lo := 0, width := 18, acc := .rwl, reset := 125000, classes := 191, vals := [(100000, 150000)] }
/-- LFA_SCHED_CFG.CAP_WAIT (R221). -/
def LFA_SCHED_CFG_CAP_WAIT : Field := { id := 1541, addr := 0x40060008, lo := 0, width := 8, acc := .rwl, reset := 8, classes := 191 }
/-- LFA_SCHED_STAT.DESC (R221). -/
def LFA_SCHED_STAT_DESC : Field :=
  { id := 1542, addr := 0x4006000c, lo := 0, width := 8, acc := .ro, reset := 0, classes := 255, live := true }
/-- LFA_SCHED_STAT.ISSUER (R221). -/
def LFA_SCHED_STAT_ISSUER : Field :=
  { id := 1543, addr := 0x4006000c, lo := 8, width := 3, acc := .ro, reset := 0, classes := 255, live := true }
/-- LFA_SCHED_STAT.FRETS (R221). -/
def LFA_SCHED_STAT_FRETS : Field :=
  { id := 1544, addr := 0x4006000c, lo := 16, width := 16, acc := .ro, reset := 0, classes := 255, live := true }
/-- LFA_PING_CFG.MASK (R221). -/
def LFA_PING_CFG_MASK : Field := { id := 1545, addr := 0x40060010, lo := 0, width := 16, acc := .rwl, reset := 0, classes := 191 }
/-- LFA_PING_CFG.AMPL (R221). -/
def LFA_PING_CFG_AMPL : Field := { id := 1546, addr := 0x40060010, lo := 16, width := 10, acc := .rwl, reset := 128, classes := 191 }
/-- LFA_PING_PER.PER_RUN (R221). -/
def LFA_PING_PER_PER_RUN : Field :=
  { id := 1547, addr := 0x40060014, lo := 0, width := 8, acc := .rwl, reset := 100, classes := 191, vals := [(50, 250)] }
/-- LFA_PING_PER.PER_S1 (R221). -/
def LFA_PING_PER_PER_S1 : Field :=
  { id := 1548, addr := 0x40060014, lo := 8, width := 8, acc := .rwl, reset := 100, classes := 191, vals := [(50, 250)] }
/-- LFA_PRES_CFG.DF_THRESH (R221). -/
def LFA_PRES_CFG_DF_THRESH : Field :=
  { id := 1549, addr := 0x40060018, lo := 0, width := 10, acc := .rwl, reset := 150, classes := 191, vals := [(10, 1000)] }
/-- LFA_PRES_CFG.Q_THRESH (R221). -/
def LFA_PRES_CFG_Q_THRESH : Field :=
  { id := 1550, addr := 0x40060018, lo := 10, width := 6, acc := .rwl, reset := 8, classes := 191, vals := [(1, 50)] }
/-- LFA_PRES_CFG.PRES_COUNT (R221). -/
def LFA_PRES_CFG_PRES_COUNT : Field := { id := 1551, addr := 0x40060018, lo := 16, width := 2, acc := .rwl, reset := 0, classes := 191 }
/-- LFA_PRES_CFG.PRES_HOLD (R221). -/
def LFA_PRES_CFG_PRES_HOLD : Field :=
  { id := 1552, addr := 0x40060018, lo := 24, width := 8, acc := .rwl, reset := 30, classes := 191, vals := [(1, 255)] }
/-- LFA_LOCK.LOCK (R221). -/
def LFA_LOCK_LOCK : Field := { id := 1553, addr := 0x4006001c, lo := 0, width := 1, acc := .w1s, reset := 0, classes := 191 }
/-- LFA_CH_CFG.EN (R221). -/
def LFA_CH_CFG_EN : Field :=
  { id := 1554, addr := 0x40060100, lo := 0, width := 1, acc := .rwl, reset := 0, classes := 191, count := 16, stride := 0x20 }
/-- LFA_CH_CFG.DETUNE_LIM (R221). -/
def LFA_CH_CFG_DETUNE_LIM : Field :=
  { id := 1555, addr := 0x40060100, lo := 8, width := 8, acc := .rwl, reset := 40, classes := 191, count := 16, stride := 0x20 }
/-- LFA_CH_CAL.GAIN (R221). -/
def LFA_CH_CAL_GAIN : Field :=
  { id := 1556, addr := 0x40060104, lo := 0, width := 10, acc := .rwl, reset := 512, classes := 191, count := 16, stride := 0x20 }
/-- LFA_CH_CAL.PHASE_OFS (R221). -/
def LFA_CH_CAL_PHASE_OFS : Field :=
  { id := 1557, addr := 0x40060104, lo := 16, width := 8, acc := .rwl, reset := 0, classes := 191, count := 16, stride := 0x20 }
/-- LFA_CH_STAT.OVERCURRENT (R221). -/
def LFA_CH_STAT_OVERCURRENT : Field :=
  { id := 1558, addr := 0x40060108, lo := 0, width := 1, acc := .w1c, reset := 0, classes := 255, count := 16, stride := 0x20 }
/-- LFA_CH_STAT.OPEN_LOAD (R221). -/
def LFA_CH_STAT_OPEN_LOAD : Field :=
  { id := 1559, addr := 0x40060108, lo := 1, width := 1, acc := .w1c, reset := 0, classes := 255, count := 16, stride := 0x20 }
/-- LFA_CH_STAT.SATURATED (R221). -/
def LFA_CH_STAT_SATURATED : Field :=
  { id := 1560, addr := 0x40060108, lo := 2, width := 1, acc := .w1c, reset := 0, classes := 255, count := 16, stride := 0x20 }
/-- LFA_CH_STAT.PHASE_ERR (R221). -/
def LFA_CH_STAT_PHASE_ERR : Field :=
  { id := 1561, addr := 0x40060108, lo := 3, width := 1, acc := .w1c, reset := 0, classes := 255, count := 16, stride := 0x20 }
/-- LFA_CH_STAT.VDRV_LOW (R221). -/
def LFA_CH_STAT_VDRV_LOW : Field :=
  { id := 1562, addr := 0x40060108, lo := 4, width := 1, acc := .w1c, reset := 0, classes := 255, count := 16, stride := 0x20 }
/-- LFA_CH_STAT.DETUNED (R221). -/
def LFA_CH_STAT_DETUNED : Field :=
  { id := 1563, addr := 0x40060108, lo := 5, width := 1, acc := .w1c, reset := 0, classes := 255, count := 16, stride := 0x20 }
/-- LFA_CH_STAT.DISABLED (R221). -/
def LFA_CH_STAT_DISABLED : Field :=
  { id := 1564, addr := 0x40060108, lo := 6, width := 1, acc := .w1c, reset := 0, classes := 255, count := 16, stride := 0x20 }
/-- LFA_CH_STAT.STUCK (R221). -/
def LFA_CH_STAT_STUCK : Field :=
  { id := 1565, addr := 0x40060108, lo := 7, width := 1, acc := .w1c, reset := 0, classes := 255, count := 16, stride := 0x20 }
/-- LFA_CH_STAT.PRESENCE (R221). -/
def LFA_CH_STAT_PRESENCE : Field :=
  { id := 1566, addr := 0x40060108, lo := 8, width := 1, acc := .ro, reset := 0, classes := 255, count := 16, stride := 0x20, live := true }
/-- LFA_CH_STAT.PING_SKIP (R221). -/
def LFA_CH_STAT_PING_SKIP : Field :=
  { id := 1567, addr := 0x40060108, lo := 16, width := 8, acc := .ro, reset := 0, classes := 255, count := 16, stride := 0x20 }
/-- LFA_CH_MEAS.I_PK (R221). -/
def LFA_CH_MEAS_I_PK : Field :=
  { id := 1568, addr := 0x4006010c, lo := 0, width := 10, acc := .ro, reset := 0, classes := 255, count := 16, stride := 0x20 }
/-- LFA_CH_MEAS.PHASE (R221). -/
def LFA_CH_MEAS_PHASE : Field :=
  { id := 1569, addr := 0x4006010c, lo := 16, width := 8, acc := .ro, reset := 0, classes := 255, count := 16, stride := 0x20 }
/-- LFA_CH_RING.DF (R221). -/
def LFA_CH_RING_DF : Field :=
  { id := 1570, addr := 0x40060110, lo := 0, width := 16, acc := .ro, reset := 0, classes := 255, count := 16, stride := 0x20 }
/-- LFA_CH_RING.Q (R221). -/
def LFA_CH_RING_Q : Field :=
  { id := 1571, addr := 0x40060110, lo := 16, width := 8, acc := .ro, reset := 0, classes := 255, count := 16, stride := 0x20 }
/-- LFA_CH_BASE.DF_BASE (R221). -/
def LFA_CH_BASE_DF_BASE : Field :=
  { id := 1572, addr := 0x40060114, lo := 0, width := 16, acc := .ro, reset := 0, classes := 191, count := 16, stride := 0x20 }
/-- LFA_CH_BASE.Q_BASE (R221). -/
def LFA_CH_BASE_Q_BASE : Field :=
  { id := 1573, addr := 0x40060114, lo := 16, width := 8, acc := .ro, reset := 0, classes := 191, count := 16, stride := 0x20 }

/-- Every field of LFA. -/
def fieldsLFA : List Field :=
  [LFA_CTRL_EN, LFA_CTRL_STOP, LFA_CTRL_RUN_PING, LFA_CTRL_REF_OUT, LFA_CARRIER_FREQ, LFA_SCHED_CFG_CAP_WAIT, LFA_SCHED_STAT_DESC, LFA_SCHED_STAT_ISSUER] ++
  [LFA_SCHED_STAT_FRETS, LFA_PING_CFG_MASK, LFA_PING_CFG_AMPL, LFA_PING_PER_PER_RUN, LFA_PING_PER_PER_S1, LFA_PRES_CFG_DF_THRESH, LFA_PRES_CFG_Q_THRESH, LFA_PRES_CFG_PRES_COUNT] ++
  [LFA_PRES_CFG_PRES_HOLD, LFA_LOCK_LOCK, LFA_CH_CFG_EN, LFA_CH_CFG_DETUNE_LIM, LFA_CH_CAL_GAIN, LFA_CH_CAL_PHASE_OFS, LFA_CH_STAT_OVERCURRENT, LFA_CH_STAT_OPEN_LOAD] ++
  [LFA_CH_STAT_SATURATED, LFA_CH_STAT_PHASE_ERR, LFA_CH_STAT_VDRV_LOW, LFA_CH_STAT_DETUNED, LFA_CH_STAT_DISABLED, LFA_CH_STAT_STUCK, LFA_CH_STAT_PRESENCE, LFA_CH_STAT_PING_SKIP] ++
  [LFA_CH_MEAS_I_PK, LFA_CH_MEAS_PHASE, LFA_CH_RING_DF, LFA_CH_RING_Q, LFA_CH_BASE_DF_BASE, LFA_CH_BASE_Q_BASE]

/-! TCH (04_lf_field_array.md). -/
/-- TCH_CTRL.EN (R222). -/
def TCH_CTRL_EN : Field := { id := 7168, addr := 0x401c0000, lo := 0, width := 8, acc := .rwl, reset := 0, classes := 191 }
/-- TCH_SCAN.PER_RUN (R222). -/
def TCH_SCAN_PER_RUN : Field :=
  { id := 7169, addr := 0x401c0004, lo := 0, width := 8, acc := .rwl, reset := 20, classes := 191, vals := [(10, 100)] }
/-- TCH_SCAN.PER_SLEEP (R222). -/
def TCH_SCAN_PER_SLEEP : Field :=
  { id := 7170, addr := 0x401c0004, lo := 8, width := 8, acc := .rwl, reset := 100, classes := 191, vals := [(20, 250)] }
/-- TCH_LOCK.LOCK (R222). -/
def TCH_LOCK_LOCK : Field := { id := 7171, addr := 0x401c0008, lo := 0, width := 1, acc := .w1s, reset := 0, classes := 191 }
/-- TCH_CFG.AERIAL (R222). -/
def TCH_CFG_AERIAL : Field :=
  { id := 7172, addr := 0x401c0010, lo := 0, width := 4, acc := .rwl, reset := 0, classes := 191, count := 8, stride := 0x4 }
/-- TCH_CFG.THRESH (R222). -/
def TCH_CFG_THRESH : Field :=
  { id := 7173, addr := 0x401c0010, lo := 4, width := 8, acc := .rwl, reset := 10, classes := 191, vals := [(2, 255)], count := 8, stride := 0x4 }
/-- TCH_CFG.DEB (R222). -/
def TCH_CFG_DEB : Field :=
  { id := 7174, addr := 0x401c0010, lo := 12, width := 2, acc := .rwl, reset := 1, classes := 191, count := 8, stride := 0x4 }
/-- TCH_STAT.C (R222). -/
def TCH_STAT_C : Field :=
  { id := 7175, addr := 0x401c0040, lo := 0, width := 12, acc := .ro, reset := 0, classes := 255, count := 8, stride := 0x4, live := true }
/-- TCH_STAT.BASE (R222). -/
def TCH_STAT_BASE : Field :=
  { id := 7176, addr := 0x401c0040, lo := 16, width := 12, acc := .ro, reset := 0, classes := 191, count := 8, stride := 0x4 }
/-- TCH_STAT.TOUCH (R222). -/
def TCH_STAT_TOUCH : Field :=
  { id := 7177, addr := 0x401c0040, lo := 31, width := 1, acc := .ro, reset := 0, classes := 255, count := 8, stride := 0x4, live := true }

/-- Every field of TCH. -/
def fieldsTCH : List Field :=
  [TCH_CTRL_EN, TCH_SCAN_PER_RUN, TCH_SCAN_PER_SLEEP, TCH_LOCK_LOCK, TCH_CFG_AERIAL, TCH_CFG_THRESH, TCH_CFG_DEB, TCH_STAT_C] ++
  [TCH_STAT_BASE, TCH_STAT_TOUCH]

/-! GLT (05_gelet_link_anticollision.md). -/
/-- GLT_CTRL.EN (R273). -/
def GLT_CTRL_EN : Field := { id := 1792, addr := 0x40070000, lo := 0, width := 1, acc := .rwl, reset := 0, classes := 191 }
/-- GLT_CTRL.PASSIVE_EN (R273). -/
def GLT_CTRL_PASSIVE_EN : Field := { id := 1793, addr := 0x40070000, lo := 1, width := 1, acc := .rwl, reset := 0, classes := 191 }
/-- GLT_GROUP.GROUP (R273). -/
def GLT_GROUP_GROUP : Field := { id := 1794, addr := 0x40070004, lo := 0, width := 16, acc := .rwl, reset := 0, classes := 191 }
/-- GLT_SESS_CFG.Q_START (R273). -/
def GLT_SESS_CFG_Q_START : Field :=
  { id := 1795, addr := 0x40070008, lo := 0, width := 4, acc := .rwl, reset := 2, classes := 191, vals := [(0, 10)] }
/-- GLT_SESS_CFG.MAX_ROUNDS (R273). -/
def GLT_SESS_CFG_MAX_ROUNDS : Field :=
  { id := 1796, addr := 0x40070008, lo := 4, width := 4, acc := .rwl, reset := 6, classes := 191, vals := [(1, 15)] }
/-- GLT_SESS_CFG.MAX_TOKENS (R273). -/
def GLT_SESS_CFG_MAX_TOKENS : Field :=
  { id := 1797, addr := 0x40070008, lo := 8, width := 4, acc := .rwl, reset := 8, classes := 191, vals := [(1, 8)] }
/-- GLT_SESS_CFG.RETRY (R273). -/
def GLT_SESS_CFG_RETRY : Field := { id := 1798, addr := 0x40070008, lo := 12, width := 2, acc := .rwl, reset := 2, classes := 191 }
/-- GLT_SESS_CFG.PRE (R273). -/
def GLT_SESS_CFG_PRE : Field :=
  { id := 1799, addr := 0x40070008, lo := 16, width := 4, acc := .rwl, reset := 2, classes := 191, vals := [(1, 8)] }
/-- GLT_SESS_CFG.T_MAX (R273). -/
def GLT_SESS_CFG_T_MAX : Field :=
  { id := 1800, addr := 0x40070008, lo := 20, width := 12, acc := .rwl, reset := 250, classes := 191, vals := [(50, 1000)] }
/-- GLT_SESS_CTL.OPEN (R273). -/
def GLT_SESS_CTL_OPEN : Field := { id := 1801, addr := 0x40070010, lo := 0, width := 1, acc := .sc, reset := 0, classes := 255 }
/-- GLT_SESS_CTL.ABORT (R273). -/
def GLT_SESS_CTL_ABORT : Field := { id := 1802, addr := 0x40070010, lo := 1, width := 1, acc := .sc, reset := 0, classes := 255 }
/-- GLT_SESS_CTL.TEMPLATE (R273). -/
def GLT_SESS_CTL_TEMPLATE : Field := { id := 1803, addr := 0x40070010, lo := 8, width := 4, acc := .rw, reset := 0, classes := 255 }
/-- GLT_SESS_STAT.STATE (R273). -/
def GLT_SESS_STAT_STATE : Field :=
  { id := 1804, addr := 0x40070014, lo := 0, width := 3, acc := .ro, reset := 0, classes := 255, live := true }
/-- GLT_SESS_STAT.TAG (R273). -/
def GLT_SESS_STAT_TAG : Field :=
  { id := 1805, addr := 0x40070014, lo := 8, width := 8, acc := .ro, reset := 0, classes := 255, live := true }
/-- GLT_SESS_STAT.TOKENS (R273). -/
def GLT_SESS_STAT_TOKENS : Field :=
  { id := 1806, addr := 0x40070014, lo := 16, width := 4, acc := .ro, reset := 0, classes := 255, live := true }
/-- GLT_SESS_STAT.ROUND (R273). -/
def GLT_SESS_STAT_ROUND : Field :=
  { id := 1807, addr := 0x40070014, lo := 20, width := 4, acc := .ro, reset := 0, classes := 255, live := true }
/-- GLT_SESS_STAT.Q (R273). -/
def GLT_SESS_STAT_Q : Field :=
  { id := 1808, addr := 0x40070014, lo := 24, width := 4, acc := .ro, reset := 0, classes := 255, live := true }
/-- GLT_SESS_NUM.NUMBER (R273). -/
def GLT_SESS_NUM_NUMBER : Field := { id := 1809, addr := 0x40070018, lo := 0, width := 32, acc := .ro, reset := 0, classes := 191 }
/-- GLT_LAST.STATUS (R273). -/
def GLT_LAST_STATUS : Field := { id := 1810, addr := 0x4007001c, lo := 0, width := 8, acc := .ro, reset := 0, classes := 255 }
/-- GLT_LAST.CAUSE (R273). -/
def GLT_LAST_CAUSE : Field := { id := 1811, addr := 0x4007001c, lo := 8, width := 8, acc := .ro, reset := 0, classes := 255 }
/-- GLT_ERR.CRC (R273). -/
def GLT_ERR_CRC : Field := { id := 1812, addr := 0x40070020, lo := 0, width := 8, acc := .ro, reset := 0, classes := 255 }
/-- GLT_ERR.TIMING (R273). -/
def GLT_ERR_TIMING : Field := { id := 1813, addr := 0x40070020, lo := 8, width := 8, acc := .ro, reset := 0, classes := 255 }
/-- GLT_ERR.COLLISION (R273). -/
def GLT_ERR_COLLISION : Field := { id := 1814, addr := 0x40070020, lo := 16, width := 8, acc := .ro, reset := 0, classes := 255 }
/-- GLT_ERR.NO_REPLY (R273). -/
def GLT_ERR_NO_REPLY : Field := { id := 1815, addr := 0x40070020, lo := 24, width := 8, acc := .ro, reset := 0, classes := 255 }
/-- GLT_ERR_CLR.CLR (R273). -/
def GLT_ERR_CLR_CLR : Field := { id := 1816, addr := 0x40070024, lo := 0, width := 1, acc := .wo, reset := 0, classes := 0 }
/-- GLT_LOCK.LOCK (R273). -/
def GLT_LOCK_LOCK : Field := { id := 1817, addr := 0x40070030, lo := 0, width := 1, acc := .w1s, reset := 0, classes := 191 }
/-- GLT_TOKEN.HANDLE (R273). -/
def GLT_TOKEN_HANDLE : Field :=
  { id := 1818, addr := 0x40070040, lo := 0, width := 16, acc := .ro, reset := 0, classes := 255, count := 8, stride := 0x4, live := true }
/-- GLT_TOKEN.STATE (R273). -/
def GLT_TOKEN_STATE : Field :=
  { id := 1819, addr := 0x40070040, lo := 16, width := 3, acc := .ro, reset := 0, classes := 255, count := 8, stride := 0x4, live := true }
/-- GLT_AUTH_CFG.GRP_SLOT (R315). -/
def GLT_AUTH_CFG_GRP_SLOT : Field := { id := 1820, addr := 0x40070100, lo := 0, width := 8, acc := .rwl, reset := 0, classes := 191 }
/-- GLT_LOCKOUT_CFG.MINUTES (R315). -/
def GLT_LOCKOUT_CFG_MINUTES : Field :=
  { id := 1821, addr := 0x40070104, lo := 0, width := 5, acc := .rwl, reset := 5, classes := 191, vals := [(1, 30)] }
/-- GLT_LOCKOUT_STAT.DEVICE (R315). -/
def GLT_LOCKOUT_STAT_DEVICE : Field :=
  { id := 1822, addr := 0x40070108, lo := 0, width := 1, acc := .ro, reset := 0, classes := 255, live := true }
/-- GLT_LOCKOUT_STAT.CREDS (R315). -/
def GLT_LOCKOUT_STAT_CREDS : Field :=
  { id := 1823, addr := 0x40070108, lo := 8, width := 8, acc := .ro, reset := 0, classes := 255, live := true }
/-- GLT_LOCKOUT_STAT.DEV_FAILS (R315). -/
def GLT_LOCKOUT_STAT_DEV_FAILS : Field :=
  { id := 1824, addr := 0x40070108, lo := 16, width := 5, acc := .ro, reset := 0, classes := 255, live := true }
/-- GLT_LOCKOUT_STAT.DEV_REMAIN (R315). -/
def GLT_LOCKOUT_STAT_DEV_REMAIN : Field :=
  { id := 1825, addr := 0x40070108, lo := 21, width := 11, acc := .ro, reset := 0, classes := 255, live := true }
/-- GLT_LOCKOUT_QRY.INDEX (R315). -/
def GLT_LOCKOUT_QRY_INDEX : Field := { id := 1826, addr := 0x4007010c, lo := 0, width := 12, acc := .rw, reset := 0, classes := 255 }
/-- GLT_LOCKOUT_ANS.LOCKED (R315). -/
def GLT_LOCKOUT_ANS_LOCKED : Field :=
  { id := 1827, addr := 0x40070110, lo := 0, width := 1, acc := .ro, reset := 0, classes := 255, live := true }
/-- GLT_LOCKOUT_ANS.REMAIN (R315). -/
def GLT_LOCKOUT_ANS_REMAIN : Field :=
  { id := 1828, addr := 0x40070110, lo := 1, width := 11, acc := .ro, reset := 0, classes := 255, live := true }
/-- GLT_LOCKOUT_ANS.FAILS (R315). -/
def GLT_LOCKOUT_ANS_FAILS : Field :=
  { id := 1829, addr := 0x40070110, lo := 12, width := 3, acc := .ro, reset := 0, classes := 255, live := true }
/-- GLT_LOCKOUT_CLR.DEVICE (R315). -/
def GLT_LOCKOUT_CLR_DEVICE : Field :=
  { id := 1830, addr := 0x40070114, lo := 0, width := 1, acc := .wo, reset := 0, classes := 0, windowOnly := true }
/-- GLT_LOCKOUT_CLR.CRED (R315). -/
def GLT_LOCKOUT_CLR_CRED : Field :=
  { id := 1831, addr := 0x40070114, lo := 1, width := 1, acc := .wo, reset := 0, classes := 0, windowOnly := true }
/-- GLT_LOCKOUT_CLR.ALL (R315). -/
def GLT_LOCKOUT_CLR_ALL : Field :=
  { id := 1832, addr := 0x40070114, lo := 2, width := 1, acc := .wo, reset := 0, classes := 0, windowOnly := true }
/-- GLT_LOCKOUT_CLR.INDEX (R315). -/
def GLT_LOCKOUT_CLR_INDEX : Field :=
  { id := 1833, addr := 0x40070114, lo := 16, width := 12, acc := .wo, reset := 0, classes := 0, windowOnly := true }
/-- GLT_AUTH_STAT.PROOF_OK (R315). -/
def GLT_AUTH_STAT_PROOF_OK : Field := { id := 1834, addr := 0x40070118, lo := 0, width := 16, acc := .ro, reset := 0, classes := 255 }
/-- GLT_AUTH_STAT.PROOF_FAIL (R315). -/
def GLT_AUTH_STAT_PROOF_FAIL : Field := { id := 1835, addr := 0x40070118, lo := 16, width := 8, acc := .ro, reset := 0, classes := 255 }
/-- GLT_AUTH_STAT.UNKNOWN (R315). -/
def GLT_AUTH_STAT_UNKNOWN : Field := { id := 1836, addr := 0x40070118, lo := 24, width := 8, acc := .ro, reset := 0, classes := 255 }
/-- GLT_BTN_STAT.ACCEPTED (R315). -/
def GLT_BTN_STAT_ACCEPTED : Field := { id := 1837, addr := 0x4007011c, lo := 0, width := 16, acc := .ro, reset := 0, classes := 255 }
/-- GLT_BTN_STAT.REJECTED (R315). -/
def GLT_BTN_STAT_REJECTED : Field := { id := 1838, addr := 0x4007011c, lo := 16, width := 8, acc := .ro, reset := 0, classes := 255 }
/-- GLT_BTN_STAT.UNKNOWN (R315). -/
def GLT_BTN_STAT_UNKNOWN : Field := { id := 1839, addr := 0x4007011c, lo := 24, width := 8, acc := .ro, reset := 0, classes := 255 }
/-- GLT_BTN_PEND.COUNT (R315). -/
def GLT_BTN_PEND_COUNT : Field :=
  { id := 1840, addr := 0x40070120, lo := 0, width := 4, acc := .ro, reset := 0, classes := 255, live := true }
/-- GLT_BTN_MAP.CODE (R315). -/
def GLT_BTN_MAP_CODE : Field :=
  { id := 1841, addr := 0x40070140, lo := 0, width := 8, acc := .rwl, reset := 0, classes := 191, count := 8, stride := 0x4 }
/-- GLT_BTN_MAP.TEMPLATE (R315). -/
def GLT_BTN_MAP_TEMPLATE : Field :=
  { id := 1842, addr := 0x40070140, lo := 8, width := 4, acc := .rwl, reset := 0, classes := 191, count := 8, stride := 0x4 }
/-- GLT_BTN_MAP.OPEN (R315). -/
def GLT_BTN_MAP_OPEN : Field :=
  { id := 1843, addr := 0x40070140, lo := 12, width := 1, acc := .rwl, reset := 0, classes := 191, count := 8, stride := 0x4 }
/-- GLT_BTN_MAP.EN (R315). -/
def GLT_BTN_MAP_EN : Field :=
  { id := 1844, addr := 0x40070140, lo := 13, width := 1, acc := .rwl, reset := 0, classes := 191, count := 8, stride := 0x4 }

/-- Every field of GLT. -/
def fieldsGLT : List Field :=
  [GLT_CTRL_EN, GLT_CTRL_PASSIVE_EN, GLT_GROUP_GROUP, GLT_SESS_CFG_Q_START, GLT_SESS_CFG_MAX_ROUNDS, GLT_SESS_CFG_MAX_TOKENS, GLT_SESS_CFG_RETRY, GLT_SESS_CFG_PRE] ++
  [GLT_SESS_CFG_T_MAX, GLT_SESS_CTL_OPEN, GLT_SESS_CTL_ABORT, GLT_SESS_CTL_TEMPLATE, GLT_SESS_STAT_STATE, GLT_SESS_STAT_TAG, GLT_SESS_STAT_TOKENS, GLT_SESS_STAT_ROUND] ++
  [GLT_SESS_STAT_Q, GLT_SESS_NUM_NUMBER, GLT_LAST_STATUS, GLT_LAST_CAUSE, GLT_ERR_CRC, GLT_ERR_TIMING, GLT_ERR_COLLISION, GLT_ERR_NO_REPLY] ++
  [GLT_ERR_CLR_CLR, GLT_LOCK_LOCK, GLT_TOKEN_HANDLE, GLT_TOKEN_STATE, GLT_AUTH_CFG_GRP_SLOT, GLT_LOCKOUT_CFG_MINUTES, GLT_LOCKOUT_STAT_DEVICE, GLT_LOCKOUT_STAT_CREDS] ++
  [GLT_LOCKOUT_STAT_DEV_FAILS, GLT_LOCKOUT_STAT_DEV_REMAIN, GLT_LOCKOUT_QRY_INDEX, GLT_LOCKOUT_ANS_LOCKED, GLT_LOCKOUT_ANS_REMAIN, GLT_LOCKOUT_ANS_FAILS, GLT_LOCKOUT_CLR_DEVICE, GLT_LOCKOUT_CLR_CRED] ++
  [GLT_LOCKOUT_CLR_ALL, GLT_LOCKOUT_CLR_INDEX, GLT_AUTH_STAT_PROOF_OK, GLT_AUTH_STAT_PROOF_FAIL, GLT_AUTH_STAT_UNKNOWN, GLT_BTN_STAT_ACCEPTED, GLT_BTN_STAT_REJECTED, GLT_BTN_STAT_UNKNOWN] ++
  [GLT_BTN_PEND_COUNT, GLT_BTN_MAP_CODE, GLT_BTN_MAP_TEMPLATE, GLT_BTN_MAP_OPEN, GLT_BTN_MAP_EN]

/-! UHF (05_gelet_link_anticollision.md). -/
/-- UHF_CTRL.EN (R274). -/
def UHF_CTRL_EN : Field := { id := 2048, addr := 0x40080000, lo := 0, width := 2, acc := .rwl, reset := 0, classes := 191 }
/-- UHF_CTRL.SNIFF (R274). -/
def UHF_CTRL_SNIFF : Field := { id := 2049, addr := 0x40080000, lo := 4, width := 1, acc := .rwl, reset := 0, classes := 191 }
/-- UHF_JAM.THRESH (R274). -/
def UHF_JAM_THRESH : Field := { id := 2050, addr := 0x40080004, lo := 0, width := 8, acc := .rwl, reset := 196, classes := 191 }
/-- UHF_SNIFF.PER (R274). -/
def UHF_SNIFF_PER : Field :=
  { id := 2051, addr := 0x40080008, lo := 0, width := 12, acc := .rwl, reset := 250, classes := 191, vals := [(100, 2000)] }
/-- UHF_LOCK.LOCK (R274). -/
def UHF_LOCK_LOCK : Field := { id := 2052, addr := 0x4008000c, lo := 0, width := 1, acc := .w1s, reset := 0, classes := 191 }
/-- UHF_FREQ.KHZ (R274). -/
def UHF_FREQ_KHZ : Field :=
  { id := 2053, addr := 0x40080010, lo := 0, width := 20, acc := .rwl, reset := 433920, classes := 191, more := [(1, 868300)], count := 2, stride := 0x10 }
/-- UHF_MOD.ASK (R274). -/
def UHF_MOD_ASK : Field :=
  { id := 2054, addr := 0x40080014, lo := 0, width := 1, acc := .rwl, reset := 0, classes := 191, count := 2, stride := 0x10 }
/-- UHF_MOD.RATE (R274). -/
def UHF_MOD_RATE : Field :=
  { id := 2055, addr := 0x40080014, lo := 1, width := 2, acc := .rwl, reset := 0, classes := 191, vals := [(0, 2)], count := 2, stride := 0x10 }
/-- UHF_MOD.DEV (R274). -/
def UHF_MOD_DEV : Field :=
  { id := 2056, addr := 0x40080014, lo := 8, width := 8, acc := .rwl, reset := 40, classes := 191, count := 2, stride := 0x10 }
/-- UHF_STAT.RSSI (R274). -/
def UHF_STAT_RSSI : Field :=
  { id := 2057, addr := 0x40080018, lo := 0, width := 8, acc := .ro, reset := 0, classes := 255, count := 2, stride := 0x10, live := true }
/-- UHF_STAT.JAM (R274). -/
def UHF_STAT_JAM : Field :=
  { id := 2058, addr := 0x40080018, lo := 8, width := 1, acc := .ro, reset := 0, classes := 255, count := 2, stride := 0x10, live := true }
/-- UHF_STAT.LOCKED (R274). -/
def UHF_STAT_LOCKED : Field :=
  { id := 2059, addr := 0x40080018, lo := 9, width := 1, acc := .ro, reset := 0, classes := 255, count := 2, stride := 0x10, live := true }
/-- UHF_STAT.FRAMES (R274). -/
def UHF_STAT_FRAMES : Field :=
  { id := 2060, addr := 0x40080018, lo := 16, width := 16, acc := .ro, reset := 0, classes := 255, count := 2, stride := 0x10 }

/-- Every field of UHF. -/
def fieldsUHF : List Field :=
  [UHF_CTRL_EN, UHF_CTRL_SNIFF, UHF_JAM_THRESH, UHF_SNIFF_PER, UHF_LOCK_LOCK, UHF_FREQ_KHZ, UHF_MOD_ASK, UHF_MOD_RATE] ++
  [UHF_MOD_DEV, UHF_STAT_RSSI, UHF_STAT_JAM, UHF_STAT_LOCKED, UHF_STAT_FRAMES]

/-! UWB (07_uwb_ranging_distance_bound.md). -/
/-- UWB_CTRL.EN (R361). -/
def UWB_CTRL_EN : Field := { id := 2304, addr := 0x40090000, lo := 0, width := 1, acc := .rwl, reset := 0, classes := 191 }
/-- UWB_CTRL.PORT_EN (R361). -/
def UWB_CTRL_PORT_EN : Field := { id := 2305, addr := 0x40090000, lo := 4, width := 4, acc := .rwl, reset := 0, classes := 191 }
/-- UWB_PROFILE.CHAN (R361). -/
def UWB_PROFILE_CHAN : Field := { id := 2306, addr := 0x40090004, lo := 0, width := 1, acc := .rwl, reset := 1, classes := 191 }
/-- UWB_PROFILE.CODE (R361). -/
def UWB_PROFILE_CODE : Field :=
  { id := 2307, addr := 0x40090004, lo := 2, width := 4, acc := .rwl, reset := 10, classes := 191, vals := [(9, 12)] }
/-- UWB_PROFILE.SYNC (R361). -/
def UWB_PROFILE_SYNC : Field := { id := 2308, addr := 0x40090004, lo := 8, width := 1, acc := .rwl, reset := 0, classes := 191 }
/-- UWB_PROFILE.STS_LEN (R361). -/
def UWB_PROFILE_STS_LEN : Field := { id := 2309, addr := 0x40090004, lo := 9, width := 1, acc := .rwl, reset := 1, classes := 191 }
/-- UWB_TX_PWR.ATTEN (R361). -/
def UWB_TX_PWR_ATTEN : Field :=
  { id := 2310, addr := 0x40090008, lo := 0, width := 6, acc := .rwl, reset := 0, classes := 191, vals := [(0, 60)] }
/-- UWB_RANGE_CFG.WINDOW (R361). -/
def UWB_RANGE_CFG_WINDOW : Field :=
  { id := 2311, addr := 0x4009000c, lo := 0, width := 9, acc := .rwl, reset := 64, classes := 191, vals := [(16, 256)] }
/-- UWB_RANGE_CFG.FP_AGREE (R361). -/
def UWB_RANGE_CFG_FP_AGREE : Field :=
  { id := 2312, addr := 0x4009000c, lo := 12, width := 4, acc := .rwl, reset := 4, classes := 191, vals := [(2, 15)] }
/-- UWB_RANGE_CFG.STS_QMIN (R361). -/
def UWB_RANGE_CFG_STS_QMIN : Field :=
  { id := 2313, addr := 0x4009000c, lo := 16, width := 7, acc := .rwl, reset := 60, classes := 191, vals := [(30, 90)] }
/-- UWB_RANGE_CFG.EARLY_LIM (R361). -/
def UWB_RANGE_CFG_EARLY_LIM : Field :=
  { id := 2314, addr := 0x4009000c, lo := 24, width := 8, acc := .rwl, reset := 20, classes := 191, vals := [(10, 100)] }
/-- UWB_SCHED.PERIOD (R361). -/
def UWB_SCHED_PERIOD : Field :=
  { id := 2315, addr := 0x40090010, lo := 0, width := 11, acc := .rwl, reset := 500, classes := 191, vals := [(300, 2000)] }
/-- UWB_SCHED.MAX_BLOCKS (R361). -/
def UWB_SCHED_MAX_BLOCKS : Field :=
  { id := 2316, addr := 0x40090010, lo := 12, width := 4, acc := .rwl, reset := 4, classes := 191, vals := [(1, 15)] }
/-- UWB_LOCK.LOCK (R361). -/
def UWB_LOCK_LOCK : Field := { id := 2317, addr := 0x40090014, lo := 0, width := 1, acc := .w1s, reset := 0, classes := 191 }
/-- UWB_RANGE_CTL.REQ (R361). -/
def UWB_RANGE_CTL_REQ : Field := { id := 2318, addr := 0x40090018, lo := 0, width := 1, acc := .sc, reset := 0, classes := 255 }
/-- UWB_RANGE_CTL.HANDLE (R361). -/
def UWB_RANGE_CTL_HANDLE : Field := { id := 2319, addr := 0x40090018, lo := 16, width := 16, acc := .rw, reset := 0, classes := 255 }
/-- UWB_STAT.STATE (R361). -/
def UWB_STAT_STATE : Field :=
  { id := 2320, addr := 0x4009001c, lo := 0, width := 2, acc := .ro, reset := 0, classes := 255, live := true }
/-- UWB_STAT.PLL_LOCK (R361). -/
def UWB_STAT_PLL_LOCK : Field :=
  { id := 2321, addr := 0x4009001c, lo := 2, width := 1, acc := .ro, reset := 0, classes := 255, live := true }
/-- UWB_STAT.QUEUED (R361). -/
def UWB_STAT_QUEUED : Field :=
  { id := 2322, addr := 0x4009001c, lo := 8, width := 4, acc := .ro, reset := 0, classes := 255, live := true }
/-- UWB_STAT.REFUSED (R361). -/
def UWB_STAT_REFUSED : Field := { id := 2323, addr := 0x4009001c, lo := 12, width := 4, acc := .ro, reset := 0, classes := 255 }
/-- UWB_STAT.BLOCKS (R361). -/
def UWB_STAT_BLOCKS : Field := { id := 2324, addr := 0x4009001c, lo := 16, width := 16, acc := .ro, reset := 0, classes := 255 }
/-- UWB_TIME_LO.LO (R361). -/
def UWB_TIME_LO_LO : Field :=
  { id := 2325, addr := 0x40090020, lo := 0, width := 32, acc := .ro, reset := 0, classes := 255, live := true }
/-- UWB_TIME_HI.HI (R361). -/
def UWB_TIME_HI_HI : Field :=
  { id := 2326, addr := 0x40090024, lo := 0, width := 8, acc := .ro, reset := 0, classes := 255, live := true }
/-- UWB_ERR.STS (R361). -/
def UWB_ERR_STS : Field := { id := 2327, addr := 0x40090028, lo := 0, width := 8, acc := .ro, reset := 0, classes := 255 }
/-- UWB_ERR.FP (R361). -/
def UWB_ERR_FP : Field := { id := 2328, addr := 0x40090028, lo := 8, width := 8, acc := .ro, reset := 0, classes := 255 }
/-- UWB_ERR.DEV (R361). -/
def UWB_ERR_DEV : Field := { id := 2329, addr := 0x40090028, lo := 16, width := 8, acc := .ro, reset := 0, classes := 255 }
/-- UWB_ERR.EARLY (R361). -/
def UWB_ERR_EARLY : Field := { id := 2330, addr := 0x40090028, lo := 24, width := 8, acc := .ro, reset := 0, classes := 255 }
/-- UWB_ERR_CLR.CLR (R361). -/
def UWB_ERR_CLR_CLR : Field := { id := 2331, addr := 0x4009002c, lo := 0, width := 1, acc := .wo, reset := 0, classes := 0 }
/-- UWB_AOA_CFG.PAIR0_EN (R361). -/
def UWB_AOA_CFG_PAIR0_EN : Field := { id := 2332, addr := 0x40090030, lo := 0, width := 1, acc := .rwl, reset := 0, classes := 191 }
/-- UWB_AOA_CFG.PAIR1_EN (R361). -/
def UWB_AOA_CFG_PAIR1_EN : Field := { id := 2333, addr := 0x40090030, lo := 1, width := 1, acc := .rwl, reset := 0, classes := 191 }
/-- UWB_AOA_CFG.SPACING0 (R361). -/
def UWB_AOA_CFG_SPACING0 : Field := { id := 2334, addr := 0x40090030, lo := 4, width := 12, acc := .rwl, reset := 0, classes := 191 }
/-- UWB_AOA_CFG.SPACING1 (R361). -/
def UWB_AOA_CFG_SPACING1 : Field := { id := 2335, addr := 0x40090030, lo := 16, width := 12, acc := .rwl, reset := 0, classes := 191 }
/-- UWB_PORT_CAL.TX_DLY (R361). -/
def UWB_PORT_CAL_TX_DLY : Field :=
  { id := 2336, addr := 0x40090100, lo := 0, width := 16, acc := .rwl, reset := 0, classes := 191, count := 4, stride := 0x20 }
/-- UWB_PORT_CAL.RX_DLY (R361). -/
def UWB_PORT_CAL_RX_DLY : Field :=
  { id := 2337, addr := 0x40090100, lo := 16, width := 16, acc := .rwl, reset := 0, classes := 191, count := 4, stride := 0x20 }
/-- UWB_PORT_PH.PH_OFS (R361). -/
def UWB_PORT_PH_PH_OFS : Field :=
  { id := 2338, addr := 0x40090104, lo := 0, width := 16, acc := .rwl, reset := 0, classes := 191, count := 4, stride := 0x20 }
/-- UWB_PORT_STAT.FAULT (R361). -/
def UWB_PORT_STAT_FAULT : Field :=
  { id := 2339, addr := 0x40090108, lo := 0, width := 1, acc := .w1c, reset := 0, classes := 255, count := 4, stride := 0x20 }
/-- UWB_PORT_STAT.RX_OK (R361). -/
def UWB_PORT_STAT_RX_OK : Field :=
  { id := 2340, addr := 0x40090108, lo := 16, width := 16, acc := .ro, reset := 0, classes := 255, count := 4, stride := 0x20 }
/-- UWB_PORT_LAST.BOUND (R361). -/
def UWB_PORT_LAST_BOUND : Field :=
  { id := 2341, addr := 0x4009010c, lo := 0, width := 24, acc := .ro, reset := 0, classes := 255, count := 4, stride := 0x20 }
/-- UWB_PORT_LAST.CAUSE (R361). -/
def UWB_PORT_LAST_CAUSE : Field :=
  { id := 2342, addr := 0x4009010c, lo := 24, width := 8, acc := .ro, reset := 0, classes := 255, count := 4, stride := 0x20 }

/-- Every field of UWB. -/
def fieldsUWB : List Field :=
  [UWB_CTRL_EN, UWB_CTRL_PORT_EN, UWB_PROFILE_CHAN, UWB_PROFILE_CODE, UWB_PROFILE_SYNC, UWB_PROFILE_STS_LEN, UWB_TX_PWR_ATTEN, UWB_RANGE_CFG_WINDOW] ++
  [UWB_RANGE_CFG_FP_AGREE, UWB_RANGE_CFG_STS_QMIN, UWB_RANGE_CFG_EARLY_LIM, UWB_SCHED_PERIOD, UWB_SCHED_MAX_BLOCKS, UWB_LOCK_LOCK, UWB_RANGE_CTL_REQ, UWB_RANGE_CTL_HANDLE] ++
  [UWB_STAT_STATE, UWB_STAT_PLL_LOCK, UWB_STAT_QUEUED, UWB_STAT_REFUSED, UWB_STAT_BLOCKS, UWB_TIME_LO_LO, UWB_TIME_HI_HI, UWB_ERR_STS] ++
  [UWB_ERR_FP, UWB_ERR_DEV, UWB_ERR_EARLY, UWB_ERR_CLR_CLR, UWB_AOA_CFG_PAIR0_EN, UWB_AOA_CFG_PAIR1_EN, UWB_AOA_CFG_SPACING0, UWB_AOA_CFG_SPACING1] ++
  [UWB_PORT_CAL_TX_DLY, UWB_PORT_CAL_RX_DLY, UWB_PORT_PH_PH_OFS, UWB_PORT_STAT_FAULT, UWB_PORT_STAT_RX_OK, UWB_PORT_LAST_BOUND, UWB_PORT_LAST_CAUSE]

/-! LOC (08_localisation_and_verdict.md). -/
/-- LOC_CTRL.EN (R410). -/
def LOC_CTRL_EN : Field := { id := 2560, addr := 0x400a0000, lo := 0, width := 1, acc := .rwl, reset := 0, classes := 191 }
/-- LOC_CTRL.MAP_VALID (R410). -/
def LOC_CTRL_MAP_VALID : Field :=
  { id := 2561, addr := 0x400a0000, lo := 8, width := 1, acc := .ro, reset := 0, classes := 255, live := true }
/-- LOC_CFG.MAX_ITER (R410). -/
def LOC_CFG_MAX_ITER : Field :=
  { id := 2562, addr := 0x400a0004, lo := 0, width := 4, acc := .rwl, reset := 8, classes := 191, vals := [(2, 15)] }
/-- LOC_CFG.SIG_MAG (R410). -/
def LOC_CFG_SIG_MAG : Field :=
  { id := 2563, addr := 0x400a0004, lo := 4, width := 8, acc := .rwl, reset := 10, classes := 191, vals := [(2, 50)] }
/-- LOC_CFG.SIG_COS (R410). -/
def LOC_CFG_SIG_COS : Field :=
  { id := 2564, addr := 0x400a0004, lo := 12, width := 8, acc := .rwl, reset := 5, classes := 191, vals := [(1, 50)] }
/-- LOC_CFG.SIG_D (R410). -/
def LOC_CFG_SIG_D : Field :=
  { id := 2565, addr := 0x400a0004, lo := 20, width := 8, acc := .rwl, reset := 5, classes := 191, vals := [(2, 30)] }
/-- LOC_ZONE_EN.EN (R410). -/
def LOC_ZONE_EN_EN : Field := { id := 2566, addr := 0x400a0008, lo := 1, width := 15, acc := .rwl, reset := 0, classes := 191 }
/-- LOC_LOCK.LOCK (R410). -/
def LOC_LOCK_LOCK : Field := { id := 2567, addr := 0x400a000c, lo := 0, width := 1, acc := .w1s, reset := 0, classes := 191 }
/-- LOC_STAT.BUSY (R410). -/
def LOC_STAT_BUSY : Field :=
  { id := 2568, addr := 0x400a0010, lo := 0, width := 1, acc := .ro, reset := 0, classes := 255, live := true }
/-- LOC_STAT.WAITING (R410). -/
def LOC_STAT_WAITING : Field :=
  { id := 2569, addr := 0x400a0010, lo := 8, width := 4, acc := .ro, reset := 0, classes := 255, live := true }
/-- LOC_STAT.SOLVES (R410). -/
def LOC_STAT_SOLVES : Field := { id := 2570, addr := 0x400a0010, lo := 16, width := 16, acc := .ro, reset := 0, classes := 255 }
/-- LOC_LAST_XY.X (R410). -/
def LOC_LAST_XY_X : Field := { id := 2571, addr := 0x400a0014, lo := 0, width := 16, acc := .ro, reset := 0, classes := 255 }
/-- LOC_LAST_XY.Y (R410). -/
def LOC_LAST_XY_Y : Field := { id := 2572, addr := 0x400a0014, lo := 16, width := 16, acc := .ro, reset := 0, classes := 255 }
/-- LOC_LAST_Z.Z (R410). -/
def LOC_LAST_Z_Z : Field := { id := 2573, addr := 0x400a0018, lo := 0, width := 16, acc := .ro, reset := 0, classes := 255 }
/-- LOC_LAST_Z.ZONE (R410). -/
def LOC_LAST_Z_ZONE : Field := { id := 2574, addr := 0x400a0018, lo := 16, width := 4, acc := .ro, reset := 0, classes := 255 }
/-- LOC_LAST_Z.CONF (R410). -/
def LOC_LAST_Z_CONF : Field := { id := 2575, addr := 0x400a0018, lo := 24, width := 8, acc := .ro, reset := 0, classes := 255 }
/-- LOC_ERR.FEW_OBS (R410). -/
def LOC_ERR_FEW_OBS : Field := { id := 2576, addr := 0x400a001c, lo := 0, width := 8, acc := .ro, reset := 0, classes := 255 }
/-- LOC_ERR.NO_CONV (R410). -/
def LOC_ERR_NO_CONV : Field := { id := 2577, addr := 0x400a001c, lo := 8, width := 8, acc := .ro, reset := 0, classes := 255 }
/-- LOC_ERR.FALLBACK (R410). -/
def LOC_ERR_FALLBACK : Field := { id := 2578, addr := 0x400a001c, lo := 16, width := 8, acc := .ro, reset := 0, classes := 255 }

/-- Every field of LOC. -/
def fieldsLOC : List Field :=
  [LOC_CTRL_EN, LOC_CTRL_MAP_VALID, LOC_CFG_MAX_ITER, LOC_CFG_SIG_MAG, LOC_CFG_SIG_COS, LOC_CFG_SIG_D, LOC_ZONE_EN_EN, LOC_LOCK_LOCK] ++
  [LOC_STAT_BUSY, LOC_STAT_WAITING, LOC_STAT_SOLVES, LOC_LAST_XY_X, LOC_LAST_XY_Y, LOC_LAST_Z_Z, LOC_LAST_Z_ZONE, LOC_LAST_Z_CONF] ++
  [LOC_ERR_FEW_OBS, LOC_ERR_NO_CONV, LOC_ERR_FALLBACK]

/-! VRD (08_localisation_and_verdict.md). -/
/-- VRD_CTRL.EN (R412). -/
def VRD_CTRL_EN : Field := { id := 2816, addr := 0x400b0000, lo := 0, width := 1, acc := .rwl, reset := 0, classes := 191 }
/-- VRD_CFG.TICKET_MS (R412). -/
def VRD_CFG_TICKET_MS : Field :=
  { id := 2817, addr := 0x400b0004, lo := 0, width := 11, acc := .rwl, reset := 500, classes := 191, vals := [(100, 2000)] }
/-- VRD_CFG.BETA_LIM (R412). -/
def VRD_CFG_BETA_LIM : Field :=
  { id := 2818, addr := 0x400b0004, lo := 16, width := 8, acc := .rwl, reset := 15, classes := 191, vals := [(5, 50)] }
/-- VRD_CONF.ENTRY (R412). -/
def VRD_CONF_ENTRY : Field := { id := 2819, addr := 0x400b0008, lo := 0, width := 8, acc := .rwl, reset := 128, classes := 191 }
/-- VRD_CONF.START (R412). -/
def VRD_CONF_START : Field := { id := 2820, addr := 0x400b0008, lo := 8, width := 8, acc := .rwl, reset := 160, classes := 191 }
/-- VRD_CONF.PRESENT (R412). -/
def VRD_CONF_PRESENT : Field := { id := 2821, addr := 0x400b0008, lo := 16, width := 8, acc := .rwl, reset := 128, classes := 191 }
/-- VRD_CONF.WALK (R412). -/
def VRD_CONF_WALK : Field := { id := 2822, addr := 0x400b0008, lo := 24, width := 8, acc := .rwl, reset := 96, classes := 191 }
/-- VRD_DEADLINE.ENTRY (R412). -/
def VRD_DEADLINE_ENTRY : Field :=
  { id := 2823, addr := 0x400b000c, lo := 0, width := 7, acc := .rwl, reset := 75, classes := 191, vals := [(30, 75)] }
/-- VRD_DEADLINE.START (R412). -/
def VRD_DEADLINE_START : Field :=
  { id := 2824, addr := 0x400b000c, lo := 8, width := 7, acc := .rwl, reset := 115, classes := 191, vals := [(40, 115)] }
/-- VRD_START_CFG.ZONES (R412). -/
def VRD_START_CFG_ZONES : Field := { id := 2825, addr := 0x400b0010, lo := 0, width := 16, acc := .rwl, reset := 6, classes := 191 }
/-- VRD_START_CFG.REF_PORT (R412). -/
def VRD_START_CFG_REF_PORT : Field := { id := 2826, addr := 0x400b0010, lo := 16, width := 3, acc := .rwl, reset := 1, classes := 191 }
/-- VRD_PRESENT_CFG.ZONES (R412). -/
def VRD_PRESENT_CFG_ZONES : Field := { id := 2827, addr := 0x400b0014, lo := 0, width := 16, acc := .rwl, reset := 2, classes := 191 }
/-- VRD_PRESENT_CFG.REF_PORT (R412). -/
def VRD_PRESENT_CFG_REF_PORT : Field := { id := 2828, addr := 0x400b0014, lo := 16, width := 3, acc := .rwl, reset := 1, classes := 191 }
/-- VRD_WALK_CFG.ZONES (R412). -/
def VRD_WALK_CFG_ZONES : Field := { id := 2829, addr := 0x400b0018, lo := 0, width := 16, acc := .rwl, reset := 62, classes := 191 }
/-- VRD_WALK_CFG.COUNT (R412). -/
def VRD_WALK_CFG_COUNT : Field :=
  { id := 2830, addr := 0x400b0018, lo := 16, width := 4, acc := .rwl, reset := 2, classes := 191, vals := [(1, 8)] }
/-- VRD_ENTRY_MAP.AERIAL (R412). -/
def VRD_ENTRY_MAP_AERIAL : Field :=
  { id := 2831, addr := 0x400b0020, lo := 0, width := 4, acc := .rwl, reset := 0, classes := 191, count := 4, stride := 0x4 }
/-- VRD_ENTRY_MAP.ZONE (R412). -/
def VRD_ENTRY_MAP_ZONE : Field :=
  { id := 2832, addr := 0x400b0020, lo := 4, width := 4, acc := .rwl, reset := 0, classes := 191, count := 4, stride := 0x4 }
/-- VRD_ENTRY_MAP.REF_PORT (R412). -/
def VRD_ENTRY_MAP_REF_PORT : Field :=
  { id := 2833, addr := 0x400b0020, lo := 8, width := 3, acc := .rwl, reset := 0, classes := 191, count := 4, stride := 0x4 }
/-- VRD_ENTRY_MAP.EN (R412). -/
def VRD_ENTRY_MAP_EN : Field :=
  { id := 2834, addr := 0x400b0020, lo := 12, width := 1, acc := .rwl, reset := 0, classes := 191, count := 4, stride := 0x4 }
/-- VRD_LOCK.LOCK (R412). -/
def VRD_LOCK_LOCK : Field := { id := 2835, addr := 0x400b0030, lo := 0, width := 1, acc := .w1s, reset := 0, classes := 191 }
/-- VRD_PROP_SESS.SESSION (R412). -/
def VRD_PROP_SESS_SESSION : Field := { id := 2836, addr := 0x400b0040, lo := 0, width := 32, acc := .rw, reset := 0, classes := 255 }
/-- VRD_PROPOSE.TYPE (R412). -/
def VRD_PROPOSE_TYPE : Field := { id := 2837, addr := 0x400b0044, lo := 0, width := 3, acc := .rw, reset := 0, classes := 255 }
/-- VRD_PROPOSE.GO (R412). -/
def VRD_PROPOSE_GO : Field := { id := 2838, addr := 0x400b0044, lo := 8, width := 1, acc := .sc, reset := 0, classes := 255 }
/-- VRD_RESULT.TYPE (R412). -/
def VRD_RESULT_TYPE : Field := { id := 2839, addr := 0x400b0048, lo := 0, width := 3, acc := .ro, reset := 0, classes := 255 }
/-- VRD_RESULT.STATUS (R412). -/
def VRD_RESULT_STATUS : Field := { id := 2840, addr := 0x400b0048, lo := 8, width := 8, acc := .ro, reset := 0, classes := 255 }
/-- VRD_RESULT.CAUSE (R412). -/
def VRD_RESULT_CAUSE : Field := { id := 2841, addr := 0x400b0048, lo := 16, width := 8, acc := .ro, reset := 0, classes := 255 }
/-- VRD_RESULT_CRED.CRED (R412). -/
def VRD_RESULT_CRED_CRED : Field := { id := 2842, addr := 0x400b004c, lo := 0, width := 16, acc := .ro, reset := 65535, classes := 255 }
/-- VRD_RESULT_CRED.HANDLE (R412). -/
def VRD_RESULT_CRED_HANDLE : Field := { id := 2843, addr := 0x400b004c, lo := 16, width := 16, acc := .ro, reset := 0, classes := 255 }
/-- VRD_TICKET.NUMBER (R412). -/
def VRD_TICKET_NUMBER : Field := { id := 2844, addr := 0x400b0050, lo := 0, width := 32, acc := .ro, reset := 0, classes := 255 }
/-- VRD_TRIG.START (R412). -/
def VRD_TRIG_START : Field :=
  { id := 2845, addr := 0x400b0054, lo := 0, width := 1, acc := .ro, reset := 0, classes := 255, live := true }
/-- VRD_TRIG.ENTRY (R412). -/
def VRD_TRIG_ENTRY : Field :=
  { id := 2846, addr := 0x400b0054, lo := 1, width := 1, acc := .ro, reset := 0, classes := 255, live := true }
/-- VRD_TRIG.ZONE (R412). -/
def VRD_TRIG_ZONE : Field :=
  { id := 2847, addr := 0x400b0054, lo := 2, width := 4, acc := .ro, reset := 0, classes := 255, live := true }
/-- VRD_TRIG.WALK_COUNT (R412). -/
def VRD_TRIG_WALK_COUNT : Field :=
  { id := 2848, addr := 0x400b0054, lo := 8, width := 8, acc := .ro, reset := 0, classes := 255, live := true }
/-- VRD_ERR.STALE (R412). -/
def VRD_ERR_STALE : Field := { id := 2849, addr := 0x400b0058, lo := 0, width := 8, acc := .ro, reset := 0, classes := 255 }
/-- VRD_ERR.RANGE (R412). -/
def VRD_ERR_RANGE : Field := { id := 2850, addr := 0x400b0058, lo := 8, width := 8, acc := .ro, reset := 0, classes := 255 }
/-- VRD_ERR.ZONE (R412). -/
def VRD_ERR_ZONE : Field := { id := 2851, addr := 0x400b0058, lo := 16, width := 8, acc := .ro, reset := 0, classes := 255 }
/-- VRD_ERR.AUTH (R412). -/
def VRD_ERR_AUTH : Field := { id := 2852, addr := 0x400b0058, lo := 24, width := 8, acc := .ro, reset := 0, classes := 255 }

/-- Every field of VRD. -/
def fieldsVRD : List Field :=
  [VRD_CTRL_EN, VRD_CFG_TICKET_MS, VRD_CFG_BETA_LIM, VRD_CONF_ENTRY, VRD_CONF_START, VRD_CONF_PRESENT, VRD_CONF_WALK, VRD_DEADLINE_ENTRY] ++
  [VRD_DEADLINE_START, VRD_START_CFG_ZONES, VRD_START_CFG_REF_PORT, VRD_PRESENT_CFG_ZONES, VRD_PRESENT_CFG_REF_PORT, VRD_WALK_CFG_ZONES, VRD_WALK_CFG_COUNT, VRD_ENTRY_MAP_AERIAL] ++
  [VRD_ENTRY_MAP_ZONE, VRD_ENTRY_MAP_REF_PORT, VRD_ENTRY_MAP_EN, VRD_LOCK_LOCK, VRD_PROP_SESS_SESSION, VRD_PROPOSE_TYPE, VRD_PROPOSE_GO, VRD_RESULT_TYPE] ++
  [VRD_RESULT_STATUS, VRD_RESULT_CAUSE, VRD_RESULT_CRED_CRED, VRD_RESULT_CRED_HANDLE, VRD_TICKET_NUMBER, VRD_TRIG_START, VRD_TRIG_ENTRY, VRD_TRIG_ZONE] ++
  [VRD_TRIG_WALK_COUNT, VRD_ERR_STALE, VRD_ERR_RANGE, VRD_ERR_ZONE, VRD_ERR_AUTH]

/-! GOV (09_release_governor.md). -/
/-- GOV_CTRL.EN (R445). -/
def GOV_CTRL_EN : Field := { id := 3072, addr := 0x400c0000, lo := 0, width := 1, acc := .rwl, reset := 0, classes := 191 }
/-- GOV_REL_CFG.START_WAIT (R445). -/
def GOV_REL_CFG_START_WAIT : Field :=
  { id := 3073, addr := 0x400c0004, lo := 0, width := 5, acc := .rwl, reset := 30, classes := 191, vals := [(5, 30)], prot := true }
/-- GOV_REL_CFG.RUN_DROP (R445). -/
def GOV_REL_CFG_RUN_DROP : Field :=
  { id := 3074, addr := 0x400c0004, lo := 8, width := 8, acc := .rwl, reset := 50, classes := 191, vals := [(10, 200)], prot := true }
/-- GOV_REL_CFG.MAX_RATE (R445). -/
def GOV_REL_CFG_MAX_RATE : Field :=
  { id := 3075, addr := 0x400c0004, lo := 16, width := 3, acc := .rwl, reset := 6, classes := 191, vals := [(1, 6)], prot := true }
/-- GOV_SIGNET_CFG.KEY_SLOT (R445). -/
def GOV_SIGNET_CFG_KEY_SLOT : Field :=
  { id := 3076, addr := 0x400c0008, lo := 0, width := 8, acc := .rwl, reset := 0, classes := 191, prot := true }
/-- GOV_SIGNET_CFG.BUS (R445). -/
def GOV_SIGNET_CFG_BUS : Field :=
  { id := 3077, addr := 0x400c0008, lo := 8, width := 2, acc := .rwl, reset := 1, classes := 191, vals := [(1, 3)], prot := true }
/-- GOV_SIGNET_CFG.REPEATS (R445). -/
def GOV_SIGNET_CFG_REPEATS : Field :=
  { id := 3078, addr := 0x400c0008, lo := 12, width := 2, acc := .rwl, reset := 1, classes := 191, prot := true }
/-- GOV_SIGNET_CFG.LIFE (R445). -/
def GOV_SIGNET_CFG_LIFE : Field :=
  { id := 3079, addr := 0x400c0008, lo := 16, width := 8, acc := .rwl, reset := 20, classes := 191, vals := [(5, 200)], prot := true }
/-- GOV_SIGNET_CFG.DRIVER_EN (R445). -/
def GOV_SIGNET_CFG_DRIVER_EN : Field :=
  { id := 3080, addr := 0x400c0008, lo := 24, width := 1, acc := .rwl, reset := 0, classes := 191, prot := true }
/-- GOV_SIGNET_ID.ID (R445). -/
def GOV_SIGNET_ID_ID : Field :=
  { id := 3081, addr := 0x400c0010, lo := 0, width := 29, acc := .rwl, reset := 0, classes := 191, count := 4, stride := 0x4 }
/-- GOV_SIGNET_ID.XTD (R445). -/
def GOV_SIGNET_ID_XTD : Field :=
  { id := 3082, addr := 0x400c0010, lo := 31, width := 1, acc := .rwl, reset := 0, classes := 191, count := 4, stride := 0x4 }
/-- GOV_LOCK.LOCK (R445). -/
def GOV_LOCK_LOCK : Field := { id := 3083, addr := 0x400c0030, lo := 0, width := 1, acc := .w1s, reset := 0, classes := 191 }
/-- GOV_STAT.REL (R445). -/
def GOV_STAT_REL : Field :=
  { id := 3084, addr := 0x400c0040, lo := 0, width := 1, acc := .ro, reset := 0, classes := 255, live := true, secOnly := true }
/-- GOV_STAT.ENG_RUN (R445). -/
def GOV_STAT_ENG_RUN : Field :=
  { id := 3085, addr := 0x400c0040, lo := 1, width := 1, acc := .ro, reset := 0, classes := 255, live := true, secOnly := true }
/-- GOV_STAT.START_BTN (R445). -/
def GOV_STAT_START_BTN : Field :=
  { id := 3086, addr := 0x400c0040, lo := 2, width := 1, acc := .ro, reset := 0, classes := 255, live := true, secOnly := true }
/-- GOV_STAT.HOLD (R445). -/
def GOV_STAT_HOLD : Field :=
  { id := 3087, addr := 0x400c0040, lo := 4, width := 2, acc := .ro, reset := 0, classes := 255, live := true, secOnly := true }
/-- GOV_STAT.OUT_FAULT (R445). -/
def GOV_STAT_OUT_FAULT : Field :=
  { id := 3088, addr := 0x400c0040, lo := 8, width := 1, acc := .w1c, reset := 0, classes := 255, secOnly := true }
/-- GOV_STAT.RATE_USED (R445). -/
def GOV_STAT_RATE_USED : Field :=
  { id := 3089, addr := 0x400c0040, lo := 16, width := 3, acc := .ro, reset := 0, classes := 255, live := true, secOnly := true }
/-- GOV_STAT.WAIT_LEFT (R445). -/
def GOV_STAT_WAIT_LEFT : Field :=
  { id := 3090, addr := 0x400c0040, lo := 24, width := 8, acc := .ro, reset := 0, classes := 255, live := true, secOnly := true }
/-- GOV_GRANT.COUNTER (R445). -/
def GOV_GRANT_COUNTER : Field :=
  { id := 3091, addr := 0x400c0044, lo := 0, width := 32, acc := .ro, reset := 0, classes := 255, live := true }
/-- GOV_LAST.TYPE (R445). -/
def GOV_LAST_TYPE : Field := { id := 3092, addr := 0x400c0048, lo := 0, width := 3, acc := .ro, reset := 0, classes := 255 }
/-- GOV_LAST.STATUS (R445). -/
def GOV_LAST_STATUS : Field := { id := 3093, addr := 0x400c0048, lo := 8, width := 8, acc := .ro, reset := 0, classes := 255 }
/-- GOV_LAST.CAUSE (R445). -/
def GOV_LAST_CAUSE : Field := { id := 3094, addr := 0x400c0048, lo := 16, width := 8, acc := .ro, reset := 0, classes := 255 }
/-- GOV_LAST.END (R445). -/
def GOV_LAST_END : Field := { id := 3095, addr := 0x400c0048, lo := 24, width := 3, acc := .ro, reset := 0, classes := 255 }
/-- GOV_LAST_TICKET.NUMBER (R445). -/
def GOV_LAST_TICKET_NUMBER : Field := { id := 3096, addr := 0x400c004c, lo := 0, width := 32, acc := .ro, reset := 0, classes := 255 }
/-- GOV_ERR.RATE (R445). -/
def GOV_ERR_RATE : Field := { id := 3097, addr := 0x400c0050, lo := 0, width := 8, acc := .ro, reset := 0, classes := 255 }
/-- GOV_ERR.STALE (R445). -/
def GOV_ERR_STALE : Field := { id := 3098, addr := 0x400c0050, lo := 8, width := 8, acc := .ro, reset := 0, classes := 255 }
/-- GOV_ERR.SIGNET (R445). -/
def GOV_ERR_SIGNET : Field := { id := 3099, addr := 0x400c0050, lo := 16, width := 8, acc := .ro, reset := 0, classes := 255 }
/-- GOV_ERR.FIELD (R445). -/
def GOV_ERR_FIELD : Field := { id := 3100, addr := 0x400c0050, lo := 24, width := 8, acc := .ro, reset := 0, classes := 255 }
/-- GOV_LF_CEIL.CEIL (R445). -/
def GOV_LF_CEIL_CEIL : Field :=
  { id := 3101, addr := 0x400c0100, lo := 0, width := 10, acc := .rwl, reset := 0, classes := 191, count := 16, stride := 0x4, prot := true }

/-- Every field of GOV. -/
def fieldsGOV : List Field :=
  [GOV_CTRL_EN, GOV_REL_CFG_START_WAIT, GOV_REL_CFG_RUN_DROP, GOV_REL_CFG_MAX_RATE, GOV_SIGNET_CFG_KEY_SLOT, GOV_SIGNET_CFG_BUS, GOV_SIGNET_CFG_REPEATS, GOV_SIGNET_CFG_LIFE] ++
  [GOV_SIGNET_CFG_DRIVER_EN, GOV_SIGNET_ID_ID, GOV_SIGNET_ID_XTD, GOV_LOCK_LOCK, GOV_STAT_REL, GOV_STAT_ENG_RUN, GOV_STAT_START_BTN, GOV_STAT_HOLD] ++
  [GOV_STAT_OUT_FAULT, GOV_STAT_RATE_USED, GOV_STAT_WAIT_LEFT, GOV_GRANT_COUNTER, GOV_LAST_TYPE, GOV_LAST_STATUS, GOV_LAST_CAUSE, GOV_LAST_END] ++
  [GOV_LAST_TICKET_NUMBER, GOV_ERR_RATE, GOV_ERR_STALE, GOV_ERR_SIGNET, GOV_ERR_FIELD, GOV_LF_CEIL_CEIL]

/-! CAN (09_release_governor.md). -/
/-- CAN_CTRL.EN (R447). -/
def CAN_CTRL_EN : Field :=
  { id := 5888, addr := 0x40170000, lo := 0, width := 1, acc := .rwl, reset := 0, classes := 191, count := 2, stride := 0x10000 }
/-- CAN_CTRL.FD (R447). -/
def CAN_CTRL_FD : Field :=
  { id := 5889, addr := 0x40170000, lo := 1, width := 1, acc := .rwl, reset := 1, classes := 191, count := 2, stride := 0x10000 }
/-- CAN_CTRL.BRS (R447). -/
def CAN_CTRL_BRS : Field :=
  { id := 5890, addr := 0x40170000, lo := 2, width := 1, acc := .rwl, reset := 1, classes := 191, count := 2, stride := 0x10000 }
/-- CAN_CTRL.TDC (R447). -/
def CAN_CTRL_TDC : Field :=
  { id := 5891, addr := 0x40170000, lo := 3, width := 1, acc := .rwl, reset := 1, classes := 191, count := 2, stride := 0x10000 }
/-- CAN_NBT.PRESC (R447). -/
def CAN_NBT_PRESC : Field :=
  { id := 5892, addr := 0x40170004, lo := 0, width := 9, acc := .rwl, reset := 0, classes := 191, count := 2, stride := 0x10000 }
/-- CAN_NBT.TSEG1 (R447). -/
def CAN_NBT_TSEG1 : Field :=
  { id := 5893, addr := 0x40170004, lo := 16, width := 8, acc := .rwl, reset := 0, classes := 191, count := 2, stride := 0x10000 }
/-- CAN_NBT.TSEG2 (R447). -/
def CAN_NBT_TSEG2 : Field :=
  { id := 5894, addr := 0x40170004, lo := 24, width := 7, acc := .rwl, reset := 0, classes := 191, count := 2, stride := 0x10000 }
/-- CAN_DBT.PRESC (R447). -/
def CAN_DBT_PRESC : Field :=
  { id := 5895, addr := 0x40170008, lo := 0, width := 5, acc := .rwl, reset := 0, classes := 191, count := 2, stride := 0x10000 }
/-- CAN_DBT.TSEG1 (R447). -/
def CAN_DBT_TSEG1 : Field :=
  { id := 5896, addr := 0x40170008, lo := 8, width := 5, acc := .rwl, reset := 0, classes := 191, count := 2, stride := 0x10000 }
/-- CAN_DBT.TSEG2 (R447). -/
def CAN_DBT_TSEG2 : Field :=
  { id := 5897, addr := 0x40170008, lo := 16, width := 4, acc := .rwl, reset := 0, classes := 191, count := 2, stride := 0x10000 }
/-- CAN_DBT.TDCO (R447). -/
def CAN_DBT_TDCO : Field :=
  { id := 5898, addr := 0x40170008, lo := 24, width := 7, acc := .rwl, reset := 0, classes := 191, count := 2, stride := 0x10000 }
/-- CAN_LOCK.LOCK (R447). -/
def CAN_LOCK_LOCK : Field :=
  { id := 5899, addr := 0x4017000c, lo := 0, width := 1, acc := .w1s, reset := 0, classes := 191, count := 2, stride := 0x10000 }
/-- CAN_STAT.STATE (R447). -/
def CAN_STAT_STATE : Field :=
  { id := 5900, addr := 0x40170010, lo := 0, width := 2, acc := .ro, reset := 0, classes := 255, count := 2, stride := 0x10000, live := true }
/-- CAN_STAT.TEC (R447). -/
def CAN_STAT_TEC : Field :=
  { id := 5901, addr := 0x40170010, lo := 8, width := 8, acc := .ro, reset := 0, classes := 255, count := 2, stride := 0x10000, live := true }
/-- CAN_STAT.REC (R447). -/
def CAN_STAT_REC : Field :=
  { id := 5902, addr := 0x40170010, lo := 16, width := 8, acc := .ro, reset := 0, classes := 255, count := 2, stride := 0x10000, live := true }
/-- CAN_FILT.ID (R447). -/
def CAN_FILT_ID : Field :=
  { id := 5903, addr := 0x40170040, lo := 0, width := 29, acc := .rwl, reset := 0, classes := 191, count := 2, stride := 0x10000, inner := 16, istride := 0x8 }
/-- CAN_FILT.EN (R447). -/
def CAN_FILT_EN : Field :=
  { id := 5904, addr := 0x40170040, lo := 31, width := 1, acc := .rwl, reset := 0, classes := 191, count := 2, stride := 0x10000, inner := 16, istride := 0x8 }
/-- CAN_MASK.MASK (R447). -/
def CAN_MASK_MASK : Field :=
  { id := 5905, addr := 0x40170044, lo := 0, width := 29, acc := .rwl, reset := 0, classes := 191, count := 2, stride := 0x10000, inner := 16, istride := 0x8 }

/-- Every field of CAN. -/
def fieldsCAN : List Field :=
  [CAN_CTRL_EN, CAN_CTRL_FD, CAN_CTRL_BRS, CAN_CTRL_TDC, CAN_NBT_PRESC, CAN_NBT_TSEG1, CAN_NBT_TSEG2, CAN_DBT_PRESC] ++
  [CAN_DBT_TSEG1, CAN_DBT_TSEG2, CAN_DBT_TDCO, CAN_LOCK_LOCK, CAN_STAT_STATE, CAN_STAT_TEC, CAN_STAT_REC, CAN_FILT_ID] ++
  [CAN_FILT_EN, CAN_MASK_MASK]

/-! CRD (10_credentials_keys_privilege.md). -/
/-- CRD_CTRL.EN (R503). -/
def CRD_CTRL_EN : Field := { id := 3328, addr := 0x400d0000, lo := 0, width := 1, acc := .rwl, reset := 0, classes := 191 }
/-- CRD_CFG.OP_DELEG (R503). -/
def CRD_CFG_OP_DELEG : Field := { id := 3329, addr := 0x400d0004, lo := 0, width := 4, acc := .rwl, reset := 0, classes := 191 }
/-- CRD_PRIV_CEIL.MASK (R503). -/
def CRD_PRIV_CEIL_MASK : Field :=
  { id := 3330, addr := 0x400d0008, lo := 0, width := 4, acc := .rwl, reset := 15, classes := 191, prot := true }
/-- CRD_LOCK.LOCK (R503). -/
def CRD_LOCK_LOCK : Field := { id := 3331, addr := 0x400d000c, lo := 0, width := 1, acc := .w1s, reset := 0, classes := 191 }
/-- CRD_STAT.TABLE_VALID (R503). -/
def CRD_STAT_TABLE_VALID : Field :=
  { id := 3332, addr := 0x400d0010, lo := 0, width := 1, acc := .ro, reset := 0, classes := 255, live := true }
/-- CRD_STAT.BANK (R503). -/
def CRD_STAT_BANK : Field :=
  { id := 3333, addr := 0x400d0010, lo := 1, width := 1, acc := .ro, reset := 0, classes := 255, live := true }
/-- CRD_STAT.LEARNING (R503). -/
def CRD_STAT_LEARNING : Field :=
  { id := 3334, addr := 0x400d0010, lo := 2, width := 1, acc := .ro, reset := 0, classes := 255, live := true }
/-- CRD_STAT.DEGRADED (R503). -/
def CRD_STAT_DEGRADED : Field :=
  { id := 3335, addr := 0x400d0010, lo := 3, width := 1, acc := .ro, reset := 0, classes := 255, live := true }
/-- CRD_STAT.COUNT (R503). -/
def CRD_STAT_COUNT : Field :=
  { id := 3336, addr := 0x400d0010, lo := 16, width := 13, acc := .ro, reset := 0, classes := 255, live := true }
/-- CRD_GEN.GENERATION (R503). -/
def CRD_GEN_GENERATION : Field :=
  { id := 3337, addr := 0x400d0014, lo := 0, width := 32, acc := .ro, reset := 0, classes := 255, live := true }
/-- CRD_LAST.STATUS (R503). -/
def CRD_LAST_STATUS : Field := { id := 3338, addr := 0x400d0018, lo := 0, width := 8, acc := .ro, reset := 0, classes := 255 }
/-- CRD_LAST.CAUSE (R503). -/
def CRD_LAST_CAUSE : Field := { id := 3339, addr := 0x400d0018, lo := 8, width := 8, acc := .ro, reset := 0, classes := 255 }
/-- CRD_LAST.INDEX (R503). -/
def CRD_LAST_INDEX : Field := { id := 3340, addr := 0x400d0018, lo := 16, width := 12, acc := .ro, reset := 0, classes := 255 }
/-- CRD_QRY.INDEX (R503). -/
def CRD_QRY_INDEX : Field := { id := 3341, addr := 0x400d001c, lo := 0, width := 12, acc := .rw, reset := 0, classes := 255 }
/-- CRD_ANS.PRIV (R503). -/
def CRD_ANS_PRIV : Field :=
  { id := 3342, addr := 0x400d0020, lo := 0, width := 4, acc := .ro, reset := 0, classes := 255, live := true }
/-- CRD_ANS.USED (R503). -/
def CRD_ANS_USED : Field :=
  { id := 3343, addr := 0x400d0020, lo := 4, width := 1, acc := .ro, reset := 0, classes := 255, live := true }
/-- CRD_ANS.IN_WINDOW (R503). -/
def CRD_ANS_IN_WINDOW : Field :=
  { id := 3344, addr := 0x400d0020, lo := 5, width := 1, acc := .ro, reset := 0, classes := 255, live := true }
/-- CRD_ANS.CELL (R503). -/
def CRD_ANS_CELL : Field :=
  { id := 3345, addr := 0x400d0020, lo := 16, width := 12, acc := .ro, reset := 0, classes := 255, live := true }

/-- Every field of CRD. -/
def fieldsCRD : List Field :=
  [CRD_CTRL_EN, CRD_CFG_OP_DELEG, CRD_PRIV_CEIL_MASK, CRD_LOCK_LOCK, CRD_STAT_TABLE_VALID, CRD_STAT_BANK, CRD_STAT_LEARNING, CRD_STAT_DEGRADED] ++
  [CRD_STAT_COUNT, CRD_GEN_GENERATION, CRD_LAST_STATUS, CRD_LAST_CAUSE, CRD_LAST_INDEX, CRD_QRY_INDEX, CRD_ANS_PRIV, CRD_ANS_USED] ++
  [CRD_ANS_IN_WINDOW, CRD_ANS_CELL]

/-! KEY (10_credentials_keys_privilege.md). -/
/-- KEY_CTRL.EN (R504). -/
def KEY_CTRL_EN : Field := { id := 3584, addr := 0x400e0000, lo := 0, width := 1, acc := .rwl, reset := 0, classes := 191 }
/-- KEY_NONCE_CFG.DEVICE (R504). -/
def KEY_NONCE_CFG_DEVICE : Field := { id := 3585, addr := 0x400e0004, lo := 0, width := 32, acc := .rwl, reset := 0, classes := 191 }
/-- KEY_LOCK.LOCK (R504). -/
def KEY_LOCK_LOCK : Field := { id := 3586, addr := 0x400e0008, lo := 0, width := 1, acc := .w1s, reset := 0, classes := 191 }
/-- KEY_STAT.KEK_GEN (R504). -/
def KEY_STAT_KEK_GEN : Field :=
  { id := 3587, addr := 0x400e000c, lo := 0, width := 8, acc := .ro, reset := 0, classes := 255, live := true }
/-- KEY_STAT.NEAR (R504). -/
def KEY_STAT_NEAR : Field :=
  { id := 3588, addr := 0x400e000c, lo := 8, width := 8, acc := .ro, reset := 0, classes := 255, live := true }
/-- KEY_STAT.SPENT (R504). -/
def KEY_STAT_SPENT : Field :=
  { id := 3589, addr := 0x400e000c, lo := 16, width := 8, acc := .ro, reset := 0, classes := 255, live := true }
/-- KEY_STAT.VAULT_LOST (R504). -/
def KEY_STAT_VAULT_LOST : Field :=
  { id := 3590, addr := 0x400e000c, lo := 24, width := 1, acc := .ro, reset := 0, classes := 255, live := true }
/-- KEY_SLOT_QRY.INDEX (R504). -/
def KEY_SLOT_QRY_INDEX : Field := { id := 3591, addr := 0x400e0010, lo := 0, width := 8, acc := .rw, reset := 0, classes := 255 }
/-- KEY_SLOT_INFO.STATE (R504). -/
def KEY_SLOT_INFO_STATE : Field :=
  { id := 3592, addr := 0x400e0014, lo := 0, width := 3, acc := .ro, reset := 0, classes := 255, live := true }
/-- KEY_SLOT_INFO.NEAR (R504). -/
def KEY_SLOT_INFO_NEAR : Field :=
  { id := 3593, addr := 0x400e0014, lo := 3, width := 1, acc := .ro, reset := 0, classes := 255, live := true }
/-- KEY_SLOT_INFO.TYPE (R504). -/
def KEY_SLOT_INFO_TYPE : Field :=
  { id := 3594, addr := 0x400e0014, lo := 4, width := 2, acc := .ro, reset := 0, classes := 255, live := true }
/-- KEY_SLOT_INFO.USES (R504). -/
def KEY_SLOT_INFO_USES : Field :=
  { id := 3595, addr := 0x400e0014, lo := 6, width := 6, acc := .ro, reset := 0, classes := 255, live := true }
/-- KEY_SLOT_INFO.OWNER (R504). -/
def KEY_SLOT_INFO_OWNER : Field :=
  { id := 3596, addr := 0x400e0014, lo := 12, width := 3, acc := .ro, reset := 0, classes := 255, live := true }
/-- KEY_SLOT_INFO.BOUND (R504). -/
def KEY_SLOT_INFO_BOUND : Field :=
  { id := 3597, addr := 0x400e0014, lo := 16, width := 3, acc := .ro, reset := 0, classes := 255, live := true }
/-- KEY_SLOT_INFO.NONCE (R504). -/
def KEY_SLOT_INFO_NONCE : Field :=
  { id := 3598, addr := 0x400e0014, lo := 19, width := 1, acc := .ro, reset := 0, classes := 255, live := true }
/-- KEY_SLOT_INFO.LIMIT_EXP (R504). -/
def KEY_SLOT_INFO_LIMIT_EXP : Field :=
  { id := 3599, addr := 0x400e0014, lo := 20, width := 6, acc := .ro, reset := 0, classes := 255, live := true }
/-- KEY_SLOT_INFO.INFLIGHT (R504). -/
def KEY_SLOT_INFO_INFLIGHT : Field :=
  { id := 3600, addr := 0x400e0014, lo := 26, width := 6, acc := .ro, reset := 0, classes := 255, live := true }
/-- KEY_SLOT_USES.USED (R504). -/
def KEY_SLOT_USES_USED : Field :=
  { id := 3601, addr := 0x400e0018, lo := 0, width := 32, acc := .ro, reset := 0, classes := 255, live := true }
/-- KEY_INVOC_LO.LO (R504). -/
def KEY_INVOC_LO_LO : Field :=
  { id := 3602, addr := 0x400e001c, lo := 0, width := 32, acc := .ro, reset := 0, classes := 255, live := true }
/-- KEY_INVOC_HI.HI (R504). -/
def KEY_INVOC_HI_HI : Field :=
  { id := 3603, addr := 0x400e0020, lo := 0, width := 32, acc := .ro, reset := 0, classes := 255, live := true }
/-- KEY_ZEROIZE.SLOT (R504). -/
def KEY_ZEROIZE_SLOT : Field := { id := 3604, addr := 0x400e0024, lo := 0, width := 8, acc := .wo, reset := 0, classes := 0 }
/-- KEY_ZEROIZE.KEY (R504). -/
def KEY_ZEROIZE_KEY : Field := { id := 3605, addr := 0x400e0024, lo := 8, width := 8, acc := .wo, reset := 0, classes := 0 }
/-- KEY_ZEROIZE.ALL (R504). -/
def KEY_ZEROIZE_ALL : Field := { id := 3606, addr := 0x400e0024, lo := 16, width := 1, acc := .wo, reset := 0, classes := 0 }
/-- KEY_PRIV.HOST_LEVEL (R504). -/
def KEY_PRIV_HOST_LEVEL : Field :=
  { id := 3607, addr := 0x400e0030, lo := 0, width := 3, acc := .ro, reset := 0, classes := 255, live := true }
/-- KEY_PRIV.REMAIN (R504). -/
def KEY_PRIV_REMAIN : Field :=
  { id := 3608, addr := 0x400e0030, lo := 4, width := 12, acc := .ro, reset := 0, classes := 255, live := true }
/-- KEY_PRIV.DRIVER_CRED (R504). -/
def KEY_PRIV_DRIVER_CRED : Field :=
  { id := 3609, addr := 0x400e0030, lo := 16, width := 12, acc := .ro, reset := 0, classes := 255, live := true }

/-- Every field of KEY. -/
def fieldsKEY : List Field :=
  [KEY_CTRL_EN, KEY_NONCE_CFG_DEVICE, KEY_LOCK_LOCK, KEY_STAT_KEK_GEN, KEY_STAT_NEAR, KEY_STAT_SPENT, KEY_STAT_VAULT_LOST, KEY_SLOT_QRY_INDEX] ++
  [KEY_SLOT_INFO_STATE, KEY_SLOT_INFO_NEAR, KEY_SLOT_INFO_TYPE, KEY_SLOT_INFO_USES, KEY_SLOT_INFO_OWNER, KEY_SLOT_INFO_BOUND, KEY_SLOT_INFO_NONCE, KEY_SLOT_INFO_LIMIT_EXP] ++
  [KEY_SLOT_INFO_INFLIGHT, KEY_SLOT_USES_USED, KEY_INVOC_LO_LO, KEY_INVOC_HI_HI, KEY_ZEROIZE_SLOT, KEY_ZEROIZE_KEY, KEY_ZEROIZE_ALL, KEY_PRIV_HOST_LEVEL] ++
  [KEY_PRIV_REMAIN, KEY_PRIV_DRIVER_CRED]

/-! AEA (11_crypto_engines.md). -/
/-- AEA_CTRL.EN (R549). -/
def AEA_CTRL_EN : Field := { id := 3840, addr := 0x400f0000, lo := 0, width := 2, acc := .rwl, reset := 0, classes := 191 }
/-- AEA_CTRL.SHUFFLE (R549). -/
def AEA_CTRL_SHUFFLE : Field := { id := 3841, addr := 0x400f0000, lo := 4, width := 1, acc := .rwl, reset := 0, classes := 191 }
/-- AEA_CFG.BULK_WAIT (R549). -/
def AEA_CFG_BULK_WAIT : Field :=
  { id := 3842, addr := 0x400f0004, lo := 0, width := 8, acc := .rwl, reset := 50, classes := 191, vals := [(1, 255)] }
/-- AEA_LOCK.LOCK (R549). -/
def AEA_LOCK_LOCK : Field := { id := 3843, addr := 0x400f0008, lo := 0, width := 1, acc := .w1s, reset := 0, classes := 191 }
/-- AEA_STAT.BUSY (R549). -/
def AEA_STAT_BUSY : Field :=
  { id := 3844, addr := 0x400f0010, lo := 0, width := 1, acc := .ro, reset := 0, classes := 255, count := 2, stride := 0x10, live := true }
/-- AEA_STAT.CLASS (R549). -/
def AEA_STAT_CLASS : Field :=
  { id := 3845, addr := 0x400f0010, lo := 1, width := 3, acc := .ro, reset := 0, classes := 255, count := 2, stride := 0x10, live := true }
/-- AEA_STAT.SUSPENDED (R549). -/
def AEA_STAT_SUSPENDED : Field :=
  { id := 3846, addr := 0x400f0010, lo := 4, width := 1, acc := .ro, reset := 0, classes := 255, count := 2, stride := 0x10, live := true }
/-- AEA_STAT.KAT_FAIL (R549). -/
def AEA_STAT_KAT_FAIL : Field :=
  { id := 3847, addr := 0x400f0010, lo := 5, width := 1, acc := .ro, reset := 0, classes := 191, count := 2, stride := 0x10 }
/-- AEA_STAT.OPS (R549). -/
def AEA_STAT_OPS : Field :=
  { id := 3848, addr := 0x400f0010, lo := 16, width := 16, acc := .ro, reset := 0, classes := 255, count := 2, stride := 0x10 }
/-- AEA_ERR.TAG_FAIL (R549). -/
def AEA_ERR_TAG_FAIL : Field :=
  { id := 3849, addr := 0x400f0014, lo := 0, width := 8, acc := .ro, reset := 0, classes := 255, count := 2, stride := 0x10 }
/-- AEA_ERR.ABORTED (R549). -/
def AEA_ERR_ABORTED : Field :=
  { id := 3850, addr := 0x400f0014, lo := 8, width := 8, acc := .ro, reset := 0, classes := 255, count := 2, stride := 0x10 }
/-- AEA_ERR.REFUSED (R549). -/
def AEA_ERR_REFUSED : Field :=
  { id := 3851, addr := 0x400f0014, lo := 16, width := 8, acc := .ro, reset := 0, classes := 255, count := 2, stride := 0x10 }
/-- AEA_MASK.STALLS (R549). -/
def AEA_MASK_STALLS : Field := { id := 3852, addr := 0x400f0040, lo := 0, width := 16, acc := .ro, reset := 0, classes := 255 }
/-- AEA_ERR_CLR.CLR (R549). -/
def AEA_ERR_CLR_CLR : Field := { id := 3853, addr := 0x400f0044, lo := 0, width := 1, acc := .wo, reset := 0, classes := 0 }

/-- Every field of AEA. -/
def fieldsAEA : List Field :=
  [AEA_CTRL_EN, AEA_CTRL_SHUFFLE, AEA_CFG_BULK_WAIT, AEA_LOCK_LOCK, AEA_STAT_BUSY, AEA_STAT_CLASS, AEA_STAT_SUSPENDED, AEA_STAT_KAT_FAIL] ++
  [AEA_STAT_OPS, AEA_ERR_TAG_FAIL, AEA_ERR_ABORTED, AEA_ERR_REFUSED, AEA_MASK_STALLS, AEA_ERR_CLR_CLR]

/-! PKE (11_crypto_engines.md). -/
/-- PKE_CTRL.EN (R550). -/
def PKE_CTRL_EN : Field := { id := 4096, addr := 0x40100000, lo := 0, width := 1, acc := .rwl, reset := 0, classes := 191 }
/-- PKE_LOCK.LOCK (R550). -/
def PKE_LOCK_LOCK : Field := { id := 4097, addr := 0x40100004, lo := 0, width := 1, acc := .w1s, reset := 0, classes := 191 }
/-- PKE_STAT.BUSY (R550). -/
def PKE_STAT_BUSY : Field :=
  { id := 4098, addr := 0x40100008, lo := 0, width := 1, acc := .ro, reset := 0, classes := 255, live := true }
/-- PKE_STAT.OP (R550). -/
def PKE_STAT_OP : Field :=
  { id := 4099, addr := 0x40100008, lo := 1, width := 3, acc := .ro, reset := 0, classes := 255, live := true }
/-- PKE_STAT.KAT_DONE (R550). -/
def PKE_STAT_KAT_DONE : Field :=
  { id := 4100, addr := 0x40100008, lo := 4, width := 1, acc := .ro, reset := 0, classes := 255, live := true }
/-- PKE_STAT.KAT_FAIL (R550). -/
def PKE_STAT_KAT_FAIL : Field := { id := 4101, addr := 0x40100008, lo := 5, width := 1, acc := .ro, reset := 0, classes := 191 }
/-- PKE_STAT.FAULTS (R550). -/
def PKE_STAT_FAULTS : Field := { id := 4102, addr := 0x40100008, lo := 8, width := 8, acc := .ro, reset := 0, classes := 191 }
/-- PKE_ERR.VERIFY_FAIL (R550). -/
def PKE_ERR_VERIFY_FAIL : Field := { id := 4103, addr := 0x4010000c, lo := 0, width := 8, acc := .ro, reset := 0, classes := 255 }
/-- PKE_ERR.INVALID_KEY (R550). -/
def PKE_ERR_INVALID_KEY : Field := { id := 4104, addr := 0x4010000c, lo := 8, width := 8, acc := .ro, reset := 0, classes := 255 }
/-- PKE_OPS.OPS (R550). -/
def PKE_OPS_OPS : Field := { id := 4105, addr := 0x40100010, lo := 0, width := 32, acc := .ro, reset := 0, classes := 255 }

/-- Every field of PKE. -/
def fieldsPKE : List Field :=
  [PKE_CTRL_EN, PKE_LOCK_LOCK, PKE_STAT_BUSY, PKE_STAT_OP, PKE_STAT_KAT_DONE, PKE_STAT_KAT_FAIL, PKE_STAT_FAULTS, PKE_ERR_VERIFY_FAIL] ++
  [PKE_ERR_INVALID_KEY, PKE_OPS_OPS]

/-! HSH (11_crypto_engines.md). -/
/-- HSH_CTRL.EN (R551). -/
def HSH_CTRL_EN : Field := { id := 4352, addr := 0x40110000, lo := 0, width := 1, acc := .rwl, reset := 0, classes := 191 }
/-- HSH_LOCK.LOCK (R551). -/
def HSH_LOCK_LOCK : Field := { id := 4353, addr := 0x40110004, lo := 0, width := 1, acc := .w1s, reset := 0, classes := 191 }
/-- HSH_STAT.BUSY (R551). -/
def HSH_STAT_BUSY : Field :=
  { id := 4354, addr := 0x40110008, lo := 0, width := 1, acc := .ro, reset := 0, classes := 255, live := true }
/-- HSH_STAT.CONTEXTS (R551). -/
def HSH_STAT_CONTEXTS : Field :=
  { id := 4355, addr := 0x40110008, lo := 1, width := 3, acc := .ro, reset := 0, classes := 255, live := true }
/-- HSH_STAT.KAT_FAIL (R551). -/
def HSH_STAT_KAT_FAIL : Field := { id := 4356, addr := 0x40110008, lo := 4, width := 1, acc := .ro, reset := 0, classes := 191 }
/-- HSH_BLOCKS.BLOCKS (R551). -/
def HSH_BLOCKS_BLOCKS : Field := { id := 4357, addr := 0x4011000c, lo := 0, width := 32, acc := .ro, reset := 0, classes := 255 }

/-- Every field of HSH. -/
def fieldsHSH : List Field :=
  [HSH_CTRL_EN, HSH_LOCK_LOCK, HSH_STAT_BUSY, HSH_STAT_CONTEXTS, HSH_STAT_KAT_FAIL, HSH_BLOCKS_BLOCKS]

/-! RNG (11_crypto_engines.md). -/
/-- RNG_CFG.RESEED_MS (R552). -/
def RNG_CFG_RESEED_MS : Field :=
  { id := 4608, addr := 0x40120000, lo := 0, width := 14, acc := .rwl, reset := 1000, classes := 191, vals := [(100, 10000)] }
/-- RNG_LOCK.LOCK (R552). -/
def RNG_LOCK_LOCK : Field := { id := 4609, addr := 0x40120004, lo := 0, width := 1, acc := .w1s, reset := 0, classes := 191 }
/-- RNG_STAT.STATE (R552). -/
def RNG_STAT_STATE : Field :=
  { id := 4610, addr := 0x40120008, lo := 0, width := 3, acc := .ro, reset := 0, classes := 255, live := true }
/-- RNG_STAT.SEED_ONLY (R552). -/
def RNG_STAT_SEED_ONLY : Field :=
  { id := 4611, addr := 0x40120008, lo := 3, width := 1, acc := .ro, reset := 0, classes := 255, live := true }
/-- RNG_STAT.KAT_FAIL (R552). -/
def RNG_STAT_KAT_FAIL : Field := { id := 4612, addr := 0x40120008, lo := 4, width := 1, acc := .ro, reset := 0, classes := 191 }
/-- RNG_STAT.RESTARTS (R552). -/
def RNG_STAT_RESTARTS : Field := { id := 4613, addr := 0x40120008, lo := 8, width := 8, acc := .ro, reset := 0, classes := 191 }
/-- RNG_STAT.RCT_FAIL (R552). -/
def RNG_STAT_RCT_FAIL : Field := { id := 4614, addr := 0x40120008, lo := 16, width := 8, acc := .ro, reset := 0, classes := 191 }
/-- RNG_STAT.APT_FAIL (R552). -/
def RNG_STAT_APT_FAIL : Field := { id := 4615, addr := 0x40120008, lo := 24, width := 8, acc := .ro, reset := 0, classes := 191 }
/-- RNG_RESEEDS.COUNT (R552). -/
def RNG_RESEEDS_COUNT : Field := { id := 4616, addr := 0x4012000c, lo := 0, width := 32, acc := .ro, reset := 0, classes := 191 }
/-- RNG_AGE.MS (R552). -/
def RNG_AGE_MS : Field :=
  { id := 4617, addr := 0x40120010, lo := 0, width := 32, acc := .ro, reset := 0, classes := 255, live := true }

/-- Every field of RNG. -/
def fieldsRNG : List Field :=
  [RNG_CFG_RESEED_MS, RNG_LOCK_LOCK, RNG_STAT_STATE, RNG_STAT_SEED_ONLY, RNG_STAT_KAT_FAIL, RNG_STAT_RESTARTS, RNG_STAT_RCT_FAIL, RNG_STAT_APT_FAIL] ++
  [RNG_RESEEDS_COUNT, RNG_AGE_MS]

/-! LKT (12_locket_parameter_store.md). -/
/-- LKT_STAT.MOUNTED (R606). -/
def LKT_STAT_MOUNTED : Field :=
  { id := 4864, addr := 0x40130000, lo := 0, width := 1, acc := .ro, reset := 0, classes := 255, live := true }
/-- LKT_STAT.KEPT (R606). -/
def LKT_STAT_KEPT : Field :=
  { id := 4865, addr := 0x40130000, lo := 1, width := 1, acc := .ro, reset := 0, classes := 255, live := true }
/-- LKT_STAT.WTHRU (R606). -/
def LKT_STAT_WTHRU : Field :=
  { id := 4866, addr := 0x40130000, lo := 2, width := 1, acc := .ro, reset := 0, classes := 255, live := true }
/-- LKT_STAT.WP (R606). -/
def LKT_STAT_WP : Field :=
  { id := 4867, addr := 0x40130000, lo := 3, width := 1, acc := .ro, reset := 0, classes := 255, live := true }
/-- LKT_STAT.WORN (R606). -/
def LKT_STAT_WORN : Field :=
  { id := 4868, addr := 0x40130000, lo := 4, width := 1, acc := .ro, reset := 0, classes := 255, live := true }
/-- LKT_STAT.RING_DIFF (R606). -/
def LKT_STAT_RING_DIFF : Field :=
  { id := 4869, addr := 0x40130000, lo := 5, width := 1, acc := .ro, reset := 0, classes := 255, live := true }
/-- LKT_STAT.BACKLOG (R606). -/
def LKT_STAT_BACKLOG : Field :=
  { id := 4870, addr := 0x40130000, lo := 8, width := 10, acc := .ro, reset := 0, classes := 255, live := true }
/-- LKT_STAT.RECLAIM (R606). -/
def LKT_STAT_RECLAIM : Field :=
  { id := 4871, addr := 0x40130000, lo := 24, width := 1, acc := .ro, reset := 0, classes := 255, live := true }
/-- LKT_SEQ.NEXT (R606). -/
def LKT_SEQ_NEXT : Field :=
  { id := 4872, addr := 0x40130004, lo := 0, width := 32, acc := .ro, reset := 0, classes := 255, live := true }
/-- LKT_MOUNT.REPAIRS (R606). -/
def LKT_MOUNT_REPAIRS : Field :=
  { id := 4873, addr := 0x40130008, lo := 0, width := 12, acc := .ro, reset := 0, classes := 255, live := true }
/-- LKT_MOUNT.TIES (R606). -/
def LKT_MOUNT_TIES : Field :=
  { id := 4874, addr := 0x40130008, lo := 12, width := 8, acc := .ro, reset := 0, classes := 255, live := true }
/-- LKT_MOUNT.DAMAGED (R606). -/
def LKT_MOUNT_DAMAGED : Field :=
  { id := 4875, addr := 0x40130008, lo := 20, width := 8, acc := .ro, reset := 0, classes := 255, live := true }
/-- LKT_ERR.CORRECTED (R606). -/
def LKT_ERR_CORRECTED : Field := { id := 4876, addr := 0x4013000c, lo := 0, width := 8, acc := .ro, reset := 0, classes := 1 }
/-- LKT_ERR.UNLOCK_FAIL (R606). -/
def LKT_ERR_UNLOCK_FAIL : Field := { id := 4877, addr := 0x4013000c, lo := 8, width := 8, acc := .ro, reset := 0, classes := 1 }
/-- LKT_ERR.STALLS (R606). -/
def LKT_ERR_STALLS : Field := { id := 4878, addr := 0x4013000c, lo := 16, width := 8, acc := .ro, reset := 0, classes := 1 }
/-- LKT_ERR.REFUSED_WP (R606). -/
def LKT_ERR_REFUSED_WP : Field := { id := 4879, addr := 0x4013000c, lo := 24, width := 8, acc := .ro, reset := 0, classes := 1 }
/-- LKT_ERR_CLR.CLR (R606). -/
def LKT_ERR_CLR_CLR : Field := { id := 4880, addr := 0x40130010, lo := 0, width := 1, acc := .wo, reset := 0, classes := 0 }
/-- LKT_WEAR.MAX_ERASE (R606). -/
def LKT_WEAR_MAX_ERASE : Field :=
  { id := 4881, addr := 0x40130014, lo := 0, width := 17, acc := .ro, reset := 0, classes := 255, live := true }
/-- LKT_WEAR.RETIRED (R606). -/
def LKT_WEAR_RETIRED : Field :=
  { id := 4882, addr := 0x40130014, lo := 20, width := 4, acc := .ro, reset := 0, classes := 255, live := true }
/-- LKT_UNLOCK.REGION (R606). -/
def LKT_UNLOCK_REGION : Field :=
  { id := 4883, addr := 0x40130020, lo := 0, width := 3, acc := .rw, reset := 0, classes := 191, banked := true, hostLevel := some 0 }
/-- LKT_UNLOCK.KIND (R606). -/
def LKT_UNLOCK_KIND : Field :=
  { id := 4884, addr := 0x40130020, lo := 4, width := 1, acc := .rw, reset := 0, classes := 191, banked := true, hostLevel := some 0 }
/-- LKT_UNLOCK.GO (R606). -/
def LKT_UNLOCK_GO : Field :=
  { id := 4885, addr := 0x40130020, lo := 8, width := 1, acc := .sc, reset := 0, classes := 191, banked := true, hostLevel := some 0 }
/-- LKT_UNLOCK.RELOCK (R606). -/
def LKT_UNLOCK_RELOCK : Field :=
  { id := 4886, addr := 0x40130020, lo := 9, width := 1, acc := .wo, reset := 0, classes := 0, banked := true, hostLevel := some 0 }
/-- LKT_PW.PW (R606). -/
def LKT_PW_PW : Field :=
  { id := 4887, addr := 0x40130024, lo := 0, width := 32, acc := .wo, reset := 0, classes := 0, count := 4, stride := 0x4, banked := true, hostLevel := some 0 }
/-- LKT_GRANT.READ (R606). -/
def LKT_GRANT_READ : Field :=
  { id := 4888, addr := 0x40130034, lo := 0, width := 8, acc := .ro, reset := 0, classes := 255, banked := true, live := true }
/-- LKT_GRANT.WRITE (R606). -/
def LKT_GRANT_WRITE : Field :=
  { id := 4889, addr := 0x40130034, lo := 8, width := 8, acc := .ro, reset := 0, classes := 255, banked := true, live := true }
/-- LKT_GRANT.REFUSING (R606). -/
def LKT_GRANT_REFUSING : Field :=
  { id := 4890, addr := 0x40130034, lo := 16, width := 1, acc := .ro, reset := 0, classes := 255, banked := true, live := true }
/-- LKT_LOCK.LOCK (R606). -/
def LKT_LOCK_LOCK : Field := { id := 4891, addr := 0x40130038, lo := 0, width := 1, acc := .w1s, reset := 0, classes := 191 }
/-- LKT_RGN.BASE (R606). -/
def LKT_RGN_BASE : Field :=
  { id := 4892, addr := 0x40130040, lo := 0, width := 9, acc := .rwl, reset := 0, classes := 191, count := 8, stride := 0x4, prot := true }
/-- LKT_RGN.PAGES (R606). -/
def LKT_RGN_PAGES : Field :=
  { id := 4893, addr := 0x40130040, lo := 9, width := 10, acc := .rwl, reset := 0, classes := 191, vals := [(1, 512)], count := 8, stride := 0x4, prot := true }
/-- LKT_RGN.PAGE_ATOMIC (R606). -/
def LKT_RGN_PAGE_ATOMIC : Field :=
  { id := 4894, addr := 0x40130040, lo := 20, width := 1, acc := .rwl, reset := 0, classes := 191, count := 8, stride := 0x4, prot := true }
/-- LKT_RGN.DEVICE (R606). -/
def LKT_RGN_DEVICE : Field :=
  { id := 4895, addr := 0x40130040, lo := 21, width := 1, acc := .rwl, reset := 0, classes := 191, count := 8, stride := 0x4, prot := true }
/-- LKT_RGN.READ_OPEN (R606). -/
def LKT_RGN_READ_OPEN : Field :=
  { id := 4896, addr := 0x40130040, lo := 22, width := 1, acc := .rwl, reset := 0, classes := 191, count := 8, stride := 0x4, prot := true }
/-- LKT_RGN.WRITE_OPEN (R606). -/
def LKT_RGN_WRITE_OPEN : Field :=
  { id := 4897, addr := 0x40130040, lo := 23, width := 1, acc := .rwl, reset := 0, classes := 191, count := 8, stride := 0x4, prot := true }
/-- LKT_RGN.EN (R606). -/
def LKT_RGN_EN : Field :=
  { id := 4898, addr := 0x40130040, lo := 24, width := 1, acc := .rwl, reset := 0, classes := 191, count := 8, stride := 0x4, prot := true }
/-- LKT_RPH.HASH (R606). -/
def LKT_RPH_HASH : Field :=
  { id := 4899, addr := 0x40130080, lo := 0, width := 32, acc := .rwl, reset := 0, classes := 191, count := 8, stride := 0x20, inner := 4, istride := 0x4, prot := true }
/-- LKT_WPH.HASH (R606). -/
def LKT_WPH_HASH : Field :=
  { id := 4900, addr := 0x40130090, lo := 0, width := 32, acc := .rwl, reset := 0, classes := 191, count := 8, stride := 0x20, inner := 4, istride := 0x4, prot := true }
/-- LKT_RING_QRY.RING (R606). -/
def LKT_RING_QRY_RING : Field := { id := 4901, addr := 0x40130200, lo := 0, width := 6, acc := .rw, reset := 0, classes := 191 }
/-- LKT_RING_INFO.BASE (R606). -/
def LKT_RING_INFO_BASE : Field :=
  { id := 4902, addr := 0x40130204, lo := 0, width := 7, acc := .ro, reset := 0, classes := 255, live := true }
/-- LKT_RING_INFO.PAGES (R606). -/
def LKT_RING_INFO_PAGES : Field :=
  { id := 4903, addr := 0x40130204, lo := 8, width := 6, acc := .ro, reset := 0, classes := 255, live := true }
/-- LKT_RING_INFO.EN (R606). -/
def LKT_RING_INFO_EN : Field :=
  { id := 4904, addr := 0x40130204, lo := 16, width := 1, acc := .ro, reset := 0, classes := 255, live := true }
/-- LKT_RING_INFO.WORN (R606). -/
def LKT_RING_INFO_WORN : Field :=
  { id := 4905, addr := 0x40130204, lo := 17, width := 1, acc := .ro, reset := 0, classes := 255, live := true }
/-- LKT_RING_LO.LO (R606). -/
def LKT_RING_LO_LO : Field :=
  { id := 4906, addr := 0x40130208, lo := 0, width := 32, acc := .ro, reset := 0, classes := 255, live := true }
/-- LKT_RING_HI.HI (R606). -/
def LKT_RING_HI_HI : Field :=
  { id := 4907, addr := 0x4013020c, lo := 0, width := 32, acc := .ro, reset := 0, classes := 255, live := true }
/-- LKT_RING_WEAR.PASSES (R606). -/
def LKT_RING_WEAR_PASSES : Field :=
  { id := 4908, addr := 0x40130210, lo := 0, width := 17, acc := .ro, reset := 0, classes := 255, live := true }
/-- LKT_RING_SET_LO.LO (R606). -/
def LKT_RING_SET_LO_LO : Field :=
  { id := 4909, addr := 0x40130214, lo := 0, width := 32, acc := .wo, reset := 0, classes := 0, secOnly := true }
/-- LKT_RING_SET_HI.HI (R606). -/
def LKT_RING_SET_HI_HI : Field :=
  { id := 4910, addr := 0x40130218, lo := 0, width := 32, acc := .wo, reset := 0, classes := 0, secOnly := true }
/-- LKT_RING_CTL.RING (R606). -/
def LKT_RING_CTL_RING : Field :=
  { id := 4911, addr := 0x4013021c, lo := 0, width := 6, acc := .rw, reset := 0, classes := 191, vals := [(8, 63)], secOnly := true }
/-- LKT_RING_CTL.GO (R606). -/
def LKT_RING_CTL_GO : Field :=
  { id := 4912, addr := 0x4013021c, lo := 8, width := 1, acc := .sc, reset := 0, classes := 191, secOnly := true }
/-- LKT_RING_CTL.STATUS (R606). -/
def LKT_RING_CTL_STATUS : Field :=
  { id := 4913, addr := 0x4013021c, lo := 16, width := 8, acc := .ro, reset := 0, classes := 191, secOnly := true }

/-- Every field of LKT. -/
def fieldsLKT : List Field :=
  [LKT_STAT_MOUNTED, LKT_STAT_KEPT, LKT_STAT_WTHRU, LKT_STAT_WP, LKT_STAT_WORN, LKT_STAT_RING_DIFF, LKT_STAT_BACKLOG, LKT_STAT_RECLAIM] ++
  [LKT_SEQ_NEXT, LKT_MOUNT_REPAIRS, LKT_MOUNT_TIES, LKT_MOUNT_DAMAGED, LKT_ERR_CORRECTED, LKT_ERR_UNLOCK_FAIL, LKT_ERR_STALLS, LKT_ERR_REFUSED_WP] ++
  [LKT_ERR_CLR_CLR, LKT_WEAR_MAX_ERASE, LKT_WEAR_RETIRED, LKT_UNLOCK_REGION, LKT_UNLOCK_KIND, LKT_UNLOCK_GO, LKT_UNLOCK_RELOCK, LKT_PW_PW] ++
  [LKT_GRANT_READ, LKT_GRANT_WRITE, LKT_GRANT_REFUSING, LKT_LOCK_LOCK, LKT_RGN_BASE, LKT_RGN_PAGES, LKT_RGN_PAGE_ATOMIC, LKT_RGN_DEVICE] ++
  [LKT_RGN_READ_OPEN, LKT_RGN_WRITE_OPEN, LKT_RGN_EN, LKT_RPH_HASH, LKT_WPH_HASH, LKT_RING_QRY_RING, LKT_RING_INFO_BASE, LKT_RING_INFO_PAGES] ++
  [LKT_RING_INFO_EN, LKT_RING_INFO_WORN, LKT_RING_LO_LO, LKT_RING_HI_HI, LKT_RING_WEAR_PASSES, LKT_RING_SET_LO_LO, LKT_RING_SET_HI_HI, LKT_RING_CTL_RING] ++
  [LKT_RING_CTL_GO, LKT_RING_CTL_STATUS]

/-! JNL (13_journal.md). -/
/-- JNL_CTRL.EN (R651). -/
def JNL_CTRL_EN : Field := { id := 5120, addr := 0x40140000, lo := 0, width := 1, acc := .rwl, reset := 0, classes := 191 }
/-- JNL_CFG.FLUSH_MS (R651). -/
def JNL_CFG_FLUSH_MS : Field :=
  { id := 5121, addr := 0x40140004, lo := 0, width := 7, acc := .rwl, reset := 20, classes := 191, vals := [(1, 100)] }
/-- JNL_CFG.NEAR (R651). -/
def JNL_CFG_NEAR : Field :=
  { id := 5122, addr := 0x40140004, lo := 8, width := 4, acc := .rwl, reset := 12, classes := 191, vals := [(1, 15)] }
/-- JNL_CFG.EXP_SLOT (R651). -/
def JNL_CFG_EXP_SLOT : Field := { id := 5123, addr := 0x40140004, lo := 16, width := 8, acc := .rwl, reset := 0, classes := 191 }
/-- JNL_CFG.RCPT (R651). -/
def JNL_CFG_RCPT : Field :=
  { id := 5124, addr := 0x40140004, lo := 24, width := 2, acc := .rwl, reset := 0, classes := 191, vals := [(0, 2)] }
/-- JNL_NAND.DENSITY (R651). -/
def JNL_NAND_DENSITY : Field :=
  { id := 5125, addr := 0x40140008, lo := 0, width := 3, acc := .rwl, reset := 0, classes := 191, vals := [(0, 5)] }
/-- JNL_NAND.CLK_DIV (R651). -/
def JNL_NAND_CLK_DIV : Field := { id := 5126, addr := 0x40140008, lo := 8, width := 4, acc := .rwl, reset := 1, classes := 191 }
/-- JNL_HWM.RING (R651). -/
def JNL_HWM_RING : Field :=
  { id := 5127, addr := 0x4014000c, lo := 0, width := 6, acc := .rwl, reset := 0, classes := 191, vals := [(0, 0), (8, 63)] }
/-- JNL_LOCK.LOCK (R651). -/
def JNL_LOCK_LOCK : Field := { id := 5128, addr := 0x40140010, lo := 0, width := 1, acc := .w1s, reset := 0, classes := 191 }
/-- JNL_STAT.STATE (R651). -/
def JNL_STAT_STATE : Field :=
  { id := 5129, addr := 0x40140020, lo := 0, width := 3, acc := .ro, reset := 0, classes := 255, live := true }
/-- JNL_STAT.PENDING (R651). -/
def JNL_STAT_PENDING : Field :=
  { id := 5130, addr := 0x40140020, lo := 8, width := 8, acc := .ro, reset := 0, classes := 255, live := true }
/-- JNL_NEXT_LO.LO (R651). -/
def JNL_NEXT_LO_LO : Field :=
  { id := 5131, addr := 0x40140024, lo := 0, width := 32, acc := .ro, reset := 0, classes := 255, live := true }
/-- JNL_NEXT_HI.HI (R651). -/
def JNL_NEXT_HI_HI : Field :=
  { id := 5132, addr := 0x40140028, lo := 0, width := 16, acc := .ro, reset := 0, classes := 255, live := true }
/-- JNL_ACK_LO.LO (R651). -/
def JNL_ACK_LO_LO : Field :=
  { id := 5133, addr := 0x4014002c, lo := 0, width := 32, acc := .ro, reset := 0, classes := 255, live := true }
/-- JNL_ACK_HI.HI (R651). -/
def JNL_ACK_HI_HI : Field :=
  { id := 5134, addr := 0x40140030, lo := 0, width := 16, acc := .ro, reset := 0, classes := 255, live := true }
/-- JNL_CAP.BLOCKS (R651). -/
def JNL_CAP_BLOCKS : Field :=
  { id := 5135, addr := 0x40140034, lo := 0, width := 14, acc := .ro, reset := 0, classes := 255, live := true }
/-- JNL_CAP.BAD (R651). -/
def JNL_CAP_BAD : Field :=
  { id := 5136, addr := 0x40140034, lo := 16, width := 14, acc := .ro, reset := 0, classes := 255, live := true }
/-- JNL_USED.SLOTS (R651). -/
def JNL_USED_SLOTS : Field :=
  { id := 5137, addr := 0x40140038, lo := 0, width := 24, acc := .ro, reset := 0, classes := 255, live := true }
/-- JNL_ERR.RS_CORR (R651). -/
def JNL_ERR_RS_CORR : Field := { id := 5138, addr := 0x4014003c, lo := 0, width := 8, acc := .ro, reset := 0, classes := 255 }
/-- JNL_ERR.DAMAGED (R651). -/
def JNL_ERR_DAMAGED : Field := { id := 5139, addr := 0x4014003c, lo := 8, width := 8, acc := .ro, reset := 0, classes := 255 }
/-- JNL_ERR.PROG_FAIL (R651). -/
def JNL_ERR_PROG_FAIL : Field := { id := 5140, addr := 0x4014003c, lo := 16, width := 8, acc := .ro, reset := 0, classes := 255 }
/-- JNL_ERR.ERASE_FAIL (R651). -/
def JNL_ERR_ERASE_FAIL : Field := { id := 5141, addr := 0x4014003c, lo := 24, width := 8, acc := .ro, reset := 0, classes := 255 }
/-- JNL_LOST.COUNT (R651). -/
def JNL_LOST_COUNT : Field := { id := 5142, addr := 0x40140040, lo := 0, width := 32, acc := .ro, reset := 0, classes := 255 }
/-- JNL_ERR_CLR.CLR (R651). -/
def JNL_ERR_CLR_CLR : Field := { id := 5143, addr := 0x40140044, lo := 0, width := 1, acc := .wo, reset := 0, classes := 0 }
/-- JNL_SEAL_CTL.GO (R651). -/
def JNL_SEAL_CTL_GO : Field :=
  { id := 5144, addr := 0x40140048, lo := 0, width := 1, acc := .sc, reset := 0, classes := 255, secOnly := true }
/-- JNL_ADMIN.KEY (R651). -/
def JNL_ADMIN_KEY : Field :=
  { id := 5145, addr := 0x4014004c, lo := 0, width := 8, acc := .wo, reset := 0, classes := 0, windowOnly := true }

/-- Every field of JNL. -/
def fieldsJNL : List Field :=
  [JNL_CTRL_EN, JNL_CFG_FLUSH_MS, JNL_CFG_NEAR, JNL_CFG_EXP_SLOT, JNL_CFG_RCPT, JNL_NAND_DENSITY, JNL_NAND_CLK_DIV, JNL_HWM_RING] ++
  [JNL_LOCK_LOCK, JNL_STAT_STATE, JNL_STAT_PENDING, JNL_NEXT_LO_LO, JNL_NEXT_HI_HI, JNL_ACK_LO_LO, JNL_ACK_HI_HI, JNL_CAP_BLOCKS] ++
  [JNL_CAP_BAD, JNL_USED_SLOTS, JNL_ERR_RS_CORR, JNL_ERR_DAMAGED, JNL_ERR_PROG_FAIL, JNL_ERR_ERASE_FAIL, JNL_LOST_COUNT, JNL_ERR_CLR_CLR] ++
  [JNL_SEAL_CTL_GO, JNL_ADMIN_KEY]

/-! HFT (14_hf_enforcement_tag.md). -/
/-- HFT_CTRL.EN (R699). -/
def HFT_CTRL_EN : Field := { id := 5376, addr := 0x40150000, lo := 0, width := 1, acc := .rwl, reset := 0, classes := 191 }
/-- HFT_TAG_CFG.WS_EN (R699). -/
def HFT_TAG_CFG_WS_EN : Field :=
  { id := 5377, addr := 0x40150004, lo := 0, width := 1, acc := .rwl, reset := 0, classes := 191, prot := true }
/-- HFT_TAG_CFG.WS_TOKEN (R699). -/
def HFT_TAG_CFG_WS_TOKEN : Field :=
  { id := 5378, addr := 0x40150004, lo := 1, width := 1, acc := .rwl, reset := 0, classes := 191, prot := true }
/-- HFT_TAG_CFG.ENF_EN (R699). -/
def HFT_TAG_CFG_ENF_EN : Field :=
  { id := 5379, addr := 0x40150004, lo := 2, width := 1, acc := .rwl, reset := 0, classes := 191, prot := true }
/-- HFT_WR_RANGE.ENF_BASE (R699). -/
def HFT_WR_RANGE_ENF_BASE : Field :=
  { id := 5380, addr := 0x40150008, lo := 0, width := 7, acc := .rwl, reset := 0, classes := 191, prot := true }
/-- HFT_WR_RANGE.ENF_PAGES (R699). -/
def HFT_WR_RANGE_ENF_PAGES : Field :=
  { id := 5381, addr := 0x40150008, lo := 8, width := 7, acc := .rwl, reset := 0, classes := 191, prot := true }
/-- HFT_WR_RANGE.WS_BASE (R699). -/
def HFT_WR_RANGE_WS_BASE : Field :=
  { id := 5382, addr := 0x40150008, lo := 16, width := 7, acc := .rwl, reset := 0, classes := 191, prot := true }
/-- HFT_WR_RANGE.WS_PAGES (R699). -/
def HFT_WR_RANGE_WS_PAGES : Field :=
  { id := 5383, addr := 0x40150008, lo := 24, width := 7, acc := .rwl, reset := 0, classes := 191, prot := true }
/-- HFT_WS_KEY.KEY (R699). -/
def HFT_WS_KEY_KEY : Field :=
  { id := 5384, addr := 0x40150010, lo := 0, width := 32, acc := .rwl, reset := 0, classes := 191, count := 4, stride := 0x4, prot := true }
/-- HFT_LOCK.LOCK (R699). -/
def HFT_LOCK_LOCK : Field := { id := 5385, addr := 0x40150020, lo := 0, width := 1, acc := .w1s, reset := 0, classes := 191 }
/-- HFT_STAT.FIELD (R699). -/
def HFT_STAT_FIELD : Field :=
  { id := 5386, addr := 0x40150030, lo := 0, width := 1, acc := .ro, reset := 0, classes := 255, live := true }
/-- HFT_STAT.POWER (R699). -/
def HFT_STAT_POWER : Field :=
  { id := 5387, addr := 0x40150030, lo := 1, width := 2, acc := .ro, reset := 0, classes := 255, live := true }
/-- HFT_STAT.STATE (R699). -/
def HFT_STAT_STATE : Field :=
  { id := 5388, addr := 0x40150030, lo := 3, width := 2, acc := .ro, reset := 0, classes := 255, live := true }
/-- HFT_STAT.METHOD (R699). -/
def HFT_STAT_METHOD : Field :=
  { id := 5389, addr := 0x40150030, lo := 5, width := 2, acc := .ro, reset := 0, classes := 255, live := true }
/-- HFT_STAT.WRITE_OK (R699). -/
def HFT_STAT_WRITE_OK : Field :=
  { id := 5390, addr := 0x40150030, lo := 7, width := 1, acc := .ro, reset := 0, classes := 255, live := true }
/-- HFT_STAT.BUSY (R699). -/
def HFT_STAT_BUSY : Field :=
  { id := 5391, addr := 0x40150030, lo := 8, width := 1, acc := .ro, reset := 0, classes := 255, live := true }
/-- HFT_STAT.FAILS (R699). -/
def HFT_STAT_FAILS : Field :=
  { id := 5392, addr := 0x40150030, lo := 9, width := 3, acc := .ro, reset := 0, classes := 255, live := true }
/-- HFT_UID.UID (R699). -/
def HFT_UID_UID : Field :=
  { id := 5393, addr := 0x40150034, lo := 0, width := 32, acc := .ro, reset := 0, classes := 255, live := true }
/-- HFT_READER_LO.LO (R699). -/
def HFT_READER_LO_LO : Field :=
  { id := 5394, addr := 0x40150038, lo := 0, width := 32, acc := .ro, reset := 0, classes := 255, live := true }
/-- HFT_READER_HI.HI (R699). -/
def HFT_READER_HI_HI : Field :=
  { id := 5395, addr := 0x4015003c, lo := 0, width := 32, acc := .ro, reset := 0, classes := 255, live := true }
/-- HFT_ERR.CRC (R699). -/
def HFT_ERR_CRC : Field := { id := 5396, addr := 0x40150040, lo := 0, width := 8, acc := .ro, reset := 0, classes := 255 }
/-- HFT_ERR.SM_FAIL (R699). -/
def HFT_ERR_SM_FAIL : Field := { id := 5397, addr := 0x40150040, lo := 8, width := 8, acc := .ro, reset := 0, classes := 255 }
/-- HFT_ERR.AUTH_FAIL (R699). -/
def HFT_ERR_AUTH_FAIL : Field := { id := 5398, addr := 0x40150040, lo := 16, width := 8, acc := .ro, reset := 0, classes := 255 }
/-- HFT_ERR.FIELD_BUSY (R699). -/
def HFT_ERR_FIELD_BUSY : Field := { id := 5399, addr := 0x40150040, lo := 24, width := 8, acc := .ro, reset := 0, classes := 255 }
/-- HFT_ERR_CLR.CLR (R699). -/
def HFT_ERR_CLR_CLR : Field :=
  { id := 5400, addr := 0x40150044, lo := 0, width := 1, acc := .wo, reset := 0, classes := 0, hostLevel := some 2 }
/-- HFT_COUNT.ENTRIES (R699). -/
def HFT_COUNT_ENTRIES : Field := { id := 5401, addr := 0x40150048, lo := 0, width := 16, acc := .ro, reset := 0, classes := 191 }
/-- HFT_COUNT.WRITES (R699). -/
def HFT_COUNT_WRITES : Field := { id := 5402, addr := 0x40150048, lo := 16, width := 16, acc := .ro, reset := 0, classes := 191 }
/-- HFT_LAST.SEQ (R699). -/
def HFT_LAST_SEQ : Field :=
  { id := 5403, addr := 0x4015004c, lo := 0, width := 32, acc := .ro, reset := 0, classes := 255, live := true }

/-- Every field of HFT. -/
def fieldsHFT : List Field :=
  [HFT_CTRL_EN, HFT_TAG_CFG_WS_EN, HFT_TAG_CFG_WS_TOKEN, HFT_TAG_CFG_ENF_EN, HFT_WR_RANGE_ENF_BASE, HFT_WR_RANGE_ENF_PAGES, HFT_WR_RANGE_WS_BASE, HFT_WR_RANGE_WS_PAGES] ++
  [HFT_WS_KEY_KEY, HFT_LOCK_LOCK, HFT_STAT_FIELD, HFT_STAT_POWER, HFT_STAT_STATE, HFT_STAT_METHOD, HFT_STAT_WRITE_OK, HFT_STAT_BUSY] ++
  [HFT_STAT_FAILS, HFT_UID_UID, HFT_READER_LO_LO, HFT_READER_HI_HI, HFT_ERR_CRC, HFT_ERR_SM_FAIL, HFT_ERR_AUTH_FAIL, HFT_ERR_FIELD_BUSY] ++
  [HFT_ERR_CLR_CLR, HFT_COUNT_ENTRIES, HFT_COUNT_WRITES, HFT_LAST_SEQ]

/-! HIF (15_host_interface_queues_mailboxes.md). -/
/-- HIF_CFG.QUAD (R756). -/
def HIF_CFG_QUAD : Field :=
  { id := 5632, addr := 0x40160000, lo := 0, width := 1, acc := .rw, reset := 0, classes := 255, hostLevel := some 0 }
/-- HIF_CFG.LEGACY (R756). -/
def HIF_CFG_LEGACY : Field := { id := 5633, addr := 0x40160000, lo := 1, width := 1, acc := .rwl, reset := 0, classes := 191 }
/-- HIF_STAT.LAST_OP (R756). -/
def HIF_STAT_LAST_OP : Field := { id := 5634, addr := 0x40160004, lo := 0, width := 8, acc := .ro, reset := 0, classes := 255 }
/-- HIF_STAT.LAST_STATUS (R756). -/
def HIF_STAT_LAST_STATUS : Field := { id := 5635, addr := 0x40160004, lo := 8, width := 8, acc := .ro, reset := 0, classes := 255 }
/-- HIF_STAT.WORDS (R756). -/
def HIF_STAT_WORDS : Field := { id := 5636, addr := 0x40160004, lo := 16, width := 7, acc := .ro, reset := 0, classes := 255 }
/-- HIF_DELAY.US (R756). -/
def HIF_DELAY_US : Field := { id := 5637, addr := 0x40160008, lo := 0, width := 32, acc := .ro, reset := 0, classes := 255 }
/-- HIF_FRAMES.FRAMES (R756). -/
def HIF_FRAMES_FRAMES : Field := { id := 5638, addr := 0x4016000c, lo := 0, width := 16, acc := .ro, reset := 0, classes := 255 }
/-- HIF_ERR.BAD_OP (R756). -/
def HIF_ERR_BAD_OP : Field := { id := 5639, addr := 0x40160010, lo := 0, width := 8, acc := .ro, reset := 0, classes := 255 }
/-- HIF_ERR.SHORT (R756). -/
def HIF_ERR_SHORT : Field := { id := 5640, addr := 0x40160010, lo := 8, width := 8, acc := .ro, reset := 0, classes := 255 }
/-- HIF_ERR.ABANDONED (R756). -/
def HIF_ERR_ABANDONED : Field := { id := 5641, addr := 0x40160010, lo := 16, width := 8, acc := .ro, reset := 0, classes := 255 }
/-- HIF_ERR_CLR.CLR (R756). -/
def HIF_ERR_CLR_CLR : Field :=
  { id := 5642, addr := 0x40160014, lo := 0, width := 1, acc := .wo, reset := 0, classes := 0, hostLevel := some 0 }
/-- HIF_EE.WIP (R756). -/
def HIF_EE_WIP : Field :=
  { id := 5643, addr := 0x40160018, lo := 0, width := 1, acc := .ro, reset := 0, classes := 255, live := true }
/-- HIF_EE.WEL (R756). -/
def HIF_EE_WEL : Field := { id := 5644, addr := 0x40160018, lo := 1, width := 1, acc := .ro, reset := 0, classes := 255 }
/-- HIF_EE.WP (R756). -/
def HIF_EE_WP : Field :=
  { id := 5645, addr := 0x40160018, lo := 4, width := 1, acc := .ro, reset := 0, classes := 255, live := true }
/-- HIF_EE.ERR (R756). -/
def HIF_EE_ERR : Field := { id := 5646, addr := 0x40160018, lo := 5, width := 1, acc := .ro, reset := 0, classes := 255 }
/-- HIF_LOCK.LOCK (R756). -/
def HIF_LOCK_LOCK : Field := { id := 5647, addr := 0x4016001c, lo := 0, width := 1, acc := .w1s, reset := 0, classes := 191 }

/-- Every field of HIF. -/
def fieldsHIF : List Field :=
  [HIF_CFG_QUAD, HIF_CFG_LEGACY, HIF_STAT_LAST_OP, HIF_STAT_LAST_STATUS, HIF_STAT_WORDS, HIF_DELAY_US, HIF_FRAMES_FRAMES, HIF_ERR_BAD_OP] ++
  [HIF_ERR_SHORT, HIF_ERR_ABANDONED, HIF_ERR_CLR_CLR, HIF_EE_WIP, HIF_EE_WEL, HIF_EE_WP, HIF_EE_ERR, HIF_LOCK_LOCK]

/-! QUE (15_host_interface_queues_mailboxes.md). -/
/-- QUE_CTRL.EN (R757). -/
def QUE_CTRL_EN : Field := { id := 1280, addr := 0x40050000, lo := 0, width := 1, acc := .rwl, reset := 0, classes := 191 }
/-- QUE_CFG.BULK_WAIT (R757). -/
def QUE_CFG_BULK_WAIT : Field :=
  { id := 1281, addr := 0x40050004, lo := 0, width := 8, acc := .rwl, reset := 50, classes := 191, vals := [(1, 255)] }
/-- QUE_LOCK.LOCK (R757). -/
def QUE_LOCK_LOCK : Field := { id := 1282, addr := 0x40050008, lo := 0, width := 1, acc := .w1s, reset := 0, classes := 191 }
/-- QUE_ENQ_CTL.QUEUE (R757). -/
def QUE_ENQ_CTL_QUEUE : Field :=
  { id := 1283, addr := 0x4005000c, lo := 0, width := 6, acc := .rw, reset := 0, classes := 255, banked := true }
/-- QUE_ENQ_CTL.GO (R757). -/
def QUE_ENQ_CTL_GO : Field :=
  { id := 1284, addr := 0x4005000c, lo := 8, width := 1, acc := .sc, reset := 0, classes := 255, banked := true }
/-- QUE_ENQ_CTL.STATUS (R757). -/
def QUE_ENQ_CTL_STATUS : Field :=
  { id := 1285, addr := 0x4005000c, lo := 16, width := 8, acc := .ro, reset := 0, classes := 255, banked := true }
/-- QUE_ENQ_SEQ.SEQ (R757). -/
def QUE_ENQ_SEQ_SEQ : Field :=
  { id := 1286, addr := 0x40050010, lo := 0, width := 32, acc := .ro, reset := 0, classes := 255, banked := true }
/-- QUE_DEQ_CTL.QUEUE (R757). -/
def QUE_DEQ_CTL_QUEUE : Field :=
  { id := 1287, addr := 0x40050014, lo := 0, width := 6, acc := .rw, reset := 0, classes := 255, banked := true }
/-- QUE_DEQ_CTL.GO (R757). -/
def QUE_DEQ_CTL_GO : Field :=
  { id := 1288, addr := 0x40050014, lo := 8, width := 1, acc := .sc, reset := 0, classes := 255, banked := true }
/-- QUE_DEQ_CTL.STATUS (R757). -/
def QUE_DEQ_CTL_STATUS : Field :=
  { id := 1289, addr := 0x40050014, lo := 16, width := 8, acc := .ro, reset := 0, classes := 255, banked := true }
/-- QUE_BUF.DATA (R757). -/
def QUE_BUF_DATA : Field :=
  { id := 1290, addr := 0x40050040, lo := 0, width := 32, acc := .rw, reset := 0, classes := 255, count := 16, stride := 0x4, banked := true }
/-- QUE_RING_CFG.DEPTH (R757). -/
def QUE_RING_CFG_DEPTH : Field :=
  { id := 1291, addr := 0x40050100, lo := 0, width := 9, acc := .rwl, reset := 32, classes := 191, more := [(16, 64), (32, 256)], vals := [(16, 16), (32, 32), (64, 64), (128, 128), (256, 256)], count := 40, stride := 0x10 }
/-- QUE_RING_STAT.FILL (R757). -/
def QUE_RING_STAT_FILL : Field :=
  { id := 1292, addr := 0x40050104, lo := 0, width := 9, acc := .ro, reset := 0, classes := 255, count := 40, stride := 0x10, live := true }
/-- QUE_RING_STAT.FULL (R757). -/
def QUE_RING_STAT_FULL : Field :=
  { id := 1293, addr := 0x40050104, lo := 16, width := 1, acc := .ro, reset := 0, classes := 255, count := 40, stride := 0x10, live := true }
/-- QUE_SEQ.NEXT (R757). -/
def QUE_SEQ_NEXT : Field :=
  { id := 1294, addr := 0x40050108, lo := 0, width := 32, acc := .ro, reset := 0, classes := 1, count := 40, stride := 0x10 }
/-- QUE_TAKEN.SEQ (R757). -/
def QUE_TAKEN_SEQ : Field :=
  { id := 1295, addr := 0x4005010c, lo := 0, width := 32, acc := .ro, reset := 4294967295, classes := 1, count := 40, stride := 0x10 }
/-- QUE_INT_SEQ.NEXT (R717). -/
def QUE_INT_SEQ_NEXT : Field :=
  { id := 1296, addr := 0x40050400, lo := 0, width := 32, acc := .ro, reset := 0, classes := 1, count := 8, stride := 0x4, live := true }

/-- Every field of QUE. -/
def fieldsQUE : List Field :=
  [QUE_CTRL_EN, QUE_CFG_BULK_WAIT, QUE_LOCK_LOCK, QUE_ENQ_CTL_QUEUE, QUE_ENQ_CTL_GO, QUE_ENQ_CTL_STATUS, QUE_ENQ_SEQ_SEQ, QUE_DEQ_CTL_QUEUE] ++
  [QUE_DEQ_CTL_GO, QUE_DEQ_CTL_STATUS, QUE_BUF_DATA, QUE_RING_CFG_DEPTH, QUE_RING_STAT_FILL, QUE_RING_STAT_FULL, QUE_SEQ_NEXT, QUE_TAKEN_SEQ] ++
  [QUE_INT_SEQ_NEXT]

/-! MBX (15_host_interface_queues_mailboxes.md). -/
/-- MBX_CFG.CROSS_US (R758). -/
def MBX_CFG_CROSS_US : Field :=
  { id := 1024, addr := 0x40040000, lo := 0, width := 10, acc := .rwl, reset := 200, classes := 191, vals := [(20, 1000)] }
/-- MBX_STAT.FULL (R758). -/
def MBX_STAT_FULL : Field :=
  { id := 1025, addr := 0x40040004, lo := 0, width := 8, acc := .ro, reset := 0, classes := 255, live := true }
/-- MBX_STAT.CROSS (R758). -/
def MBX_STAT_CROSS : Field :=
  { id := 1026, addr := 0x40040004, lo := 8, width := 4, acc := .ro, reset := 0, classes := 255, live := true }
/-- MBX_TX_CTL.DEST (R758). -/
def MBX_TX_CTL_DEST : Field :=
  { id := 1027, addr := 0x40040008, lo := 0, width := 3, acc := .rw, reset := 0, classes := 255, banked := true, hostLevel := some 0 }
/-- MBX_TX_CTL.LEN (R758). -/
def MBX_TX_CTL_LEN : Field :=
  { id := 1028, addr := 0x40040008, lo := 4, width := 5, acc := .rw, reset := 1, classes := 255, vals := [(1, 16)], banked := true, hostLevel := some 0 }
/-- MBX_TX_CTL.GO (R758). -/
def MBX_TX_CTL_GO : Field :=
  { id := 1029, addr := 0x40040008, lo := 12, width := 1, acc := .sc, reset := 0, classes := 255, banked := true, hostLevel := some 0 }
/-- MBX_TX_CTL.STATUS (R758). -/
def MBX_TX_CTL_STATUS : Field :=
  { id := 1030, addr := 0x40040008, lo := 16, width := 8, acc := .ro, reset := 0, classes := 255, banked := true, hostLevel := some 0 }
/-- MBX_LOCK.LOCK (R758). -/
def MBX_LOCK_LOCK : Field := { id := 1031, addr := 0x4004000c, lo := 0, width := 1, acc := .w1s, reset := 0, classes := 191 }
/-- MBX_CLASP_REL.HOST (R758). -/
def MBX_CLASP_REL_HOST : Field :=
  { id := 1032, addr := 0x40040010, lo := 0, width := 1, acc := .wo, reset := 0, classes := 0, hostLevel := some 0 }
/-- MBX_TX.DATA (R758). -/
def MBX_TX_DATA : Field :=
  { id := 1033, addr := 0x40040040, lo := 0, width := 32, acc := .rw, reset := 0, classes := 255, count := 16, stride := 0x4, banked := true, hostLevel := some 0 }
/-- MBX_RX_HDR.SENDER (R758). -/
def MBX_RX_HDR_SENDER : Field :=
  { id := 1034, addr := 0x40040100, lo := 0, width := 3, acc := .ro, reset := 0, classes := 255, count := 8, stride := 0x80, live := true }
/-- MBX_RX_HDR.LEN (R758). -/
def MBX_RX_HDR_LEN : Field :=
  { id := 1035, addr := 0x40040100, lo := 4, width := 5, acc := .ro, reset := 0, classes := 255, count := 8, stride := 0x80, live := true }
/-- MBX_RX_HDR.AGE (R758). -/
def MBX_RX_HDR_AGE : Field :=
  { id := 1036, addr := 0x40040100, lo := 16, width := 16, acc := .ro, reset := 0, classes := 255, count := 8, stride := 0x80, live := true }
/-- MBX_ACK.ACK (R758). -/
def MBX_ACK_ACK : Field :=
  { id := 1037, addr := 0x40040104, lo := 0, width := 1, acc := .wo, reset := 0, classes := 0, count := 8, stride := 0x80, hostLevel := some 0 }
/-- MBX_RX.DATA (R758). -/
def MBX_RX_DATA : Field :=
  { id := 1038, addr := 0x40040140, lo := 0, width := 32, acc := .ro, reset := 0, classes := 255, count := 8, stride := 0x80, inner := 16, istride := 0x4, live := true }
/-- CLASP.OWNER (R758). -/
def CLASP_OWNER : Field :=
  { id := 1039, addr := 0x40040800, lo := 0, width := 3, acc := .rw, reset := 0, classes := 191, count := 32, stride := 0x4, hostLevel := some 0 }

/-- Every field of MBX. -/
def fieldsMBX : List Field :=
  [MBX_CFG_CROSS_US, MBX_STAT_FULL, MBX_STAT_CROSS, MBX_TX_CTL_DEST, MBX_TX_CTL_LEN, MBX_TX_CTL_GO, MBX_TX_CTL_STATUS, MBX_LOCK_LOCK] ++
  [MBX_CLASP_REL_HOST, MBX_TX_DATA, MBX_RX_HDR_SENDER, MBX_RX_HDR_LEN, MBX_RX_HDR_AGE, MBX_ACK_ACK, MBX_RX_DATA, CLASP_OWNER]

/-! EVT (15_host_interface_queues_mailboxes.md). -/
/-- EVT_PEND.PEND (R759). -/
def EVT_PEND_PEND : Field :=
  { id := 768, addr := 0x40030000, lo := 0, width := 32, acc := .w1c, reset := 0, classes := 191, count := 6, stride := 0x4, banked := true, live := true, hostLevel := some 0 }
/-- EVT_EN.EN (R759). -/
def EVT_EN_EN : Field :=
  { id := 769, addr := 0x40030020, lo := 0, width := 32, acc := .rw, reset := 0, classes := 191, count := 6, stride := 0x4, banked := true, hostLevel := some 0 }
/-- EVT_VEC_LO.V (R759). -/
def EVT_VEC_LO_V : Field :=
  { id := 770, addr := 0x40030040, lo := 0, width := 32, acc := .ro, reset := 0, classes := 255, live := true }
/-- EVT_VEC_HI.V (R759). -/
def EVT_VEC_HI_V : Field :=
  { id := 771, addr := 0x40030044, lo := 0, width := 18, acc := .ro, reset := 0, classes := 255, live := true }
/-- EVT_IRQ_CFG.POL (R759). -/
def EVT_IRQ_CFG_POL : Field :=
  { id := 772, addr := 0x40030048, lo := 0, width := 8, acc := .rw, reset := 0, classes := 191, hostLevel := some 2 }
/-- EVT_IRQ_MAP.PIN (R759). -/
def EVT_IRQ_MAP_PIN : Field :=
  { id := 773, addr := 0x40030100, lo := 0, width := 3, acc := .rw, reset := 0, classes := 191, count := 50, stride := 0x4, hostLevel := some 2 }
/-- EVT_IRQ_MAP.EN (R759). -/
def EVT_IRQ_MAP_EN : Field :=
  { id := 774, addr := 0x40030100, lo := 7, width := 1, acc := .rw, reset := 0, classes := 191, count := 50, stride := 0x4, hostLevel := some 2 }

/-- Every field of EVT. -/
def fieldsEVT : List Field :=
  [EVT_PEND_PEND, EVT_EN_EN, EVT_VEC_LO_V, EVT_VEC_HI_V, EVT_IRQ_CFG_POL, EVT_IRQ_MAP_PIN, EVT_IRQ_MAP_EN]

/-! TSU (16_pair_operation.md). -/
/-- TSU_CTRL.EN (R805). -/
def TSU_CTRL_EN : Field := { id := 6400, addr := 0x40190000, lo := 0, width := 1, acc := .rwl, reset := 0, classes := 191 }
/-- TSU_CTRL.PAIRED (R805). -/
def TSU_CTRL_PAIRED : Field := { id := 6401, addr := 0x40190000, lo := 1, width := 1, acc := .rwl, reset := 0, classes := 191 }
/-- TSU_PEER_DEV_LO.LO (R805). -/
def TSU_PEER_DEV_LO_LO : Field := { id := 6402, addr := 0x40190004, lo := 0, width := 32, acc := .rwl, reset := 0, classes := 191 }
/-- TSU_PEER_DEV_HI.HI (R805). -/
def TSU_PEER_DEV_HI_HI : Field := { id := 6403, addr := 0x40190008, lo := 0, width := 32, acc := .rwl, reset := 0, classes := 191 }
/-- TSU_CFG.PEER_RING (R805). -/
def TSU_CFG_PEER_RING : Field :=
  { id := 6404, addr := 0x4019000c, lo := 0, width := 6, acc := .rwl, reset := 0, classes := 191, vals := [(8, 63)] }
/-- TSU_LOCK.LOCK (R805). -/
def TSU_LOCK_LOCK : Field := { id := 6405, addr := 0x40190010, lo := 0, width := 1, acc := .w1s, reset := 0, classes := 191 }
/-- TSU_CTL.HANDOVER (R805). -/
def TSU_CTL_HANDOVER : Field :=
  { id := 6406, addr := 0x40190014, lo := 0, width := 1, acc := .sc, reset := 0, classes := 255, secOnly := true }
/-- TSU_CTL.RST_PARTNER (R805). -/
def TSU_CTL_RST_PARTNER : Field :=
  { id := 6407, addr := 0x40190014, lo := 1, width := 1, acc := .sc, reset := 0, classes := 255, secOnly := true }
/-- TSU_CTL.STATUS (R805). -/
def TSU_CTL_STATUS : Field :=
  { id := 6408, addr := 0x40190014, lo := 16, width := 8, acc := .ro, reset := 0, classes := 255, secOnly := true }
/-- TSU_STAT.ROLE (R805). -/
def TSU_STAT_ROLE : Field :=
  { id := 6409, addr := 0x40190018, lo := 0, width := 1, acc := .ro, reset := 0, classes := 255, live := true }
/-- TSU_STAT.ID (R805). -/
def TSU_STAT_ID : Field :=
  { id := 6410, addr := 0x40190018, lo := 1, width := 1, acc := .ro, reset := 0, classes := 255, live := true }
/-- TSU_STAT.LINK (R805). -/
def TSU_STAT_LINK : Field :=
  { id := 6411, addr := 0x40190018, lo := 2, width := 2, acc := .ro, reset := 0, classes := 255, live := true }
/-- TSU_STAT.DEGRADED (R805). -/
def TSU_STAT_DEGRADED : Field :=
  { id := 6412, addr := 0x40190018, lo := 4, width := 1, acc := .ro, reset := 0, classes := 255, live := true }
/-- TSU_STAT.ARB (R805). -/
def TSU_STAT_ARB : Field :=
  { id := 6413, addr := 0x40190018, lo := 5, width := 1, acc := .ro, reset := 0, classes := 255, live := true }
/-- TSU_STAT.HOLD (R805). -/
def TSU_STAT_HOLD : Field :=
  { id := 6414, addr := 0x40190018, lo := 6, width := 1, acc := .ro, reset := 0, classes := 255, live := true }
/-- TSU_STAT.RESYNC (R805). -/
def TSU_STAT_RESYNC : Field :=
  { id := 6415, addr := 0x40190018, lo := 7, width := 1, acc := .ro, reset := 0, classes := 255, live := true }
/-- TSU_STAT.STAGE (R805). -/
def TSU_STAT_STAGE : Field :=
  { id := 6416, addr := 0x40190018, lo := 8, width := 3, acc := .ro, reset := 0, classes := 255, live := true }
/-- TSU_STAT.REFUSE (R805). -/
def TSU_STAT_REFUSE : Field := { id := 6417, addr := 0x40190018, lo := 12, width := 4, acc := .ro, reset := 0, classes := 255 }
/-- TSU_HB.AGE (R805). -/
def TSU_HB_AGE : Field :=
  { id := 6418, addr := 0x4019001c, lo := 0, width := 16, acc := .ro, reset := 0, classes := 255, live := true }
/-- TSU_HB.LOST (R805). -/
def TSU_HB_LOST : Field := { id := 6419, addr := 0x4019001c, lo := 16, width := 16, acc := .ro, reset := 0, classes := 255 }
/-- TSU_MSEQ.NEXT (R805). -/
def TSU_MSEQ_NEXT : Field :=
  { id := 6420, addr := 0x40190020, lo := 0, width := 32, acc := .ro, reset := 0, classes := 255, live := true }
/-- TSU_MACK.DONE (R805). -/
def TSU_MACK_DONE : Field :=
  { id := 6421, addr := 0x40190024, lo := 0, width := 32, acc := .ro, reset := 0, classes := 255, live := true }
/-- TSU_SYNC.LF_OFS (R805). -/
def TSU_SYNC_LF_OFS : Field :=
  { id := 6422, addr := 0x40190028, lo := 0, width := 16, acc := .ro, reset := 0, classes := 255, live := true }
/-- TSU_SYNC.SKEW (R805). -/
def TSU_SYNC_SKEW : Field :=
  { id := 6423, addr := 0x40190028, lo := 16, width := 16, acc := .ro, reset := 0, classes := 255, live := true }
/-- TSU_TB_OFS_LO.LO (R805). -/
def TSU_TB_OFS_LO_LO : Field :=
  { id := 6424, addr := 0x4019002c, lo := 0, width := 32, acc := .ro, reset := 0, classes := 255, live := true }
/-- TSU_TB_OFS_HI.HI (R805). -/
def TSU_TB_OFS_HI_HI : Field :=
  { id := 6425, addr := 0x40190030, lo := 0, width := 16, acc := .ro, reset := 0, classes := 255, live := true }
/-- TSU_ERR.CRC (R805). -/
def TSU_ERR_CRC : Field := { id := 6426, addr := 0x40190034, lo := 0, width := 8, acc := .ro, reset := 0, classes := 255 }
/-- TSU_ERR.TAG (R805). -/
def TSU_ERR_TAG : Field := { id := 6427, addr := 0x40190034, lo := 8, width := 8, acc := .ro, reset := 0, classes := 255 }
/-- TSU_ERR.RETRY (R805). -/
def TSU_ERR_RETRY : Field := { id := 6428, addr := 0x40190034, lo := 16, width := 8, acc := .ro, reset := 0, classes := 255 }
/-- TSU_ERR.MB_LOST (R805). -/
def TSU_ERR_MB_LOST : Field := { id := 6429, addr := 0x40190034, lo := 24, width := 8, acc := .ro, reset := 0, classes := 255 }
/-- TSU_ERR_CLR.CLR (R805). -/
def TSU_ERR_CLR_CLR : Field := { id := 6430, addr := 0x40190038, lo := 0, width := 1, acc := .wo, reset := 0, classes := 0 }
/-- TSU_COUNT.TAKEOVERS (R805). -/
def TSU_COUNT_TAKEOVERS : Field := { id := 6431, addr := 0x4019003c, lo := 0, width := 16, acc := .ro, reset := 0, classes := 1 }
/-- TSU_COUNT.DEGRADED (R805). -/
def TSU_COUNT_DEGRADED : Field := { id := 6432, addr := 0x4019003c, lo := 16, width := 16, acc := .ro, reset := 0, classes := 1 }
/-- TSU_PEER_KEY.KEY (R805). -/
def TSU_PEER_KEY_KEY : Field :=
  { id := 6433, addr := 0x40190100, lo := 0, width := 32, acc := .rwl, reset := 0, classes := 191, count := 16, stride := 0x4 }

/-- Every field of TSU. -/
def fieldsTSU : List Field :=
  [TSU_CTRL_EN, TSU_CTRL_PAIRED, TSU_PEER_DEV_LO_LO, TSU_PEER_DEV_HI_HI, TSU_CFG_PEER_RING, TSU_LOCK_LOCK, TSU_CTL_HANDOVER, TSU_CTL_RST_PARTNER] ++
  [TSU_CTL_STATUS, TSU_STAT_ROLE, TSU_STAT_ID, TSU_STAT_LINK, TSU_STAT_DEGRADED, TSU_STAT_ARB, TSU_STAT_HOLD, TSU_STAT_RESYNC] ++
  [TSU_STAT_STAGE, TSU_STAT_REFUSE, TSU_HB_AGE, TSU_HB_LOST, TSU_MSEQ_NEXT, TSU_MACK_DONE, TSU_SYNC_LF_OFS, TSU_SYNC_SKEW] ++
  [TSU_TB_OFS_LO_LO, TSU_TB_OFS_HI_HI, TSU_ERR_CRC, TSU_ERR_TAG, TSU_ERR_RETRY, TSU_ERR_MB_LOST, TSU_ERR_CLR_CLR, TSU_COUNT_TAKEOVERS] ++
  [TSU_COUNT_DEGRADED, TSU_PEER_KEY_KEY]

/-! SYS (17_configuration_image_boot.md). -/
/-- SYS_ID.STEPPING (R838). -/
def SYS_ID_STEPPING : Field := { id := 0, addr := 0x40000000, lo := 0, width := 8, acc := .ro, reset := 67, classes := 0 }
/-- SYS_ID.PART (R838). -/
def SYS_ID_PART : Field := { id := 1, addr := 0x40000000, lo := 8, width := 16, acc := .ro, reset := 29248, classes := 0 }
/-- SYS_DEVNUM_LO.LO (R838). -/
def SYS_DEVNUM_LO_LO : Field :=
  { id := 2, addr := 0x40000004, lo := 0, width := 32, acc := .ro, reset := 0, classes := 255, live := true }
/-- SYS_DEVNUM_HI.HI (R838). -/
def SYS_DEVNUM_HI_HI : Field :=
  { id := 3, addr := 0x40000008, lo := 0, width := 32, acc := .ro, reset := 0, classes := 255, live := true }
/-- SYS_BOOT.CODE (R838). -/
def SYS_BOOT_CODE : Field :=
  { id := 4, addr := 0x4000000c, lo := 0, width := 3, acc := .ro, reset := 0, classes := 255, live := true }
/-- SYS_BOOT.SOURCE (R838). -/
def SYS_BOOT_SOURCE : Field := { id := 5, addr := 0x4000000c, lo := 4, width := 2, acc := .ro, reset := 0, classes := 191 }
/-- SYS_BOOT.FALLBACK (R838). -/
def SYS_BOOT_FALLBACK : Field := { id := 6, addr := 0x4000000c, lo := 6, width := 1, acc := .ro, reset := 0, classes := 191 }
/-- SYS_BOOT.RECOVERY (R838). -/
def SYS_BOOT_RECOVERY : Field := { id := 7, addr := 0x4000000c, lo := 7, width := 1, acc := .ro, reset := 0, classes := 191 }
/-- SYS_BOOT.WP (R838). -/
def SYS_BOOT_WP : Field := { id := 8, addr := 0x4000000c, lo := 8, width := 1, acc := .ro, reset := 0, classes := 191 }
/-- SYS_BOOT.FIRST (R838). -/
def SYS_BOOT_FIRST : Field := { id := 9, addr := 0x4000000c, lo := 9, width := 1, acc := .ro, reset := 0, classes := 191 }
/-- SYS_BOOT.KAT (R838). -/
def SYS_BOOT_KAT : Field := { id := 10, addr := 0x4000000c, lo := 12, width := 1, acc := .ro, reset := 0, classes := 191 }
/-- SYS_BOOT.RNG (R838). -/
def SYS_BOOT_RNG : Field := { id := 11, addr := 0x4000000c, lo := 13, width := 1, acc := .ro, reset := 0, classes := 191 }
/-- SYS_BOOT.NO_CRED (R838). -/
def SYS_BOOT_NO_CRED : Field := { id := 12, addr := 0x4000000c, lo := 14, width := 1, acc := .ro, reset := 0, classes := 191 }
/-- SYS_BOOT.NO_MAP (R838). -/
def SYS_BOOT_NO_MAP : Field := { id := 13, addr := 0x4000000c, lo := 15, width := 1, acc := .ro, reset := 0, classes := 191 }
/-- SYS_BOOT.READY (R838). -/
def SYS_BOOT_READY : Field := { id := 14, addr := 0x4000000c, lo := 16, width := 1, acc := .ro, reset := 0, classes := 191 }
/-- SYS_IMG_GEN.GEN (R838). -/
def SYS_IMG_GEN_GEN : Field :=
  { id := 15, addr := 0x40000010, lo := 0, width := 32, acc := .ro, reset := 0, classes := 255, live := true }
/-- SYS_FLOOR.FLOOR (R838). -/
def SYS_FLOOR_FLOOR : Field :=
  { id := 16, addr := 0x40000014, lo := 0, width := 32, acc := .ro, reset := 0, classes := 255, live := true }
/-- SYS_FW_READY.READY (R838). -/
def SYS_FW_READY_READY : Field :=
  { id := 17, addr := 0x40000018, lo := 0, width := 1, acc := .w1s, reset := 0, classes := 191, secOnly := true }
/-- SYS_RECOV.LENGTH (R838). -/
def SYS_RECOV_LENGTH : Field :=
  { id := 18, addr := 0x40000020, lo := 0, width := 21, acc := .rw, reset := 0, classes := 191, hostLevel := some 0 }
/-- SYS_RECOV.GO (R838). -/
def SYS_RECOV_GO : Field :=
  { id := 19, addr := 0x40000020, lo := 24, width := 1, acc := .sc, reset := 0, classes := 191, hostLevel := some 0 }
/-- SYS_RECOV_STAT.STATUS (R838). -/
def SYS_RECOV_STAT_STATUS : Field := { id := 20, addr := 0x40000024, lo := 0, width := 8, acc := .ro, reset := 0, classes := 191 }
/-- SYS_RECOV_STAT.CAUSE (R838). -/
def SYS_RECOV_STAT_CAUSE : Field := { id := 21, addr := 0x40000024, lo := 8, width := 8, acc := .ro, reset := 0, classes := 191 }
/-- SYS_RECOV_STAT.BANK (R838). -/
def SYS_RECOV_STAT_BANK : Field := { id := 22, addr := 0x40000024, lo := 16, width := 1, acc := .ro, reset := 0, classes := 191 }
/-- SYS_BUSFAULT_ADDR.ADDR (R838). -/
def SYS_BUSFAULT_ADDR_ADDR : Field := { id := 23, addr := 0x40000030, lo := 0, width := 32, acc := .ro, reset := 0, classes := 191 }
/-- SYS_BUSFAULT_INFO.MASTER (R838). -/
def SYS_BUSFAULT_INFO_MASTER : Field := { id := 24, addr := 0x40000034, lo := 0, width := 3, acc := .ro, reset := 0, classes := 191 }
/-- SYS_BUSFAULT_INFO.KIND (R838). -/
def SYS_BUSFAULT_INFO_KIND : Field := { id := 25, addr := 0x40000034, lo := 4, width := 2, acc := .ro, reset := 0, classes := 191 }
/-- SYS_BUSFAULT_INFO.WRITE (R838). -/
def SYS_BUSFAULT_INFO_WRITE : Field := { id := 26, addr := 0x40000034, lo := 6, width := 1, acc := .ro, reset := 0, classes := 191 }
/-- SYS_BUSFAULT_INFO.OVERRUN (R838). -/
def SYS_BUSFAULT_INFO_OVERRUN : Field := { id := 27, addr := 0x40000034, lo := 7, width := 1, acc := .ro, reset := 0, classes := 191 }
/-- SYS_BUSFAULT_INFO.COUNT (R838). -/
def SYS_BUSFAULT_INFO_COUNT : Field := { id := 28, addr := 0x40000034, lo := 16, width := 16, acc := .ro, reset := 0, classes := 191 }
/-- SYS_BUSFAULT_CLR.CLR (R838). -/
def SYS_BUSFAULT_CLR_CLR : Field := { id := 29, addr := 0x40000038, lo := 0, width := 1, acc := .wo, reset := 0, classes := 0 }
/-- SYS_AUTH.OPEN (R838). -/
def SYS_AUTH_OPEN : Field :=
  { id := 30, addr := 0x40000040, lo := 0, width := 1, acc := .ro, reset := 0, classes := 255, live := true }
/-- SYS_AUTH_CTR.CTR (R838). -/
def SYS_AUTH_CTR_CTR : Field :=
  { id := 31, addr := 0x40000044, lo := 0, width := 32, acc := .ro, reset := 0, classes := 255, live := true }

/-- Every field of SYS. -/
def fieldsSYS : List Field :=
  [SYS_ID_STEPPING, SYS_ID_PART, SYS_DEVNUM_LO_LO, SYS_DEVNUM_HI_HI, SYS_BOOT_CODE, SYS_BOOT_SOURCE, SYS_BOOT_FALLBACK, SYS_BOOT_RECOVERY] ++
  [SYS_BOOT_WP, SYS_BOOT_FIRST, SYS_BOOT_KAT, SYS_BOOT_RNG, SYS_BOOT_NO_CRED, SYS_BOOT_NO_MAP, SYS_BOOT_READY, SYS_IMG_GEN_GEN] ++
  [SYS_FLOOR_FLOOR, SYS_FW_READY_READY, SYS_RECOV_LENGTH, SYS_RECOV_GO, SYS_RECOV_STAT_STATUS, SYS_RECOV_STAT_CAUSE, SYS_RECOV_STAT_BANK, SYS_BUSFAULT_ADDR_ADDR] ++
  [SYS_BUSFAULT_INFO_MASTER, SYS_BUSFAULT_INFO_KIND, SYS_BUSFAULT_INFO_WRITE, SYS_BUSFAULT_INFO_OVERRUN, SYS_BUSFAULT_INFO_COUNT, SYS_BUSFAULT_CLR_CLR, SYS_AUTH_OPEN, SYS_AUTH_CTR_CTR]

/-! CFG (17_configuration_image_boot.md). -/
/-- CFG_NOR.CLK_DIV (R839). -/
def CFG_NOR_CLK_DIV : Field := { id := 6656, addr := 0x401a0000, lo := 0, width := 4, acc := .rwl, reset := 0, classes := 191 }
/-- CFG_LOCK.LOCK (R839). -/
def CFG_LOCK_LOCK : Field := { id := 6657, addr := 0x401a0004, lo := 0, width := 1, acc := .w1s, reset := 0, classes := 191 }
/-- CFG_STAT.BUSY (R839). -/
def CFG_STAT_BUSY : Field :=
  { id := 6658, addr := 0x401a0008, lo := 0, width := 1, acc := .ro, reset := 0, classes := 255, live := true }
/-- CFG_STAT.JOB (R839). -/
def CFG_STAT_JOB : Field :=
  { id := 6659, addr := 0x401a0008, lo := 1, width := 3, acc := .ro, reset := 0, classes := 255, live := true }
/-- CFG_STAT.WP_DRIVE (R839). -/
def CFG_STAT_WP_DRIVE : Field :=
  { id := 6660, addr := 0x401a0008, lo := 4, width := 1, acc := .ro, reset := 0, classes := 255, live := true }
/-- CFG_STAT.SET_COPY (R839). -/
def CFG_STAT_SET_COPY : Field :=
  { id := 6661, addr := 0x401a0008, lo := 5, width := 1, acc := .ro, reset := 0, classes := 255, live := true }
/-- CFG_BANK_GEN_A.GEN (R839). -/
def CFG_BANK_GEN_A_GEN : Field :=
  { id := 6662, addr := 0x401a000c, lo := 0, width := 32, acc := .ro, reset := 0, classes := 255, live := true }
/-- CFG_BANK_GEN_B.GEN (R839). -/
def CFG_BANK_GEN_B_GEN : Field :=
  { id := 6663, addr := 0x401a0010, lo := 0, width := 32, acc := .ro, reset := 0, classes := 255, live := true }
/-- CFG_BANK_STAT.CAUSE_A (R839). -/
def CFG_BANK_STAT_CAUSE_A : Field :=
  { id := 6664, addr := 0x401a0014, lo := 0, width := 4, acc := .ro, reset := 0, classes := 255, live := true }
/-- CFG_BANK_STAT.CAUSE_B (R839). -/
def CFG_BANK_STAT_CAUSE_B : Field :=
  { id := 6665, addr := 0x401a0014, lo := 4, width := 4, acc := .ro, reset := 0, classes := 255, live := true }
/-- CFG_BANK_STAT.RUNNING (R839). -/
def CFG_BANK_STAT_RUNNING : Field :=
  { id := 6666, addr := 0x401a0014, lo := 8, width := 1, acc := .ro, reset := 0, classes := 255, live := true }
/-- CFG_UPD_ADDR.ADDR (R839). -/
def CFG_UPD_ADDR_ADDR : Field :=
  { id := 6667, addr := 0x401a0020, lo := 0, width := 32, acc := .rw, reset := 0, classes := 255, secOnly := true }
/-- CFG_UPD_LEN.LEN (R839). -/
def CFG_UPD_LEN_LEN : Field :=
  { id := 6668, addr := 0x401a0024, lo := 0, width := 22, acc := .rw, reset := 0, classes := 255, vals := [(0, 2097152)], secOnly := true }
/-- CFG_UPD_CTL.STAGE (R839). -/
def CFG_UPD_CTL_STAGE : Field :=
  { id := 6669, addr := 0x401a0028, lo := 0, width := 1, acc := .sc, reset := 0, classes := 255, secOnly := true }
/-- CFG_UPD_CTL.LIVE (R839). -/
def CFG_UPD_CTL_LIVE : Field :=
  { id := 6670, addr := 0x401a0028, lo := 1, width := 1, acc := .sc, reset := 0, classes := 255, secOnly := true }
/-- CFG_UPD_CTL.STATUS (R839). -/
def CFG_UPD_CTL_STATUS : Field :=
  { id := 6671, addr := 0x401a0028, lo := 16, width := 8, acc := .ro, reset := 0, classes := 255, secOnly := true }
/-- CFG_UPD_CTL.CAUSE (R839). -/
def CFG_UPD_CTL_CAUSE : Field :=
  { id := 6672, addr := 0x401a0028, lo := 24, width := 8, acc := .ro, reset := 0, classes := 255, secOnly := true }
/-- CFG_ERR.READBACK (R839). -/
def CFG_ERR_READBACK : Field := { id := 6673, addr := 0x401a002c, lo := 0, width := 8, acc := .ro, reset := 0, classes := 255 }
/-- CFG_ERR.ERASE (R839). -/
def CFG_ERR_ERASE : Field := { id := 6674, addr := 0x401a002c, lo := 8, width := 8, acc := .ro, reset := 0, classes := 255 }
/-- CFG_ERR.PROGRAM (R839). -/
def CFG_ERR_PROGRAM : Field := { id := 6675, addr := 0x401a002c, lo := 16, width := 8, acc := .ro, reset := 0, classes := 255 }
/-- CFG_ERR_CLR.CLR (R839). -/
def CFG_ERR_CLR_CLR : Field := { id := 6676, addr := 0x401a0030, lo := 0, width := 1, acc := .wo, reset := 0, classes := 0 }

/-- Every field of CFG. -/
def fieldsCFG : List Field :=
  [CFG_NOR_CLK_DIV, CFG_LOCK_LOCK, CFG_STAT_BUSY, CFG_STAT_JOB, CFG_STAT_WP_DRIVE, CFG_STAT_SET_COPY, CFG_BANK_GEN_A_GEN, CFG_BANK_GEN_B_GEN] ++
  [CFG_BANK_STAT_CAUSE_A, CFG_BANK_STAT_CAUSE_B, CFG_BANK_STAT_RUNNING, CFG_UPD_ADDR_ADDR, CFG_UPD_LEN_LEN, CFG_UPD_CTL_STAGE, CFG_UPD_CTL_LIVE, CFG_UPD_CTL_STATUS] ++
  [CFG_UPD_CTL_CAUSE, CFG_ERR_READBACK, CFG_ERR_ERASE, CFG_ERR_PROGRAM, CFG_ERR_CLR_CLR]

/-! TMP (18_faults_tamper_containment.md). -/
/-- TMP_CTRL.EN (R865). -/
def TMP_CTRL_EN : Field :=
  { id := 6912, addr := 0x401b0000, lo := 0, width := 6, acc := .rwl, reset := 0, classes := 1, prot := true }
/-- TMP_RESP.LOCK (R865). -/
def TMP_RESP_LOCK : Field :=
  { id := 6913, addr := 0x401b0004, lo := 1, width := 1, acc := .rwl, reset := 0, classes := 1, count := 6, stride := 0x4, prot := true }
/-- TMP_RESP.ZERO (R865). -/
def TMP_RESP_ZERO : Field :=
  { id := 6914, addr := 0x401b0004, lo := 2, width := 1, acc := .rwl, reset := 0, classes := 1, count := 6, stride := 0x4, prot := true }
/-- TMP_RESP.RST (R865). -/
def TMP_RESP_RST : Field :=
  { id := 6915, addr := 0x401b0004, lo := 3, width := 1, acc := .rwl, reset := 0, classes := 1, count := 6, stride := 0x4, prot := true }
/-- TMP_LATCH.LATCH (R865). -/
def TMP_LATCH_LATCH : Field :=
  { id := 6916, addr := 0x401b0020, lo := 0, width := 6, acc := .w1c, reset := 0, classes := 1, windowOnly := true }
/-- TMP_STAT.LOCKED (R865). -/
def TMP_STAT_LOCKED : Field :=
  { id := 6917, addr := 0x401b0024, lo := 0, width := 1, acc := .ro, reset := 0, classes := 255, live := true }
/-- TMP_STAT.REPEATS (R865). -/
def TMP_STAT_REPEATS : Field := { id := 6918, addr := 0x401b0024, lo := 8, width := 8, acc := .ro, reset := 0, classes := 1 }
/-- TMP_STAT.MESH_ERR (R865). -/
def TMP_STAT_MESH_ERR : Field := { id := 6919, addr := 0x401b0024, lo := 16, width := 8, acc := .ro, reset := 0, classes := 1 }
/-- TMP_CLR.LOCK (R865). -/
def TMP_CLR_LOCK : Field :=
  { id := 6920, addr := 0x401b0028, lo := 0, width := 1, acc := .wo, reset := 0, classes := 0, windowOnly := true }
/-- TMP_LOCK.LOCK (R865). -/
def TMP_LOCK_LOCK : Field := { id := 6921, addr := 0x401b002c, lo := 0, width := 1, acc := .w1s, reset := 0, classes := 1 }
/-- TMP_WDG_CFG.TIMEOUT (R865). -/
def TMP_WDG_CFG_TIMEOUT : Field :=
  { id := 6922, addr := 0x401b0040, lo := 0, width := 11, acc := .rwl, reset := 500, classes := 191, vals := [(10, 2000)], count := 2, stride := 0x8 }
/-- TMP_WDG_CFG.EN (R865). -/
def TMP_WDG_CFG_EN : Field :=
  { id := 6923, addr := 0x401b0040, lo := 16, width := 1, acc := .rwl, reset := 0, classes := 191, count := 2, stride := 0x8 }
/-- TMP_WDG_KICK.KEY (R865). -/
def TMP_WDG_KICK_KEY : Field :=
  { id := 6924, addr := 0x401b0044, lo := 0, width := 8, acc := .wo, reset := 0, classes := 0, count := 2, stride := 0x8 }
/-- TMP_WDG_STAT.REMAIN_0 (R865). -/
def TMP_WDG_STAT_REMAIN_0 : Field :=
  { id := 6925, addr := 0x401b0050, lo := 0, width := 11, acc := .ro, reset := 0, classes := 255, live := true }
/-- TMP_WDG_STAT.REMAIN_1 (R865). -/
def TMP_WDG_STAT_REMAIN_1 : Field :=
  { id := 6926, addr := 0x401b0050, lo := 16, width := 11, acc := .ro, reset := 0, classes := 255, live := true }
/-- TMP_FAULT_LAST.KIND (R865). -/
def TMP_FAULT_LAST_KIND : Field := { id := 6927, addr := 0x401b0054, lo := 0, width := 4, acc := .ro, reset := 0, classes := 1 }
/-- TMP_FAULT_LAST.BLOCK (R865). -/
def TMP_FAULT_LAST_BLOCK : Field := { id := 6928, addr := 0x401b0054, lo := 8, width := 5, acc := .ro, reset := 0, classes := 1 }
/-- TMP_BLK_RST.BLOCK (R865). -/
def TMP_BLK_RST_BLOCK : Field :=
  { id := 6929, addr := 0x401b0058, lo := 0, width := 5, acc := .wo, reset := 0, classes := 0, secOnly := true }
/-- TMP_BLK_RST.KEY (R865). -/
def TMP_BLK_RST_KEY : Field :=
  { id := 6930, addr := 0x401b0058, lo := 8, width := 8, acc := .wo, reset := 0, classes := 0, secOnly := true }
/-- TMP_FENCE.DISCARDED (R865). -/
def TMP_FENCE_DISCARDED : Field := { id := 6931, addr := 0x401b005c, lo := 0, width := 16, acc := .ro, reset := 0, classes := 191 }
/-- TMP_FENCE.ABORTED (R865). -/
def TMP_FENCE_ABORTED : Field := { id := 6932, addr := 0x401b005c, lo := 16, width := 16, acc := .ro, reset := 0, classes := 191 }

/-- Every field of TMP. -/
def fieldsTMP : List Field :=
  [TMP_CTRL_EN, TMP_RESP_LOCK, TMP_RESP_ZERO, TMP_RESP_RST, TMP_LATCH_LATCH, TMP_STAT_LOCKED, TMP_STAT_REPEATS, TMP_STAT_MESH_ERR] ++
  [TMP_CLR_LOCK, TMP_LOCK_LOCK, TMP_WDG_CFG_TIMEOUT, TMP_WDG_CFG_EN, TMP_WDG_KICK_KEY, TMP_WDG_STAT_REMAIN_0, TMP_WDG_STAT_REMAIN_1, TMP_FAULT_LAST_KIND] ++
  [TMP_FAULT_LAST_BLOCK, TMP_BLK_RST_BLOCK, TMP_BLK_RST_KEY, TMP_FENCE_DISCARDED, TMP_FENCE_ABORTED]

/-- Every register field of the device, in the order of the blocks' tables. -/
def all : List Field :=
  fieldsPWR ++ fieldsCLK ++ fieldsLFA ++ fieldsTCH ++ fieldsGLT ++ fieldsUHF ++ fieldsUWB ++ fieldsLOC ++ fieldsVRD ++ fieldsGOV ++ fieldsCAN ++ fieldsCRD ++ fieldsKEY ++ fieldsAEA ++ fieldsPKE ++ fieldsHSH ++ fieldsRNG ++ fieldsLKT ++ fieldsJNL ++ fieldsHFT ++ fieldsHIF ++ fieldsQUE ++ fieldsMBX ++ fieldsEVT ++ fieldsTSU ++ fieldsSYS ++ fieldsCFG ++ fieldsTMP

end Sys2Proof.Machine.Reg
end

