-- ==== Sys2Proof/Machine/State.lean ====
section
/-! DEFINITION. The machine's state as plain data: every register field (one store), the memories, and for each block the
state the spec gives it besides its registers. State.reset is the machine right after a class A reset with nothing
powered yet done: every register at its reset value, every memory empty. -/
namespace Sys2Proof.Machine

/-- Why a step stops with a fault. The manual gives every command an outcome in the block's own state, and none of them stops it, so no meaning answers a fault
(Obligations.StepAlwaysAnswers says so). -/
inductive Fault where
  /-- Raised by no command: the one inhabitant of a type that the interface asks for. Safe. -/
  | never
  deriving DecidableEq, Repr

/-- Why a step is refused. -/
inductive Refusal where
  /-- A command without a meaning; raised by no arm of `exec`, for every command has one. Safe. -/
  | notModelled (mnemonic : String)
  deriving DecidableEq, Repr

/-! ## Events, queues (chapter 15) -/

/-- The pending bits of the 192 events, one set for each of masters 1, 2 and 3 (R750). -/
structure Evt where
  sec : BitVec 192 := 0
  app : BitVec 192 := 0
  host : BitVec 192 := 0
  deriving DecidableEq, Repr

/-- A 64-byte queue entry: the header of Table 15-5 and the payload of 48 bytes (R715). -/
structure Entry where
  seq : Nat := 0
  master : Nat := 0
  block : Nat := 0
  code : Nat := 0
  flags : Nat := 0
  status : Nat := 0
  cause : Nat := 0
  tag : Nat := 0
  payload : List Byte := []
  deriving DecidableEq, Repr

/-- A command taken from its ring and not yet completed (R719 to R721): its ring, its entry, the privilege level that its
issuer held when it was taken (R720), when it was taken, whether its target has started it, how long it waited for that (µs), when it
reached the head of its ring and how long it was suspended (R547); the credential of the host's DRIVER grant when it was taken (R452). -/
structure Running where
  ring : Nat
  entry : Entry
  level : Nat
  takenAt : Nat
  started : Bool := false
  waited : Nat := 0
  headAt : Nat := 0
  suspended : Nat := 0
  driver : Option Nat := none
  deriving DecidableEq, Repr

/-- The rings Q_0 to Q_47 (a ring not listed is empty), the commands taken, and the sequence counters of the internal
rings, which are no registers (R714, R717). -/
structure Que where
  rings : List (Nat × List Entry) := []
  running : List Running := []
  intSeq : List (Nat × Nat) := []
  /-- When the head of a ring became its head. -/
  headAt : List (Nat × Nat) := []
  /-- The last ring taken from, by service class (R728). -/
  lastTaken : List (Nat × Nat) := []
  deriving DecidableEq, Repr

/-! ## Mailboxes (chapter 15) -/

/-- A message held in a mailbox: its sender, its words and when it was placed (R736, R737). -/
structure Message where
  sender : Nat
  words : List Nat
  placedAt : Nat
  deriving DecidableEq, Repr

/-- The eight mailboxes, one slot each, and the crossing bits that stand (R742). -/
structure Mbx where
  boxes : List (Option Message) := List.replicate 8 none
  cross : BitVec 4 := 0
  deriving DecidableEq, Repr

/-! ## Host interface (chapter 15) -/

/-- A REG_WRITE frame that waits for one of its accesses: the address of the next word and the words still to write, when the frame came, whether the host has ended it before its status, and
whether the access at hand is stalled by the field (R687) or waits for the Locket (R572, R573). -/
structure HifWait where
  addr : Nat
  words : List Nat
  since : Nat
  abandoned : Bool
  stalled : Bool
  deriving DecidableEq, Repr

/-- The SPI target: what the last frame returned (the model's view of HSPI_IO), a QUAD value waiting for the next frame
(R702), the EEPROM write in progress (WIP, R712) and the frame that waits. -/
structure Hif where
  out : List Byte := []
  highZ : Bool := true
  wip : Bool := false
  /-- REG_WRITE frames whose status is not known yet, oldest first (R38, R706). -/
  waits : List HifWait := []
  deriving DecidableEq, Repr

/-! ## Journal (chapter 13) -/

/-- A record as a producer enters it in Q_46 or Q_7 (R617, R620): type, the MASTER and BLOCK of SOURCE, the payload. `cmd` is the
CMD_SEQ of the Q_7 APPEND that waits for it, `held`: it has waited for space (R635, R636). -/
structure NewRec where
  typ : Nat
  master : Nat
  block : Nat
  payload : List Byte
  cmd : Option Nat := none
  held : Bool := false
  deriving DecidableEq, Repr

/-- A record with its SEQ, TIME, SOURCE, CHAIN (Table 13-3) and the slot that holds it. PARITY is computed from the rest (R613). `at_`: when it was assigned; `held`: it had
waited for space (R635, R636). -/
structure JRec where
  seq : Nat
  time : Nat
  typ : Nat
  source : Nat
  payload : List Byte
  chain : List Byte
  slot : Nat
  cmd : Option Nat := none
  bad : Bool := false
  at_ : Nat := 0
  held : Bool := false
  deriving DecidableEq, Repr

/-- A SEAL_HEAD that no SEAL_SIG has signed (R629 to R631). -/
structure SealHead where
  seq : Nat
  chain : List Byte
  deriving DecidableEq, Repr

/-- A remembered EXPORT batch (R645). -/
structure Batch where
  first : Nat
  count : Nat
  tag : List Byte
  deriving DecidableEq, Repr

/-- A command that completes when a record that it caused is accepted. -/
structure RecWait where
  ring : Nat
  cmd : Nat
  typ : Nat
  seq : Option Nat
  data : List Byte
  deriving DecidableEq, Repr

/-- The NAND reads of an export (R644, R647). -/
structure Reading where
  cmd : Nat
  driver : Bool
  first : Nat
  recs : List JRec
  next : Nat
  /-- AEA seals the batch. -/
  sealing : Bool := false
  deriving DecidableEq, Repr

/-- The journal controller and its NAND. -/
structure Jnl where
  mounted : Bool := false
  foreign_ : Bool := false
  noNand : Bool := false
  /-- Hardware records waiting in Q_46, oldest first (at most 256). -/
  q46 : List NewRec := []
  /-- The SEQ counter of Q_46 (R717). -/
  q46Seq : Nat := 0
  /-- Q_7 appends taken and waiting, oldest first. -/
  q7 : List NewRec := []
  /-- Records assigned and not yet handed to a program, oldest first. -/
  open_ : List JRec := []
  /-- Records of the program that runs. -/
  prog : List JRec := []
  /-- Accepted records on the NAND, oldest first. -/
  nand : List JRec := []
  /-- The next slot number, voids counted. -/
  slotNext : Nat := 0
  /-- Next SEQ, kept in the AON domain (R626). -/
  next : Nat := 0
  ackNext : Nat := 0
  journalId : List Byte := List.replicate 8 0
  /-- Chain value of the last record assigned. -/
  chain : List Byte := List.replicate 32 0
  heads : List SealHead := []
  /-- The SEAL_HEAD whose message PKE holds (R629). -/
  signing : Option SealHead := none
  /-- A signature that PKE delivered and that waits for its SEAL_SIG. -/
  sigReady : List (List Byte) := []
  /-- SEAL commands waiting for a SEAL_HEAD; the SEQ of one that runs. -/
  sealReq : List Nat := []
  lastSealAt : Option Nat := none
  lastSealSeq : Nat := 0
  prevHead : Nat := 0xFFFFFFFFFFFF
  batches : List Batch := []
  /-- Number and first and last time of the records lost since the last LOST record (R636). -/
  lostFirst : Nat := 0
  lostLast : Nat := 0
  fullTold : Bool := false
  /-- Blocks retired or bad at delivery. -/
  badBlocks : Nat := 0
  lastTime : Nat := 0
  /-- FLUSH commands that wait: CMD_SEQ and the SEQ below which all must be accepted. -/
  flushes : List (Nat × Nat) := []
  /-- Q_8 EXPORT_ACK and Q_0 TIME_SET commands that wait for their record: ring, CMD_SEQ, the record's SEQ once assigned, the
  completion data. -/
  recWaits : List RecWait := []
  /-- The program has passed on this device; the mirror item that acceptance still waits for (Table 16-5). -/
  progOk : Bool := false
  progMseq : Option Nat := none
  progLone : Bool := false
  /-- An EXPORT or DRIVER_READ whose NAND reads run. -/
  reading : Option Reading := none
  /-- Density that the NAND's parameter page gives, Gbit; 0: no NAND answers (R609). -/
  nandGbit : Nat := 0
  /-- A format by the authority that waits for its JOURNAL_ID (R538, R642). -/
  formatWaits : Bool := false
  deriving DecidableEq, Repr

/-! ## Locket (chapter 12) -/

/-- Who makes a Locket write, so that its writer proceeds when the Locket settles it (R571). -/
inductive Writer where
  | bus (master : Nat)
  | eeprom
  | q6 (seq : Nat)
  | ringCtl
  | grantCounter
  | telegram
  | selector
  | vaultSelector
  | anchor
  | overlay
  | regionTable
  | tagKey
  | tamperPage
  | zeroMark
  | field
  | mirror (mseq : Nat)
  | invoc
  deriving DecidableEq, Repr

/-- What a Locket write writes: whole groups (address of the group and its 64-bit value), or a ring's new value. -/
inductive LktItem where
  | group (g : Nat) (d : Nat)
  | ring (r : Nat) (v : Nat)
  deriving DecidableEq, Repr

/-- How far a Locket write is settled. -/
inductive Settled where
  | waiting
  | accepted
  | degraded
  | refused (cause : Nat)
  deriving DecidableEq, Repr

/-- A write handed to the Locket and not yet taken note of by its writer. `placed`: the shadow holds it and the backlog has its
entries. `mseq`: the mirror item that its acceptance waits for. `lone`: that item was refused or given up (R784, R786). `undo`: what a selector write that is placed has replaced, as a
reset before its acceptance leaves the earlier selector in force (R472, R490). -/
structure LktWrite where
  writer : Writer
  items : List LktItem
  placed : Bool
  at_ : Nat
  mseq : Option Nat := none
  lone : Bool := false
  state : Settled := .waiting
  undo : List LktItem := []
  deriving DecidableEq, Repr

/-- A backlog entry (R570, R596, R868): a group, a page batch, a ring, or the INDEX record that closes a flush. -/
inductive Backlog where
  | group (g : Nat)
  | page (p : Nat)
  | ring (r : Nat)
  | index (cmd : Nat)
  deriving DecidableEq, Repr

/-- A stream record (Table 12-6). `valid`: RCHK matches (R580). -/
structure StreamRec where
  index : Nat
  kind : Nat
  last : Bool
  seq : Nat
  data : Nat
  ecc : Nat
  valid : Bool
  deriving DecidableEq, Repr

/-- A stream sector: its erase count and its programmed slots after the HEADER, oldest first (R582). -/
structure Sector where
  erases : Nat := 0
  slots : List StreamRec := []
  retired : Bool := false
  deriving DecidableEq, Repr

/-- A stream: its sectors in programming order (oldest first), the reserve not among them (R583). -/
structure Stream where
  sectors : List Sector := [{}]
  reserve : Sector := {}
  spare : List Sector := []
  deriving DecidableEq, Repr

/-- A ring slot (Table 12-8) with its place in the ring. -/
structure RingSlot where
  pos : Nat
  value : Nat
  check : Nat
  num : Nat
  valid : Bool
  deriving DecidableEq, Repr

/-- A ring: depth in pages of 128 slots, base page, the slots of both zones newest first, the head and completed passes, the newest value
accepted (R590 to R596). -/
structure Ring where
  num : Nat
  base : Nat
  pages : Nat
  head : Nat := 0
  passes : Nat := 0
  a : List RingSlot := []
  b : List RingSlot := []
  newest : Nat := 0
  worn : Bool := false
  damaged : Bool := false
  deriving DecidableEq, Repr

/-- A region grant: master, region, write or read, and when it was given (R564, R565). -/
structure Grant where
  master : Nat
  region : Nat
  write : Bool
  since : Nat
  deriving DecidableEq, Repr

/-- The Locket: shadow state besides its bytes, backlog, flash, rings, grants. -/
structure Lkt where
  mounted : Bool := false
  kept : Bool := false
  shadowValid : Bool := false
  damaged : List Nat := []
  backlog : List Backlog := []
  /-- Records of the oldest entry already programmed and verified, and the values it commits, captured when it began. -/
  done : Nat := 0
  current : List (Nat × Nat) := []
  writes : List LktWrite := []
  mainA : Stream := {}
  mainB : Stream := {}
  fieldA : Stream := {}
  fieldB : Stream := {}
  nextSeq : Nat := 1
  lastSeq : Nat := 0
  repairs : List Nat := []
  repairCount : Nat := 0
  ties : Nat := 0
  worn : Bool := false
  ringDiff : Bool := false
  rings : List Ring := []
  grants : List Grant := []
  /-- Failed unlocks: master and time (R566). -/
  unlockFails : List (Nat × Nat) := []
  /-- Masters whose unlocks fail, and since when. -/
  refusing : List (Nat × Nat) := []
  /-- Password bytes that each master has written (LKT_PW_w). -/
  pw : List (Nat × List Byte) := []
  ringSetLo : Nat := 0
  ringSetHi : Nat := 0
  /-- Flushes whose INDEX record is committed and that wait for mirror acknowledgements (R785). -/
  flushed : List Nat := []
  /-- A mirrored write since the last flush was accepted on one device only (R785). -/
  flushLone : Bool := false
  deriving DecidableEq, Repr

/-! ## Privilege, credentials, key slots (chapter 10) -/

/-- A live elevation challenge (R455). -/
structure Challenge where
  bytes : List Byte
  at_ : Nat
  deriving DecidableEq, Repr

/-- The privilege ladder's state for the host (R449 to R458). -/
structure Priv where
  /-- MAKER (3) or OPERATOR (2), and when the holding time began. -/
  elevated : Option (Nat × Nat) := none
  /-- The credential of a DRIVER grant, and when it began. -/
  driver : Option (Nat × Nat) := none
  challenge : Option Challenge := none
  /-- Times of failed PRIV_PROVE commands, newest first; since when PRIV_PROVE is locked out. -/
  fails : List Nat := []
  lockedAt : Option Nat := none
  /-- Accepted Gelet proofs of the last 60 s: session, handle, credential, time (R458). -/
  proofs : List (Nat × Nat × Nat × Nat) := []
  deriving DecidableEq, Repr

/-- One write record of an authority command (Table 10-2). -/
structure AuthWrite where
  addr : Nat
  mask : Nat
  value : Nat
  deriving DecidableEq, Repr

/-- Where an authority command came from. -/
inductive AuthSource where
  | queue (seq : Nat)
  | hf
  deriving DecidableEq, Repr

/-- How far an authority command has come: waiting for the Locket to accept the raised counter, or making its writes. -/
inductive AuthPhase where
  | counter
  | writes
  deriving DecidableEq, Repr

/-- The authority command in progress, and with it the authority window (R30, R31, R460, R461). `left`: named writes not yet
admitted. `waiting`: an admitted write that takes effect when the Locket accepts the matching write. -/
structure Auth where
  source : AuthSource
  ver : Nat
  ctr : Nat
  n : Nat
  left : List AuthWrite
  waiting : Option AuthWrite := none
  applied : Nat := 0
  newAuthority : List Byte := []
  newMaker : List Byte := []
  openedAt : Nat
  phase : AuthPhase := .counter
  deriving DecidableEq, Repr

/-- The states of a key slot (Table 10-8). -/
inductive SlotState where
  | empty | active | draining | spent
  deriving DecidableEq, Repr

/-- A key load that waits for a DRAINING slot (R499). -/
structure PendingLoad where
  cmd : Nat
  key : List Byte
  attrs : Nat
  ctr : Nat
  deriving DecidableEq, Repr

/-- A key slot: its key (for P-256 the scalar, big-endian), the attribute bits [25:4] of KEY_SLOT_INFO as there placed (by default LIMIT_EXP is 28, R483), use count,
last accepted ceiling, last load counter accepted, if there has been one (R498). -/
structure Slot where
  state : SlotState := .empty
  key : List Byte := []
  attrs : Nat := 28 * 2 ^ 20
  count : Nat := 0
  ceiling : Nat := 0
  near : Bool := false
  loadCtr : Option Nat := none
  load : Option PendingLoad := none
  deriving DecidableEq, Repr

/-- A durable change of the slot store in progress (R490): the generation, bank and hash that CFG writes; the slots zeroized since the bank was read back; the slots that change, as they
were before; the KEY_LOAD that waits for it. `selecting`: the bank has been read back, and its selector waits for the Locket; a change made meanwhile is `next`. -/
structure VaultJob where
  gen : Nat
  bank : Nat
  hash : List Byte
  zero : List Nat := []
  undo : List (Nat × Slot) := []
  cmd : Option Nat := none
  selecting : Bool := false
  next : Option (List (Nat × Slot)) := none
  deriving DecidableEq, Repr

/-- KEY: the slot store (a slot not listed is EMPTY), the key fuses, 64-bit words with their check bytes (R486, R555), the KEK generation, the invocation counter, the marks of
zeroizes that the AON domain holds (R491). -/
structure Key where
  slots : List (Nat × Slot) := []
  fuses : List (Nat × Nat) := List.replicate 12 (0, 0)
  certificate : List Byte := []
  kekGen : Nat := 0
  vaultLost : Bool := false
  vaultGen : Nat := 0
  invocNext : Nat := 0
  invocTop : Nat := 0
  aonMarks : List Nat := []
  /-- A vault write in progress (R490). -/
  vaultJob : Option VaultJob := none
  /-- Since when a key generation waits for RNG OK (R537); status and cause with which the last one completed. -/
  genWaits : Option Nat := none
  genEnd : Option (Nat × Nat) := none
  /-- The operator keys 0 to 3 of the image, x ‖ y each (R454). -/
  opKeys : List (List Byte) := []
  /-- The image's anchor keys, which serve one boot alone while WP_N is low and the anchor record is empty (R821). -/
  bootAnchors : Option (List Byte) := none
  deriving DecidableEq, Repr

/-- The phases of a learning (R469 to R474). -/
inductive LearnPhase where
  | writing | partner | quiet | selector | switching
  deriving DecidableEq, Repr

/-- A learning in progress: its Q_9 command (none on a STANDBY), the stored bank and the issued set, generation, entries, phase and since when. `mseq`: the mirror item that it
waits for. `mack`: on a STANDBY, the item that it still has to acknowledge. -/
structure Learn where
  cmd : Option Nat
  bank : List Byte
  issued : List Byte
  generation : Nat
  count : Nat
  phase : LearnPhase
  since : Nat
  degraded : Bool := false
  mseq : Option Nat := none
  mack : Option Nat := none
  deriving DecidableEq, Repr

/-- CRD: whether the table is valid, the bank and generation in force, a learning. -/
structure Crd where
  tableValid : Bool := false
  bank : Nat := 0
  count : Nat := 0
  generation : Nat := 0
  degraded : Bool := false
  learn : Option Learn := none
  deriving DecidableEq, Repr

/-! ## Crypto engines (chapter 11) -/

/-- The classes of Table 11-4. -/
inductive EngClass where
  | safety | timed | record | bulk
  deriving DecidableEq, Repr

/-- An AEAD operation inside an engine: its class, the slot it uses, the command it serves, and the output that it holds (R509): the
bytes to write, or none when the tag does not verify; when an engine started or last resumed it (R518). -/
structure AeaOp where
  cls : EngClass
  slot : Nat
  ring : Nat
  cmd : Nat
  isOpen : Bool
  out : Option (List Byte)
  nonce : List Byte
  dest : Nat
  suspAt : Nat := 0
  runAt : Nat := 0
  deriving DecidableEq, Repr

/-- One AEAD engine: the running and the suspended operation (R508, R518, R520). -/
structure AeaEngine where
  op : Option AeaOp := none
  susp : Option AeaOp := none
  deriving DecidableEq, Repr

/-- The operations of Table 11-5. -/
inductive PkeKind where
  | sign | verify | ecdh | keygen | validate
  deriving DecidableEq, Repr

/-- A PKE operation for a queue command. `ok`/`out`: what it will release. -/
structure PkeOp where
  kind : PkeKind
  slot : Nat
  ring : Nat
  cmd : Nat
  out : List Byte
  cause : Nat
  dest : Nat
  deriving DecidableEq, Repr

/-- A message in an HSH context for a queue command. -/
structure HshOp where
  ring : Nat
  cmd : Nat
  digest : List Byte
  blocks : Nat
  dest : Nat
  deriving DecidableEq, Repr

/-- The states of Table 11-6. -/
inductive RngState where
  | startup | ok | restart | failed | unseeded
  deriving DecidableEq, Repr

/-- The state of a CTR_DRBG with AES-256 (R531, R532): Key and V. -/
structure Drbg where
  key : List Byte
  v : Nat
  deriving DecidableEq, Repr

/-- RNG: state, the general and the mask DRBG once they are instantiated, whether the state came from the seed record alone, consecutive failures in RESTART, requests and time since the
last reseed, reseeds of the mask DRBG and when it was last seeded, when the failed state's next restart is due, a raw collection for RNG_RAW. -/
structure Rng where
  state : RngState := .startup
  general : Option Drbg := none
  mask : Option Drbg := none
  seedOnly : Bool := false
  consecutive : Nat := 0
  requests : Nat := 0
  lastReseed : Nat := 0
  maskReseeds : Nat := 0
  maskAt : Nat := 0
  failedAt : Nat := 0
  raw : Option (Nat × Nat × Nat) := none
  deriving DecidableEq, Repr

/-- The engines together. -/
structure Crypto where
  aea0 : AeaEngine := {}
  aea1 : AeaEngine := {}
  /-- Requests of the device's own users that wait for an engine, oldest first (R517). -/
  aeaWait : List AeaOp := []
  pke : Option PkeOp := none
  pkeKat : Bool := false
  hsh : List HshOp := []
  rng : Rng := {}
  /-- AEA, HSH and RNG that have run their known-answer tests since their last reset (R539, R858). -/
  kat : List Nat := []
  deriving DecidableEq, Repr

/-! ## Configuration NOR (chapters 10 and 17) -/

/-- The areas of the NOR that jobs write (Table 17-2). -/
inductive NorArea where
  | image (bank : Nat) | cred (bank : Nat) | setCopy | vault (bank : Nat)
  deriving DecidableEq, Repr

/-- A NOR write job: the area and what it will hold (R810). -/
structure NorJob where
  area : NorArea
  data : List Byte
  /-- The Q_15 IMG_STAGE that waits for it. -/
  cmd : Option Nat := none
  deriving DecidableEq, Repr

/-- A drain: the activation's MODE, its command, since when. -/
structure Drain where
  mode : Nat
  cmd : Nat
  since : Nat
  deriving DecidableEq, Repr

/-- The NOR's areas and the jobs that wait, oldest first; the first one runs. -/
structure Nor where
  imageA : List Byte := []
  imageB : List Byte := []
  credA : List Byte := []
  credB : List Byte := []
  setCopy : List Byte := []
  vaultA : List Byte := []
  vaultB : List Byte := []
  jobs : List NorJob := []
  /-- Jobs that have ended. -/
  ended : Nat := 0
  /-- The bank of the running image. -/
  running : Option Nat := none
  /-- The drain of an IMG_ACTIVATE (R835). -/
  drain : Option Drain := none
  deriving DecidableEq, Repr

/-! ## Power (chapter 03) -/

/-- Where the device stands: without supply, held in a reset (its stages then begin at the one named), in a power-up stage (Table 03-5, 0 regulator to 3
logic), in BOOT_FAULT with its code, in recovery, without an image, in the boot, in run, on the way into a sleep state, or in one (1 to 4). -/
inductive Phase where
  | off
  | held (from_ : Nat)
  | stage (n : Nat)
  | bootFault (code : Nat)
  | recovery
  | noImage
  | boot
  | run
  | entering (n : Nat)
  | sleep (n : Nat)
  deriving DecidableEq, Repr

/-- Power, clocks and Capo beside their registers. -/
structure Pwr where
  phase : Phase := .off
  /-- The sleep state that a wake came from; 0 after a reset. -/
  wakeFrom : Nat := 0
  wakeAt : Nat := 0
  stageAt : Nat := 0
  /-- Supply dip (R145 to R154): begun when, lowest VSUP in 10 mV, sessions aborted, since when above the recovery level. -/
  dip : Bool := false
  dipAt : Nat := 0
  dipMin : Nat := 0
  dipSessions : Nat := 0
  dipRise : Option Nat := none
  /-- SUPPLY_DIP records for the next logic stage: VMIN, DURATION, SESSIONS, FLAGS (R153, R154). -/
  dipOwed : List (Nat × Nat × Nat × Nat) := []
  granted : Nat := 1
  /-- The level of the CORE clock and of VCORE while a change runs (R101, R102). -/
  clkLevel : Nat := 1
  vcoreLevel : Nat := 1
  busy : Bool := false
  /-- A level written while a change ran (R102). -/
  nextLevel : Option Nat := none
  lfCap : Nat := 4
  levelCap : Nat := 0
  droop : Bool := false
  /-- Tj + 64 °C; the power readings of the last 10 ms, newest first, and their mean, mW (R106). -/
  tj : Nat := 0
  powerLog : List Nat := []
  powerEst : Nat := 0
  stepDownAt : Option Nat := none
  coolSince : Option Nat := none
  thermal : Bool := false
  querying : Bool := false
  /-- A wake source or a dip has arisen since the query; the blocks were ready. -/
  disturbed : Option Nat := none
  /-- What each block had done when the query was answered or the commit accepted: block, its cause of Table 03-3, a count (R121, R123). -/
  marks : List (Nat × Nat × Nat) := []
  /-- S3 has been entered and no button telegram accepted since (R128). -/
  s3Held : Bool := false
  /-- The commit under way was made at or after the count of idle days, so that its entry reports STORAGE (R127). -/
  storing : Bool := false
  dayAt : Nat := 0
  listenSince : Option Nat := none
  vioLow : Bool := false
  vioBackAt : Option Nat := none
  /-- The always-on supply stands: from the rise of VSUP until VSUP and VHOLD are exhausted (R156). -/
  aonUp : Bool := false
  /-- Banks whose VDRV lies below its undervoltage level (R168). -/
  vdrvLow : List Nat := []
  /-- The hold-up commit after a class B reset has ended (R93). -/
  holdupOut : Bool := false
  /-- The reset classes that have occurred since the previous logic stage, as bits of PWR_RST_CAUSE (R157). -/
  causes : Nat := 1
  /-- The legacy save list, and the always-on area with its registers' values (R133, R134). -/
  saveList : List Nat := []
  saved : List Nat := []
  deriving DecidableEq, Repr

/-! ## LF field array and touch (chapter 04) -/

/-- One Fret of a GLT sequence: its descriptor, its kind (0 IDLE, 1 DATA, 2 CW), whether the frame's E_end lies in it, the burst that it is, the descriptor of a burst that the partner
runs in it (R792), and the keying of a DATA Fret: bit j + 1 is on while the carrier is on in its 16-cycle unit j, bit 0 for the unit before the Fret. -/
structure FretItem where
  desc : Nat
  kind : Nat := 2
  last : Bool := false
  burst : Option Nat := none
  peer : Option Nat := none
  keys : Nat := 0
  deriving DecidableEq, Repr

/-- A sequence (R183). `issuer`: 1 GLT, 2 Q_2, 3 Q_13. A queue sequence brings its descriptors; a GLT sequence is a plan of Frets, and the descriptor and kind of the Frets that follow
it until GLT stops it (R186, R227). -/
structure LfSeq where
  issuer : Nat
  cmd : Nat := 0
  descs : List (List Byte) := []
  plan : List FretItem := []
  tail : Option (Nat × Nat) := none
  desc : Nat := 0
  left : Nat := 0
  stop : Bool := false
  frets : Nat := 0
  notValid : Nat := 0
  withheld : Nat := 0
  chained : Bool := false
  drove : List Nat := []
  /-- Registers for the completion: captures and rings by slot (16 × descriptor + channel), in the order first taken; amplitude and phase of each capture of an LF_CAL by channel. -/
  caps : List (Nat × List Byte) := []
  rings : List (Nat × List Byte) := []
  cal : List (Nat × Nat × Nat) := []
  refOut : Option Nat := none
  deriving DecidableEq, Repr

/-- The Fret that runs: its kind, its descriptor's index, its driven slots (channel, amplitude, phase), its not-valid mark, channels turned off in it, with the times; the channels of all
of its enabled slots, and the cycle at which each of a PING Fret begins its ping. -/
structure Fret where
  kind : Nat
  desc : Nat
  slots : List (Nat × Nat × Nat)
  capture : Bool
  issuer : Nat
  at_ : Nat
  item : Option FretItem := none
  bad : Bool := false
  off : List Nat := []
  offAt : List (Nat × Nat) := []
  named : List Nat := []
  begins : List (Nat × Nat) := []
  oc : List Nat := []
  deriving DecidableEq, Repr

/-- Presence of a channel (R209 to R211). -/
structure Presence where
  count : Nat := 0
  present : Bool := false
  since : Nat := 0
  deriving DecidableEq, Repr

/-- A touch channel (R214 to R217). -/
structure Touch where
  c : Nat := 0
  count : Nat := 0
  touched : Bool := false
  since : Nat := 0
  deriving DecidableEq, Repr

/-- LFA and TCH beside their registers. -/
structure Lfa where
  seq : Option LfSeq := none
  waiting : List LfSeq := []
  fret : Option Fret := none
  frets : Nat := 0
  /-- A carrier frequency that waits for a free boundary (R169). -/
  carrier : Option Nat := none
  /-- Banks held off until VDRV has been back for 1 ms (R168). -/
  bankOff : List Nat := []
  /-- Consecutive Frets with OVERCURRENT, by channel. -/
  ocCount : List (Nat × Nat) := []
  /-- The field limiter's own copy of the ceilings, and the driven cycles of the last second: channel, time, cycles (R193, R198). -/
  ceil : List (Nat × Nat) := []
  duty : List (Nat × Nat × Nat) := []
  /-- Channels whose ceiling skip has been recorded since the last boot, and those skipped in sleep, with the amplitude of the ping (R198, R440). -/
  recorded : List Nat := []
  sleepSkips : List (Nat × Nat) := []
  /-- Channels whose seeding ping (R212) and whose scheduled ping wait; channels that ring. -/
  seeds : List Nat := []
  pings : List Nat := []
  ringing : List Nat := []
  /-- Channels of the running ping Fret whose baselines it seeds (R212). -/
  seeding : List Nat := []
  /-- The pings that wait belong to a round that has run none of its Frets yet; when the last round's first Fret ran (R208). -/
  pingNew : Bool := false
  pingAt : Nat := 0
  presence : List (Nat × Presence) := []
  touch : List (Nat × Touch) := []
  scanAt : Nat := 0
  /-- Bursts of the ACTIVE's session that this STANDBY runs: local Fret, the ACTIVE's Fret, descriptor (R792). -/
  peerBursts : List (Nat × Nat × List Byte) := []
  /-- What a Fret boundary tells GLT: Frets of its plan that have ended (item, valid, start), and the completions of its sequences: cause, Frets run, Frets not valid (R192). -/
  ended : List (FretItem × Bool × Nat) := []
  done : List (Nat × Nat × Nat) := []
  deriving DecidableEq, Repr

/-! ## Gelet (chapters 05 and 06) -/

/-- The downlink frames (Table 05-2). `measure` names a burst group of the template. -/
inductive Downlink where
  | wake
  | round (handles : List Nat)
  | challenge (handles : List Nat)
  | measure (group : Nat)
  | report (h first count : Nat)
  | halt (h : Nat)
  | again (h : Nat)
  | release (h : Nat)
  | nextSlot
  deriving DecidableEq, Repr

/-- A selected token (GLT_TOKEN_k): its handle, STATE of Table 05-8, whether a CHALLENGE has listed it, the credential its tag verified for, whether a HALT is owed
after a failed proof, the burst groups whose report it has given, and its UWB evidence: 0 none due, 1 due, 2 handed on. -/
structure GTok where
  handle : Nat
  state : Nat := 1
  asked : Bool := false
  verified : Option Nat := none
  haltDue : Bool := false
  groups : List Nat := []
  /-- NONCE, S and FLAGS of the CHALLENGE that listed it. -/
  nonce : Nat := 0
  s : Nat := 0
  flags : Nat := 0
  deriving DecidableEq, Repr

/-- A reply that GLT awaits: the handle, the type, its nominal start after E_end in cycles, the length of its slot, the first burst of a report. -/
structure Await where
  handle : Nat
  typ : Nat
  nominal : Nat
  span : Nat
  first : Nat := 0
  heard : Bool := false
  deriving DecidableEq, Repr

/-- A proof that is being checked: its handle and payload, the KEK generation when it began, the group key's slot, and the timebase of its reception (R50). -/
structure ProofCheck where
  handle : Nat
  payload : List Byte
  kek : Nat
  slot : Nat
  time : Nat := 0
  /-- A slot that it needs was DRAINING when the PROOF came (R499). -/
  busy : Bool := false
  deriving DecidableEq, Repr

/-- A burst that has run: its index, whether it was valid, when it started. -/
structure BurstRun where
  index : Nat
  valid : Bool
  time : Nat
  deriving DecidableEq, Repr

/-- What a session does now: a frame is due or on the air, a round's slots run, replies are awaited, proofs are checked, ranging is awaited, or the session is
aborted and waits for LF (R148, R264). -/
inductive GStep where
  | due (d : Downlink)
  | air (d : Downlink)
  | slots
  | replies
  | checking
  | ranging
  | aborted (since : Nat)
  deriving DecidableEq, Repr

/-- Who opened a session: a core, a Q_1 SESSION_OPEN with its CMD_SEQ, or a button (R299). -/
inductive GIssuer where
  | core
  | queue (cmd : Nat)
  | button
  deriving DecidableEq, Repr

/-- The open session. -/
structure GSess where
  number : Nat
  tag : Nat
  template : Nat
  mode : Nat
  issuer : GIssuer
  openedAt : Nat
  reopened : Bool := false
  step : GStep := .due .wake
  q : Nat := 0
  rounds : Nat := 0
  /-- The round in progress: its slot, what was heard in the slot (a valid HANDLE, or something else), empty and collided slots, SINGLE handles in slot order. -/
  slot : Nat := 0
  slotQ : Nat := 0
  single : Option Nat := none
  noise : Bool := false
  empty : Nat := 0
  coll : Nat := 0
  singles : List Nat := []
  toks : List GTok := []
  released : Bool := false
  awaits : List Await := []
  missed : List Await := []
  attempts : Nat := 0
  checks : List ProofCheck := []
  bursts : List BurstRun := []
  announced : List Nat := []
  /-- Bursts announced in all (R258); when the last awaited reply or slot ended (R227, R235). -/
  ran : Nat := 0
  quiet : Option Nat := none
  /-- The status and cause with which the session will complete once HALT 0xFFFF has been sent. -/
  ends : Option (Nat × Nat) := none
  abort : Bool := false
  deriving DecidableEq, Repr

/-- A button telegram received, with its receiver and time. -/
structure Telegram where
  bytes : List Byte
  at_ : Nat
  deriving DecidableEq, Repr

/-- A telegram whose counter write waits for the Locket (R297): credential, CTR, BTN, the old value, whether it is accepted, whether by resynchronisation. -/
structure HeldTelegram where
  cred : Nat
  ctr : Nat
  btn : Nat
  old : Nat
  accepted : Bool
  resync : Bool
  deriving DecidableEq, Repr

/-- A pending telegram (R295). -/
structure PendingTelegram where
  cred : Nat
  ctr : Nat
  at_ : Nat
  deriving DecidableEq, Repr

/-- A UHF receiver: RSSI as last measured, JAM, lock, since when the level lies above or below THRESH, when it last heard a valid frame. -/
structure Uhf where
  rssi : Nat := 0
  jam : Bool := false
  unlocked : Bool := false
  deriving DecidableEq, Repr

/-- GLT, UHF and the authentication engine beside their registers and the Locket's logs. -/
structure Glt where
  sess : Option GSess := none
  /-- The session that completed last, and the TAG of the last session opened (R236). -/
  last : Option GSess := none
  lastTag : Option Nat := none
  /-- UHF_0 retuned for the session: kHz (R267). -/
  tuned : Option Nat := none
  uhf0 : Uhf := {}
  uhf1 : Uhf := {}
  /-- The sniff window that is open: receiver, since when, whether extended (R269). -/
  sniff : Option (Nat × Nat × Bool) := none
  sniffAt : Nat := 0
  /-- The telegrams passed on by the link layer within the last 1,200 ms (R270). -/
  trains : List Telegram := []
  /-- Proof checks that were begun in a session that has been cut short or has ended (R283). -/
  late : List (GSess × ProofCheck) := []
  /-- A telegram that woke the device and is checked after the stages (R303). -/
  heldFrame : Option Telegram := none
  queue : List Telegram := []
  held : Option HeldTelegram := none
  pending : List PendingTelegram := []
  /-- Log slots whose timebase-form time can no longer be compared (R312). -/
  staleFails : List Nat := []
  /-- Lockout places (128: the device) that begin again and whose new start the Locket has not yet taken (R312). -/
  restarted : List Nat := []
  /-- Session requests that CRD holds while it switches (R471): issuer, template. -/
  heldOpens : List (GIssuer × Nat) := []
  /-- Downlink frames handed to LFA by the last command, as bytes with their prefix byte. -/
  sent : List (List Byte) := []
  deriving DecidableEq, Repr

/-! ## UWB and LOC (chapters 07 and 08) -/

/-- The keys of a handle, how many blocks it has had, and its next exchange index (R326, R331). -/
structure UKeys where
  session : Nat
  handle : Nat
  tag : Nat
  kSes : List Byte
  kSts : List Byte
  vSts : List Byte
  blocks : Nat := 0
  next : Nat := 0
  deriving DecidableEq, Repr

/-- A block that waits. -/
structure UWait where
  session : Nat
  handle : Nat
  /-- On a STANDBY: the block and exchange index that RANGE_GO names. -/
  go : Option (Nat × Nat) := none
  /-- The block of a key handover (R263, R326). -/
  first : Bool := false
  deriving DecidableEq, Repr

/-- One reception of the response to a poll of port `a` at port `k`: t_rx − t_tx, the measures of R338 to R340, the first path's phase in 0.01°, and why it was
rejected at once (0 accepted, 2 QUAL or the 32 ns limit, 3 first-path disagreement). -/
structure URx where
  a : Nat
  k : Nat
  delta : Nat
  qual : Nat
  eps : Int
  fpPwr : Nat
  phase : Int
  why : Nat
  deriving DecidableEq, Repr

/-- The running block. -/
structure UBlock where
  session : Nat
  handle : Nat
  number : Nat
  ports : List Nat
  base : Nat
  startedAt : Nat
  /-- Polls sent: port, t_tx, device timebase. -/
  polls : List (Nat × Nat × Nat) := []
  rx : List URx := []
  unlocked : Bool := false
  /-- Why it ended early (7 dip or thermal stop, 8 reset, 9 session ended) and after how many polls. -/
  cut : Option (Nat × Nat) := none
  forPeer : Bool := false
  /-- It is the block of a key handover (R263); it has begun; the timestamp of its RANGE_START (R324, R329). -/
  first : Bool := false
  ran : Bool := true
  startTx : Nat := 0
  deriving DecidableEq, Repr

/-- A running UWB_SCAN. -/
structure UScan where
  cmd : Nat
  ports : List Nat
  until_ : Nat
  deriving DecidableEq, Repr

/-- A running UWB_CAL: its ports, the two keys of its slot, the blocks asked for and run, the next exchange index, the receptions so far: sending and receiving port, t_rx − t_tx, ε in
0.01 ppm, phase in 0.01°. -/
structure UCal where
  cmd : Nat
  ports : List Nat
  kSts : List Byte
  vSts : List Byte
  blocks : Nat
  number : Nat := 0
  base : Nat := 0
  rx : List (Nat × Nat × Int × Int × Int) := []
  deriving DecidableEq, Repr

/-- A packet sent (R316): the sending port and, as SP0, a PSDU, or, as SP3, its STS by K_STS and V (R332). -/
inductive UPacket where
  | sp0 (port : Nat) (psdu : List Byte)
  | sp3 (port : Nat) (key v : List Byte)
  deriving DecidableEq, Repr

/-- UWB beside its registers. -/
structure Uwb where
  keys : List UKeys := []
  waiting : List UWait := []
  block : Option UBlock := none
  scan : Option UScan := none
  cal : Option UCal := none
  pllLost : Bool := false
  /-- The packets sent by the last command. -/
  sent : List UPacket := []
  /-- How the last request through UWB_RANGE_CTL completed where R327 gives it a status. -/
  reqStatus : Option Nat := none
  deriving DecidableEq, Repr

/-- A solve that has become due (R368): the block whose entries it uses; none: from Q_42 alone; whether LOC_CTRL.EN was clear then. -/
structure Solve where
  session : Nat
  handle : Nat
  block : Option Nat
  off : Bool := false
  deriving DecidableEq, Repr

/-- LOC beside its registers. The map store is `map`. -/
structure Loc where
  due : List Solve := []
  /-- The map store, 256 KiB, as loaded from the image's FIELD_MAP section, and whether its checks passed. -/
  map : List Byte := []
  mapValid : Bool := false
  deriving DecidableEq, Repr

/-! ## VRD (chapter 08) -/

/-- A latched trigger (R383, R384): its zone and REF_PORT (ENTRY), when it was latched, and the instant that its deadline counts from. -/
structure Trigger where
  zone : Nat
  ref : Nat
  latched : Nat
  start : Nat
  deriving DecidableEq, Repr

/-- A judged token for the journal: handle, credential, status, cause, D at REF_PORT. -/
structure Candidate where
  handle : Nat
  cred : Nat
  status : Nat
  cause : Nat
  d : Int
  deriving DecidableEq, Repr

/-- What VRD decided at a decision point: status and cause, the presenting token (zone, credential, handle) when a ticket is due, its flags, the decision point on the
device timebase, the candidates. -/
structure Decision where
  status : Nat
  cause : Nat
  chosen : Option (Nat × Nat × Nat)
  flags : Nat
  at_ : Nat
  cands : List Candidate
  deriving DecidableEq, Repr

/-- A pending proposal (R385, R388). `cmd`: the CMD_SEQ of a Q_1 PROPOSE. `deadlineDone`: its deadline has been judged. -/
structure Proposal where
  typ : Nat
  session : Nat
  cmd : Option Nat
  trig : Option Trigger
  acceptedAt : Nat
  deadlineDone : Bool := false
  decided : Option Decision := none
  deriving DecidableEq, Repr

/-- VRD beside its registers and its evidence, which stands in Q_40, Q_41 and Q_43: triggers, pending proposals, the tickets issued (session, type), the walk-away
count, when the last session completed. -/
structure Vrd where
  start : Option Trigger := none
  entry : Option Trigger := none
  pending : List Proposal := []
  issued : List (Nat × Nat) := []
  walk : Nat := 0
  endedAt : Nat := 0
  deriving DecidableEq, Repr

/-! ## GOV and CAN (chapter 09) -/

/-- Where the ticket that GOV works on stands: its counter write waits for the Locket, or its Signet is being sealed (R416). -/
inductive GovPhase where
  | counter
  | seal
  deriving DecidableEq, Repr

/-- The ticket that GOV works on: its payload, the grant counter value that it raised to, whether that was accepted on one device only, the device nonce of its
Signet. -/
structure GovTicket where
  payload : List Byte
  grant : Nat
  degraded : Bool := false
  phase : GovPhase := .counter
  nonce : List Byte := []
  deriving DecidableEq, Repr

/-- An asserted release (R421): when, that time in the TIME form, RUNNING, since when ENG_RUN has been low, its grant counter. -/
structure Release where
  assertedAt : Nat
  form : Nat
  running : Bool
  lowSince : Option Nat := none
  grant : Nat
  deriving DecidableEq, Repr

/-- GOV beside its registers and the history in the Locket: ticket, release, consecutive readback mismatches, the TIMEs of history entries that count as made at the end of
the logic stage (R428). -/
structure Gov where
  ticket : Option GovTicket := none
  rel : Option Release := none
  mismatch : Nat := 0
  restarted : List Nat := []
  deriving DecidableEq, Repr

/-- A CAN frame: identifier, 29-bit, FD, bit rate switch, data; a remote frame, which a classical one can be (Table 09-6). -/
structure CanFrame where
  id : Nat
  xtd : Bool
  fd : Bool
  brs : Bool
  data : List Byte
  rtr : Bool := false
  deriving DecidableEq, Repr

/-- A Signet in a controller (R434, R435): frame, grant counter, KIND, the number of the copy now at hand, copies still to come after it, whether that copy waits for
transmission and since when (or since when the copy before it is done), whether E_142 has been raised for it. -/
structure Signet where
  frame : CanFrame
  grant : Nat
  kind : Nat
  copy : Nat
  left : Nat
  queued : Bool
  at_ : Nat
  told : Bool
  deriving DecidableEq, Repr

/-- A CAN controller: error counters, bus-off, Signets, frames of CAN_SEND with their CMD_SEQ, oldest first. -/
structure CanCtl where
  tec : Nat := 0
  rec_ : Nat := 0
  busOff : Bool := false
  signets : List Signet := []
  txq : List (Nat × CanFrame) := []
  deriving DecidableEq, Repr

/-- Both controllers, and the frame that the last command put on a bus. -/
structure Can where
  c0 : CanCtl := {}
  c1 : CanCtl := {}
  sent : Option (Nat × CanFrame) := none
  /-- Wake-up patterns of ISO 11898-2 sent on CAN_0 (R799). -/
  wakeSent : Nat := 0
  deriving DecidableEq, Repr

/-! ## TMP (chapter 18) -/

/-- A watchdog: when its count was last loaded (in sleep: how long it had run), whether 0x5A was the last write to its KICK register, whether its warning has been given. -/
structure Wdg where
  loadedAt : Nat := 0
  primed : Bool := false
  warned : Bool := false
  deriving DecidableEq, Repr

/-- A detection held in AON for its response (R846, R847): sensor, STATE, VALUE, DETECTED in the TIME form. -/
structure Held where
  sensor : Nat
  state : Nat
  value : Nat
  time : Nat
  deriving DecidableEq, Repr

/-- TMP beside its registers: the lock in force (R844), detections held, the class T reset that an RST response has still to raise: since when, and the TAMPER records
still to be accepted (R843); consecutive mismatched scans; the watchdogs. -/
structure Tmp where
  locked : Bool := false
  held : List Held := []
  reset : Option Nat := none
  meshRun : Nat := 0
  wdg0 : Wdg := {}
  wdg1 : Wdg := {}
  /-- FAULT records of faults that reset the device, for the next boot: KIND, BLOCK (R851, R862). -/
  owed : List (Nat × Nat) := []
  deriving DecidableEq, Repr

/-! ## HFT (chapter 14) -/

/-- The tag states of Table 14-3. -/
inductive TagState where
  | idle | active | open_ | secured
  deriving DecidableEq, Repr

/-- The ENF_AUTH at hand (R669, R670): E_R and σ_R while its PKE work runs; then the device's ephemeral public key and K2. -/
structure Enf where
  eR : List Byte
  sig : List Byte
  done : Bool := false
  eT : List Byte := []
  k2 : List Byte := []
  since : Nat := 0
  deriving DecidableEq, Repr

/-- What a deferred answer waits for: the PKE work of ENF_AUTH, an FM_WRITE's acceptance, an authority command. -/
inductive TagWait where
  | none | enf | write | auth
  deriving DecidableEq, Repr

/-- A master's access to Field Memory that is stalled under R687: master, write, address, width in bits, value, since when. -/
structure Stall where
  master : Nat
  write : Bool
  addr : Nat
  width : Nat
  value : Nat
  since : Nat
  /-- A WRITE frame of the host (R712): a page write of `width` / 8 bytes from logical address `addr`. -/
  eeprom : Bool := false
  deriving DecidableEq, Repr

/-- The tag: presence, power mode (0 RUN, 1 SLEEP, 2 FIELD), UID, the part 3 position (0 idle, 1 ready, 2 selected), state, method (0 none, 1 enforcement, 2 workshop). -/
structure Hft where
  field : Bool := false
  mode : Nat := 0
  uid : List Byte := List.replicate 4 0
  part3 : Nat := 0
  st : TagState := .idle
  method : Nat := 0
  /-- FLAGS.WRITE and SUBJECT of the reader certificate. -/
  mayWrite : Bool := false
  subject : Nat := 0
  fails : Nat := 0
  /-- Writes are refused for the rest of the presence (R656). -/
  noWrite : Bool := false
  /-- ISO/IEC 14443-4: largest frame of the reader, block number, whether PPS may still come, last block sent, bytes of a response still to send, INF bytes received with
  chaining. -/
  fsd : Nat := 256
  bn : Bool := true
  fresh : Bool := false
  last : List Byte := []
  rest : List Byte := []
  chain : List Byte := []
  wtx : Bool := false
  nT : Option (List Byte) := none
  certs : List (List Byte) := []
  enf : Option Enf := none
  waits : TagWait := .none
  /-- Session key and SSC; the command whose answer is deferred. -/
  key : List Byte := []
  ssc : Nat := 0
  parts : List Byte := []
  /-- Offset and length of the last FM_WRITE. -/
  span : Nat × Nat := (0, 0)
  /-- The field buffer of the FIELD mode (R600), and its damaged groups. -/
  buffer : List Byte := []
  damaged : List Nat := []
  stalls : List Stall := []
  /-- Events of a SLEEP presence that wait for the wake (R700). -/
  events : List Nat := []
  /-- Frames that the last command made the tag send. -/
  sent : List (List Byte) := []
  deriving DecidableEq, Repr

/-! ## Pair (chapter 16) -/

/-- The states of the link (R764). -/
inductive Link where
  | down | training | keying | up
  deriving DecidableEq, Repr

/-- The role of a device (R772); a device used alone is ACTIVE (R760). -/
inductive Role where
  | undecided | standby | active
  deriving DecidableEq, Repr

/-- A Tsudon frame, opened (Table 16-3). -/
structure Frame where
  typ : Nat
  flags : Nat
  lseq : Nat
  ack : Nat
  txc : Nat
  payload : List Byte
  deriving DecidableEq, Repr

/-- A mirror item sent and not yet acknowledged (R781, R784). -/
structure MirrorItem where
  mseq : Nat
  ring : Nat
  deadline : Nat
  deriving DecidableEq, Repr

/-- What the partner's last HEARTBEAT said (Table 16-4). -/
structure PeerHb where
  role : Nat := 0
  state : Nat := 0
  ports : Nat := 0
  backlogFree : Nat := 512
  timebase : Nat := 0
  fret : Nat := 0
  crdGen : Nat := 0
  jnlNext : Nat := 0
  mseqApplied : Nat := 0
  deriving DecidableEq, Repr

/-- A burst of this device's session on the partner's aerials (R793): its Fret, its index in the template, what BURST_DONE said. -/
structure PeerBurst where
  fret : Nat
  index : Nat
  valid : Option Bool := none
  deriving DecidableEq, Repr

/-- A handle whose block of this device has ended and whose RANGE_GO is still to be sent (R796); whether that block was the handover's (R263). -/
structure RangeWant where
  session : Nat
  handle : Nat
  first : Bool := false
  deriving DecidableEq, Repr

/-- A RANGE_GO: its block's number, and the ports whose entries have not come (R797). -/
structure RangeGo where
  session : Nat
  handle : Nat
  block : Nat
  ports : List Nat
  first : Bool := false
  got : List Nat := []
  deriving DecidableEq, Repr

/-- The pair link and the role. -/
structure Tsu where
  link : Link := .down
  /-- Whether N of the next keying still waits for RNG (R538), and a HELLO whose ECDH waits for PKE (R521, R540). -/
  keyWaits : Bool := false
  helloRx : Option (List Byte) := none
  role : Role := .undecided
  /-- PAIR_ID sampled at reset: true on the SECONDARY (R62). -/
  secondary : Bool := false
  drivesArb : Bool := false
  arbHigh : Bool := true
  arbHighSince : Nat := 0
  decideFrom : Nat := 0
  claimedAt : Nat := 0
  testsDone : Nat := 0
  partnerLost : Bool := true
  /-- A resynchronisation has completed since the role decision and since the partner was last lost (R787, R801). -/
  synced : Bool := false
  stage : Nat := 0
  retrainAt : Option Nat := none
  lastRx : Nat := 0
  ownN : List Byte := List.replicate 16 0
  peerN : List Byte := List.replicate 16 0
  kLink : List Byte := []
  helloAt : Nat := 0
  txc : Nat := 0
  lseqTx : Nat := 0
  lseqRx : Nat := 0
  ackAt : Nat := 0
  /-- Sequenced frames not acknowledged, oldest first (R771), and frames that wait until fewer than 64 are. -/
  unacked : List Frame := []
  outbox : List Frame := []
  /-- Frames handed to the lanes, as sent, since a keying, a heartbeat, a resend or a repeated HELLO last began the list anew. -/
  sent : List (List Byte) := []
  mseqNext : Nat := 1
  mackDone : Nat := 0
  mseqApplied : Nat := 0
  items : List MirrorItem := []
  hb : PeerHb := {}
  tbOfs : Nat := 0
  handover : Option Nat := none
  /-- The partner announced that it hands the role over (R780). -/
  handoverHeard : Bool := false
  lastPeerReset : Option Nat := none
  resetDriveUntil : Nat := 0
  /-- On a STANDBY: the ACTIVE's session: number, GROUP, TAG, band (R794, R795). -/
  peerSess : Option (Nat × Nat × Nat × Nat) := none
  /-- The ACTIVE's Fret count less this device's (R790). -/
  fretOfs : Nat := 0
  bursts : List PeerBurst := []
  /-- The RANGE_GOs whose entries have not all come, oldest first (R797). -/
  rangeGo : List RangeGo := []
  /-- The RANGE_GOs still to be sent, oldest first (R796). -/
  rangeWant : List RangeWant := []
  /-- Issued set being received (R474) and sent. -/
  crdRx : List Byte := []
  /-- The STANDBY's answer to SLEEP: its commit was accepted, or its block and cause of refusal (R798). -/
  sleepAnswer : Option (Bool × Nat × Nat) := none
  /-- On a STANDBY: journal items that wait for the program of their records: MSEQ and the SEQ past the last one (Table 16-5). -/
  jnlMacks : List (Nat × Nat) := []
  /-- Stage 1: the field-stream SEQ of the Field Memory groups as the ACTIVE holds them (R804). -/
  fieldSeqs : List Nat := []
  /-- Stage 2 on the ACTIVE: the SEQ interval in which the first record not shared lies; on a STANDBY, set while the comparison runs. -/
  search : Option (Nat × Nat) := none
  /-- Stage 3: the MSEQ of the last part of the issued set sent, or of its SWITCH (R801). -/
  setSent : Option (Nat × Bool) := none
  /-- Stage 3 waits for SET_COPY (R811). -/
  setWaits : Bool := false
  /-- A device of a pair has gone to sleep (R799). -/
  pairSlept : Bool := false
  /-- Messages from the partner for MB_0 and MB_1 that wait until those are empty. -/
  mbWait : List (Nat × List Nat) := []
  deriving DecidableEq, Repr

/-! ## Clocks -/

/-- The model's time points: when MAIN left reset (R49), the RTC when it is valid: its value in ms and when it had it. -/
structure Tim where
  mainUp : Nat := 0
  rtc : Option (Nat × Nat) := none
  /-- The service stamp of the AON domain, RTC seconds (R674). -/
  service : Option Nat := none
  deriving DecidableEq, Repr

/-! ## Pins (chapter 02) -/

/-- The pins: inputs as last seen after their filters, outputs as driven. An output that floats is `none` (R51). -/
structure Pins where
  wpLow : Bool := false
  recovLow : Bool := false
  engRun : Bool := false
  startBtn : Bool := false
  resetLow : Bool := false
  pairRstLow : Bool := false
  holdupReady : Bool := false
  vsup : Bool := false
  vio : Bool := false
  relA : Option Bool := none
  relBn : Option Bool := none
  bootStat : Option Nat := none
  fdN : Option Bool := none
  /-- The active levels of IRQ_0 to IRQ_7 as they stood when MAIN went down, by which the LISTEN domain holds the pins inactive in S1 to S3 (R753). -/
  irqPol : Nat := 0
  deriving DecidableEq, Repr

/-! ## Fences (chapter 18) -/

/-- Fence epochs by block (R855; a block not listed has epoch 0). -/
structure Fences where
  epochs : List (Nat × Nat) := []
  /-- Blocks inside a class L reset (R854, R858), and blocks stopped by a sleep commit or a rollback (R124). -/
  inReset : List Nat := []
  stopped : List Nat := []
  deriving DecidableEq, Repr

/-! ## The whole state -/

/-- The machine. -/
structure State where
  /-- The commands that wait, first in, first out. -/
  pending : List Instr := []
  /-- The model's own clock, µs; the device timebase is `now - mainUp` (R49). -/
  now : Nat := 0
  /-- The model's own counter of free values drawn. -/
  fresh : Nat := 0
  /-- Every register field that is not at its reset value, by `Field.key`. -/
  regs : List (Nat × Nat) := []
  /-- SRAM, retention SRAM, credential RAM, Fret RAM, template RAM and the Locket shadow; an unlisted byte reads 0. -/
  mem : List Host.Cell := []
  tim : Tim := {}
  pins : Pins := {}
  evt : Evt := {}
  que : Que := {}
  mbx : Mbx := {}
  hif : Hif := {}
  jnl : Jnl := {}
  lkt : Lkt := {}
  priv : Priv := {}
  auth : Option Auth := none
  key : Key := {}
  crd : Crd := {}
  crypto : Crypto := {}
  nor : Nor := {}
  tsu : Tsu := {}
  pwr : Pwr := {}
  lfa : Lfa := {}
  glt : Glt := {}
  uwb : Uwb := {}
  loc : Loc := {}
  vrd : Vrd := {}
  gov : Gov := {}
  can : Can := {}
  tmp : Tmp := {}
  hft : Hft := {}
  fences : Fences := {}
  /-- The IEEE 1149.1 port is locked for field life (R23). -/
  jtagLocked : Bool := false
  devnum : Nat := 0
  /-- The Sachexis firmware key that the boot ROM holds, x ‖ y (R815); no command changes it. -/
  fwKey : List Byte := Config.firmwareKey
  /-- Bytes of the APP_FW load range, rounded up to 4 KiB (R873). -/
  appFwBytes : Nat := 0
  deriving DecidableEq, Repr

/-- The machine right after reset: every register at its reset value, nothing waiting. -/
def State.reset : State := {}

end Sys2Proof.Machine
end

