-- ==== Sys2Proof/Machine/Drbg.lean ====
section
/-! DEFINITION. The DRBG of RNG, CTR_DRBG with AES-256 and a derivation function (NIST SP 800-90A Rev. 1; R506, R531, R532), and the health tests of its entropy source (NIST SP 800-90B;
R506, R529). What the two standards leave to the implementer: assumption 114. -/
namespace Sys2Proof.Machine

/-! ## CTR_DRBG -/

/-- `n` blocks of the stream under round keys, from the counter value after v. -/
def drbgStream (ks : List Nat) : Nat → Nat → List Byte
  | 0, _ => []
  | n + 1, v => aesEncryptWith ks (beBytes 16 (v + 1)) ++ drbgStream ks n ((v + 1) % 2 ^ 128)

/-- The update function, with provided data of at most 48 bytes. -/
def Drbg.update (d : Drbg) (p : List Byte) : Drbg :=
  let t := xorBytes (drbgStream (roundKeys d.key) 3 d.v) (fit 48 p)
  { key := t.take 32, v := ofBe (t.drop 32) }

/-- The derivation function: 48 bytes from an input of any length. -/
def drbgDerive (l : List Byte) : List Byte :=
  let m := pad16 (beBytes 4 l.length ++ beBytes 4 48 ++ l ++ [0x80])
  let ks := roundKeys ((List.range 32).map (BitVec.ofNat 8))
  let t := (List.range 3).flatMap (fun i => cbcMac ks (beBytes 4 i ++ List.replicate 12 0 ++ m))
  let k := roundKeys (t.take 32)
  let a := aesEncryptWith k (t.drop 32)
  let b := aesEncryptWith k a
  a ++ b ++ aesEncryptWith k b

/-- Instantiate from entropy input and personalisation string. -/
def Drbg.instantiate (seed : List Byte) : Drbg := Drbg.update { key := List.replicate 32 0, v := 0 } (drbgDerive seed)

/-- Reseed with entropy input. -/
def Drbg.reseed (d : Drbg) (entropy : List Byte) : Drbg := d.update (drbgDerive entropy)

/-- One generate request of `n` bytes. -/
def Drbg.generate (d : Drbg) (n : Nat) : List Byte × Drbg :=
  let k := blocks16 n
  ((drbgStream (roundKeys d.key) k d.v).take n, Drbg.update { d with v := (d.v + k) % 2 ^ 128 } [])

/-! ## The health tests (R529) -/

/-- A collection of 1,024 raw bits as bytes, the first bit lowest. -/
def rawBytes (raw : BitVec 1024) : List Byte := leBytes 128 raw.toNat

/-- The raw bits in the order in which they came. -/
def rawBits (raw : BitVec 1024) : List Bool := (List.range 1024).map raw.toNat.testBit

/-- Whether a run of equal bits reaches a cutoff; `run`: how often the last bit has come so far. -/
def runReaches (cutoff : Nat) : Option Bool → Nat → List Bool → Bool
  | _, _, [] => false
  | last, run, b :: rest =>
    let n := if last = some b then run + 1 else 1
    decide (cutoff ≤ n) || runReaches cutoff (some b) n rest

/-- The repetition count test fails: one value comes 41 times in a row. -/
def rctFails (raw : BitVec 1024) : Bool := runReaches 41 none 0 (rawBits raw)

/-- The adaptive proportion test fails: the first value of the window of 1,024 bits comes 795 times in it. -/
def aptFails (raw : BitVec 1024) : Bool :=
  let l := rawBits raw
  decide (795 ≤ (l.filter (fun b => b == l.headD false)).length)

/-- Whether a collection passes both tests. -/
def healthy (raw : BitVec 1024) : Bool := !rctFails raw && !aptFails raw

end Sys2Proof.Machine
end

