-- ==== Sys2Proof/Machine/Ops.lean ====
section
/-! DEFINITION. The operations every block shares: register fields, memories, time, free values, events, journal records, queue
entries and completions, privilege levels. -/
namespace Sys2Proof.Machine

/-! ## Register fields -/

/-- A field of instance `i` as bank `b` sees it. -/
def State.regB (s : State) (f : Field) (i b : Nat) : Nat := storeGet (f.resetAt i) s.regs (f.key i b)

/-- Field of instance `i` of an indexed register. -/
def State.regI (s : State) (f : Field) (i : Nat) : Nat := s.regB f i 0

/-- A field. -/
def State.reg (s : State) (f : Field) : Nat := s.regB f 0 0

/-- A one-bit field. -/
def State.flag (s : State) (f : Field) : Bool := s.reg f == 1

/-- Store a field of instance `i`, bank `b`, cut to its width. -/
def State.setB (s : State) (f : Field) (i b v : Nat) : State :=
  { s with regs := storeSet (f.resetAt i) s.regs (f.key i b) (low f.width v) }

/-- Store a field of instance `i`. -/
def State.setI (s : State) (f : Field) (i v : Nat) : State := s.setB f i 0 v

/-- Store a field. -/
def State.set (s : State) (f : Field) (v : Nat) : State := s.setB f 0 0 v

/-- Count in a saturating field. -/
def State.bumpI (s : State) (f : Field) (i : Nat) : State := s.setI f i (satInc f.width (s.regI f i))

/-- Count in a saturating field. -/
def State.bump (s : State) (f : Field) : State := s.bumpI f 0

/-- Count in a wrapping field. -/
def State.wrapUp (s : State) (f : Field) : State := s.set f (s.reg f + 1)

/-- Whether a store key belongs to a field with class `c` in its Reset class column. -/
def keyHasClass (c : ResetClass) (k : Nat) : Bool := k.testBit c.bit

/-- The block of a store key. -/
def keyBlock (k : Nat) : Nat := k / 256 / 8 / 65536 / 256

/-- R15: every field returns to its reset value that lists class `c`. -/
def State.resetFields (s : State) (c : ResetClass) : State :=
  { s with regs := s.regs.filter (fun e => !keyHasClass c e.1) }

/-- R15 for a class L reset of block `n`. -/
def State.resetBlockFields (s : State) (n : Nat) : State :=
  { s with regs := s.regs.filter (fun e => !(keyHasClass .L e.1 && keyBlock e.1 == n)) }

/-- A block's registers are lost with their domain: every field of block `n` returns to its reset value. -/
def State.dropBlockFields (s : State) (n : Nat) : State := { s with regs := s.regs.filter (fun e => keyBlock e.1 != n) }

/-! ## Memories -/

/-- One byte; an unlisted byte reads 0. -/
def State.byte (s : State) (a : Nat) : Byte := storeGet 0 s.mem a

/-- `n` bytes from an address. -/
def State.bytes (s : State) (a : Nat) : Nat → List Byte
  | 0 => []
  | n + 1 => s.byte a :: s.bytes (a + 1) n

/-- Store one byte. -/
def State.setByte (s : State) (a : Nat) (b : Byte) : State := { s with mem := storeSet 0 s.mem a b }

/-- Store bytes from an address. -/
def State.setBytes (s : State) : Nat → List Byte → State
  | _, [] => s
  | a, b :: t => (s.setByte a b).setBytes (a + 1) t

/-- A little-endian number of `n` bytes (R7). -/
def State.word (s : State) (a n : Nat) : Nat := ofLe (s.bytes a n)

/-! ## Time -/

/-- The device timebase: µs since MAIN left reset, 48 bits (R49). -/
def State.timebase (s : State) : Nat := low 48 (s.now - s.tim.mainUp)

/-- RTC time in ms, when the RTC is valid. -/
def State.rtcMs (s : State) : Option Nat := s.tim.rtc.map (fun p => p.1 + (s.now - p.2) / 1000)

/-- A time in the form of R618: RTC ms, or bit 47 set with the timebase in ms. -/
def State.timeForm (s : State) : Nat :=
  match s.rtcMs with
  | some t => low 47 t
  | none => 2 ^ 47 + low 47 (s.timebase / 1000)

/-- Whether `d` µs have passed since a time point. -/
def State.since (s : State) (t d : Nat) : Bool := decide (t + d ≤ s.now)

/-- The CORE clock, MHz: that of the level (Table 03-2), halved in droop (R103), a whole number rounded down. -/
def State.coreMHz (s : State) : Nat := [250, 200, 100, 25].getD s.pwr.clkLevel 25 / (if s.pwr.droop then 2 else 1)

/-! ## Free values -/

/-- `n` fresh bytes that the spec leaves open, and the state that has drawn them. -/
def State.draw (s : State) (n : Nat) : List Byte × State :=
  ((List.range n).map (fun i => Config.freeByte (s.fresh + i)), { s with fresh := s.fresh + n })

/-- `n` bytes from the general DRBG, as one generate request (R531). Before an instantiation RNG serves nothing; the bytes are then open. -/
def State.random (s : State) (n : Nat) : List Byte × State :=
  match s.crypto.rng.general with
  | some g =>
    let o := g.generate n
    (o.1, { s with crypto := { s.crypto with rng := { s.crypto.rng with general := some o.2, requests := s.crypto.rng.requests + 1 } } })
  | none =>
    let d := s.draw n
    (d.1, { d.2 with crypto := { d.2.crypto with rng := { d.2.crypto.rng with requests := d.2.crypto.rng.requests + 1 } } })

/-- A tracked value after it has moved 1/n of the way to a reading (R210, R217). Where n does not divide the difference, the spec does not say which of the two
neighbouring steps is stored: that choice is free. -/
def State.toward (s : State) (n : Nat) (old new : Int) : Int × State :=
  let d := new - old
  if d % (n : Int) = 0 then (old + d / (n : Int), s)
  else
    let r := s.draw 1
    (old + d / (n : Int) + ((ofLe r.1 % 2 : Nat) : Int), r.2)

/-! ## Events (R750) -/

/-- An occurrence of E_e sets its pending bit for each of masters 1, 2 and 3. -/
def State.raise (s : State) (e : Nat) : State :=
  let m : BitVec 192 := 1#192 <<< e
  { s with evt := { sec := s.evt.sec ||| m, app := s.evt.app ||| m, host := s.evt.host ||| m } }

/-- An event raised to one master only (R742). -/
def State.raiseTo (s : State) (e master : Nat) : State :=
  let m : BitVec 192 := 1#192 <<< e
  if master = 1 then { s with evt := { s.evt with sec := s.evt.sec ||| m } }
  else if master = 2 then { s with evt := { s.evt with app := s.evt.app ||| m } }
  else if master = 3 then { s with evt := { s.evt with host := s.evt.host ||| m } }
  else s

/-! ## Rings (R714 to R724) -/

/-- The entries of a ring, oldest first. -/
def State.ring (s : State) (q : Nat) : List Entry := storeGet [] s.que.rings q

/-- The depth of a ring. -/
def State.depth (s : State) (q : Nat) : Nat := if q < 40 then s.regI Reg.QUE_RING_CFG_DEPTH q else 256

/-- The next SEQ of a ring; that of Q_46 is kept with its entries. -/
def State.seqOf (s : State) (q : Nat) : Nat := if q < 40 then s.regI Reg.QUE_SEQ_NEXT q else if q = 46 then s.jnl.q46Seq else storeGet 0 s.que.intSeq q

/-- Advance the SEQ counter of a ring (R717). -/
def State.seqUp (s : State) (q : Nat) : State :=
  if q < 40 then s.setI Reg.QUE_SEQ_NEXT q (s.regI Reg.QUE_SEQ_NEXT q + 1)
  else { s with que := { s.que with intSeq := storeSet 0 s.que.intSeq q (low 32 (storeGet 0 s.que.intSeq q + 1)) } }

/-- Replace a ring's entries. -/
def State.setRing (s : State) (q : Nat) (l : List Entry) : State :=
  { s with que := { s.que with rings := storeSet [] s.que.rings q l } }

/-- Place an entry in a ring, stamped with the ring's SEQ, and raise E_q for q = 16 to 47 (R717, R724). -/
def State.place (s : State) (q : Nat) (e : Entry) : State :=
  let s1 := (s.setRing q (s.ring q ++ [{ e with seq := s.seqOf q }])).seqUp q
  if 16 ≤ q then s1.raise q else s1

/-- Commands of ring q taken and not completed: each has a completion place reserved (R719). -/
def State.reserved (s : State) (q : Nat) : Nat := (s.que.running.filter (fun r => r.ring == q)).length

/-- An entry of an internal ring: master 6, the producer's block (R42), and the payload filled to 48 bytes. -/
def internalEntry (block : Nat) (payload : List Byte) : Entry :=
  { master := 6, block := block, payload := fit 48 payload }

/-- A producer enters a payload in an internal ring (R40). -/
def State.emit (s : State) (q block : Nat) (payload : List Byte) : State := s.place q (internalEntry block payload)

/-! ## Journal records (R620, R621, R635, R636) -/

/-- Count a hardware record as lost (R636). -/
def State.loseRecord (s : State) : State :=
  let s1 : State := if s.reg Reg.JNL_LOST_COUNT = 0 then
      { s.raise 170 with jnl := { s.jnl with lostFirst := s.timeForm } } else s
  let s2 : State := { s1 with jnl := { s1.jnl with lostLast := s1.timeForm } }
  s2.bump Reg.JNL_LOST_COUNT

/-- Blocks, in Table 01-1's numbers, that produce records and entries. -/
def blkPWR : Nat := 1
def blkCLK : Nat := 2
def blkQUE : Nat := 5
def blkLFA : Nat := 6
def blkGLT : Nat := 7
def blkUWB : Nat := 9
def blkLOC : Nat := 10
def blkVRD : Nat := 11
def blkGOV : Nat := 12
def blkCRD : Nat := 13
def blkKEY : Nat := 14
def blkAEA : Nat := 15
def blkPKE : Nat := 16
def blkHSH : Nat := 17
def blkRNG : Nat := 18
def blkLKT : Nat := 19
def blkJNL : Nat := 20
def blkHFT : Nat := 21
def blkCAN : Nat := 23
def blkTSU : Nat := 25
def blkCFG : Nat := 26
def blkTMP : Nat := 27
def blkAON : Nat := 30
def blkSYS : Nat := 0
def blkHIF : Nat := 22

/-- A hardware block appends a record: it goes to Q_46, or is counted lost when Q_46 is full or JNL is FOREIGN or NO_NAND (R636,
R641). -/
def State.queueRecord (s : State) (n : NewRec) : State :=
  if s.jnl.foreign_ || s.jnl.noNand || decide (256 ≤ s.jnl.q46.length) then s.loseRecord
  else State.raise { s with jnl := { s.jnl with q46 := s.jnl.q46 ++ [n], q46Seq := low 32 (s.jnl.q46Seq + 1) } } 46

/-- A hardware block's record for the journal. -/
def State.journal (s : State) (block typ : Nat) (payload : List Byte) : State :=
  s.queueRecord { typ := typ, master := 0, block := block, payload := fit 64 payload }

/-- DRIVER_REF bytes for a type marked D when no credential is concerned. -/
def noRef : List Byte := List.replicate 16 0

/-- A fault or tamper record goes to the journal and, as a notice to the security core, to Q_47 (Table 01-5): its type and the start of its payload, while the ring has room (assumption
24). -/
def State.journalNotice (s : State) (block typ : Nat) (payload : List Byte) : State :=
  let t := s.journal block typ payload
  if (t.ring 47).length < 256 then t.emit 47 block (leBytes 2 typ ++ payload) else t

/-! ## Privilege levels (R448 to R452) -/

/-- The host's level: MAKER 3, OPERATOR 2, DRIVER 1, PUBLIC 0 (R449). -/
def State.hostLevel (s : State) : Nat :=
  match s.priv.elevated with
  | some e => e.1
  | none => if s.priv.driver.isSome then 1 else 0

/-- The level at which a master's command is judged (R450); a SECURED HF session holds OPERATOR (R665). -/
def State.levelOf (s : State) (master : Nat) : Nat :=
  if master = 1 ∨ master = 2 then 3 else if master = 3 then s.hostLevel else if master = 5 ∧ s.hft.st = .secured then 2 else 0

/-- Whether the device is in recovery (R830). -/
def State.inRecovery (s : State) : Bool := s.pwr.phase == .recovery

/-- Whether a master may write a register field, its access code apart (Table 01-4, Table 01-1, R23, R24). Recovery opens SYS_RECOV to the
host (R830). -/
def State.mayWriteField (s : State) (m : Nat) (f : Field) : Bool :=
  if m = 1 then true
  else if m = 2 then !f.secOnly && f.block != 13 && f.block != 14 && f.block != 27
  else if m = 3 then
    match f.hostLevel with
    | some l => decide (l ≤ s.hostLevel) && (f.block != 0 || s.inRecovery)
    | none => false
  else if m = 5 then f.block == 21
  else if m = 6 then f.block == 5 || f.block == 15 || f.block == 17
  else if m = 7 then !s.jtagLocked && f.block != 13 && f.block != 14
  else false

/-- The lock bits (R11). CAN has one for each controller. -/
def lockFields : List Field :=
  [Reg.PWR_LOCK_LOCK, Reg.CLK_LOCK_LOCK, Reg.LFA_LOCK_LOCK, Reg.TCH_LOCK_LOCK, Reg.GLT_LOCK_LOCK, Reg.UHF_LOCK_LOCK, Reg.UWB_LOCK_LOCK, Reg.LOC_LOCK_LOCK,
   Reg.VRD_LOCK_LOCK] ++ [Reg.GOV_LOCK_LOCK, Reg.CAN_LOCK_LOCK, Reg.CRD_LOCK_LOCK, Reg.KEY_LOCK_LOCK, Reg.AEA_LOCK_LOCK, Reg.PKE_LOCK_LOCK, Reg.HSH_LOCK_LOCK,
   Reg.RNG_LOCK_LOCK, Reg.LKT_LOCK_LOCK] ++ [Reg.JNL_LOCK_LOCK, Reg.HFT_LOCK_LOCK, Reg.HIF_LOCK_LOCK, Reg.QUE_LOCK_LOCK, Reg.MBX_LOCK_LOCK, Reg.TSU_LOCK_LOCK,
   Reg.CFG_LOCK_LOCK, Reg.TMP_LOCK_LOCK]

/-- Whether the lock bit that binds an RWL field's instance is set (R10, R11). TMP_LOCK, of which chapter 18 says that it locks the RWL fields of sensors and responses, binds those of
TMP_WDG_CFG too (DESIGN CHOICE, assumption 106). -/
def State.locked (s : State) (f : Field) (i : Nat) : Bool :=
  match lockFields.find? (fun l => l.block == f.block) with
  | some l => s.regI l (if 1 < l.count then i / f.inner else 0) == 1
  | none => false

/-- Whether a master's write stores into a field now: it may write the field, and an RWL field is not locked. -/
def State.mayStore (s : State) (m : Nat) (f : Field) (i : Nat) : Bool := s.mayWriteField m f && (f.acc != .rwl || !s.locked f i)

/-- The write that the authority window admits next, when master m makes it to the register of a field now (R29 to R32, R461): the window is open, no admitted write waits for
the Locket, and the named writes are made in the order listed. -/
def State.namedWrite (s : State) (m : Nat) (f : Field) : Option AuthWrite :=
  if m ≠ 1 then none
  else match s.auth with
  | none => none
  | some w =>
    if w.phase == .writes && w.waiting.isNone && !s.since w.openedAt 10000 then w.left.head?.filter (fun x => decide (f.addr ≤ x.addr) && x.addr % 4 == 0 &&
      (List.range (f.count * f.inner)).any (fun i => f.addrAt i == x.addr)) else none

/-- The named write at hand has been admitted and has taken effect. -/
def State.admitted (s : State) : State :=
  { s with auth := s.auth.map (fun w => { w with left := w.left.tail, applied := w.applied + 1 }) }

/-- Whether a master may read a block's window (Table 01-4). -/
def State.mayReadBlock (s : State) (m b : Nat) : Bool :=
  if m = 1 ∨ m = 3 then true
  else if m = 2 then b != 13 && b != 14 && b != 27
  else if m = 5 then b == 21
  else if m = 6 then b == 5 || b == 15 || b == 17
  else if m = 7 then !s.jtagLocked && b != 13 && b != 14
  else false

/-! ## Bus errors (R25, R32, R853) -/

/-- Kinds of the bus-fault record (Table 17-10). -/
def kindDecode : Nat := 0
def kindPolicy : Nat := 1
def kindOff : Nat := 2
def kindField : Nat := 3

/-- A bus fault is recorded (R853): the first unread one in full, a later one as OVERRUN and in COUNT; E_190. -/
def State.busFault (s : State) (kind master addr : Nat) (write : Bool) : State :=
  let n := s.reg Reg.SYS_BUSFAULT_INFO_COUNT
  let s1 := if n = 0 then
      (((s.set Reg.SYS_BUSFAULT_ADDR_ADDR addr).set Reg.SYS_BUSFAULT_INFO_MASTER master).set Reg.SYS_BUSFAULT_INFO_KIND kind).set Reg.SYS_BUSFAULT_INFO_WRITE (ofBool write)
    else s.set Reg.SYS_BUSFAULT_INFO_OVERRUN 1
  (s1.bump Reg.SYS_BUSFAULT_INFO_COUNT).raise 190

/-- A master's write to a field that is not its to write, or that only the authority window opens and the window does not admit: ignored and recorded as a policy error (R25, R32, R866). -/
def State.writeRefused (s : State) (m : Nat) (f : Field) : State := s.busFault kindPolicy m (f.addrAt 0) true

/-- Clear several fields when a master's write of 1 to a clear bit may act; a master that may not write it ends in a bus error. -/
def State.clearBy (s : State) (m : Nat) (clr : Field) (l : List Field) : State :=
  if s.mayWriteField m clr then l.foldl (fun t f => t.set f 0) s else s.writeRefused m clr

/-! ## Completions (R721, R729) -/

/-- Payload bytes of a command as a number. -/
def Running.num (r : Running) (o n : Nat) : Nat := ofLe (slice r.entry.payload o n)

/-- Payload bytes of a command. -/
def Running.sub (r : Running) (o n : Nat) : List Byte := slice r.entry.payload o n

/-- The destination address of a command (R722, R872). -/
def Running.dest (r : Running) : Nat := r.num 40 4

/-- The destination length of a command. -/
def Running.destLen (r : Running) : Nat := r.num 44 4

/-- The oldest running command of a ring with a code. -/
def State.running (s : State) (q code : Nat) : Option Running :=
  s.que.running.find? (fun r => r.ring == q && r.entry.code == code)

/-- The running command of a ring with a SEQ. -/
def State.runningSeq (s : State) (q seq : Nat) : Option Running :=
  s.que.running.find? (fun r => r.ring == q && r.entry.seq == seq)

/-- The completion entry of a command (Table 15-5, R721). -/
def completionEntry (r : Running) (block status cause delay : Nat) (data : List Byte) : Entry :=
  { master := 6, block := block, code := r.entry.code, flags := r.entry.master, status := status, cause := cause,
    tag := r.entry.tag, payload := leBytes 4 r.entry.seq ++ leBytes 4 (min delay 0xFFFFFFFF) ++ fit 40 data }

/-- Status codes of Table 15-10. -/
def stOK : Nat := 0x00
def stDELAYED : Nat := 0x01
def stFULL : Nat := 0x10
def stPOLICY : Nat := 0x11
def stLOCKOUT : Nat := 0x12
def stSPENT : Nat := 0x20
def stSLOTBUSY : Nat := 0x21
def stZEROIZE : Nat := 0x22
def stRESET : Nat := 0x30
def stPOWER : Nat := 0x31
def stBLOCKOFF : Nat := 0x32
def stAUTH : Nat := 0x40
def stRANGE : Nat := 0x41
def stZONE : Nat := 0x42
def stSTALE : Nat := 0x43
def stNV : Nat := 0x50
def stDEGRADED : Nat := 0x51
def stTIE : Nat := 0x52
def stFIELDBUSY : Nat := 0x60
def stHOSTLOCKED : Nat := 0x61
def stUNKNOWN : Nat := 0x7F

/-- Take a command from the running list. -/
def State.dropRunning (s : State) (r : Running) : State :=
  let l := s.que.running.filter (fun x => !(x.ring == r.ring && x.entry.seq == r.entry.seq))
  { s with que := { s.que with running := l } }

/-- Complete a command: one entry in ring q + 16 (R721). A delay of `delay` µs turns OK into DELAYED_OK when it is 1 or more (R729). -/
def State.completeAfter (s : State) (r : Running) (block status cause delay : Nat) (data : List Byte) : State :=
  let st := if status = stOK ∧ 1 ≤ delay then stDELAYED else status
  let d := if st = stDELAYED then delay else 0
  (s.dropRunning r).place (r.ring + 16) (completionEntry r block st cause d data)

/-- Complete a command whose delay is the time from its taking to its start (R729), or, on Q_4 and Q_5, from its reaching the head of its ring (R547). -/
def State.complete (s : State) (r : Running) (block status cause : Nat) (data : List Byte) : State :=
  s.completeAfter r block status cause (if r.started then r.waited + r.suspended else s.now - (if r.ring = 4 ∨ r.ring = 5 then r.headAt else r.takenAt)) data

/-- Mark a running command as started (R730), keeping the time it waited in `takenAt`. -/
def State.startCmd (s : State) (r : Running) : State :=
  let l := s.que.running.map (fun x =>
    if x.ring == r.ring && x.entry.seq == r.entry.seq then { x with started := true, waited := s.now - (if x.ring == 4 || x.ring == 5 then x.headAt else x.takenAt) } else x)
  { s with que := { s.que with running := l } }

/-- Run `k` on the oldest running command of a ring and code; without one, nothing changes. -/
def State.withCmd (s : State) (q code : Nat) (k : Running → State) : State :=
  match s.running q code with
  | some r => k r
  | none => s

/-! ## Pair state that acceptance depends on (R760, R787) -/

/-- Whether the image makes this device one of a pair. -/
def State.paired (s : State) : Bool := s.flag Reg.TSU_CTRL_PAIRED

/-- Whether this device is a STANDBY (R788). -/
def State.isStandby (s : State) : Bool := s.paired && s.tsu.role != .active

/-- R787: the pair is degraded. -/
def State.pairDegraded (s : State) : Bool :=
  s.paired && (s.tsu.partnerLost || !s.tsu.synced || decide (0 < s.tsu.stage) || s.crd.degraded)

/-- Whether the link carries mirror items now: new work is mirrored behind a resynchronisation too (R801). -/
def State.linkMirrors (s : State) : Bool :=
  s.paired && s.tsu.link == .up && !s.tsu.partnerLost && (s.tsu.synced || decide (0 < s.tsu.stage))

/-- Whether this device, as the ACTIVE, sends mirror items now. -/
def State.mirrorsNow (s : State) : Bool := s.linkMirrors && s.tsu.role == .active

/-- Whether work must be mirrored before it counts as accepted (R781, R784). -/
def State.mirrors (s : State) : Bool := s.mirrorsNow && !s.pairDegraded

/-- The status of work accepted now on this device: DEGRADED while the pair is degraded (R784). -/
def State.acceptStatus (s : State) : Nat := if s.pairDegraded then stDEGRADED else stOK

/-! ## Fences (R855, R856, R860) -/

/-- The fence epoch of a block. -/
def State.epoch (s : State) (n : Nat) : Nat := storeGet 0 s.fences.epochs n

/-- A fence of block n (0xFF: the live update) of kind `kind`: every command that the block had accepted (`sel`) completes with `status` and the cause that `cause` gives for
it, the epoch rises, E_191 is raised, TMP_FAULT_LAST names the fault, and one FAULT record is appended (R855, R856, R860, R862, R863). `extra`: requests that the block has ended
besides. MASTER is the security core for TMP_BLK_RST. -/
def State.fence (s : State) (n kind status extra : Nat) (sel : Running → Bool) (cause : Running → Nat) : State :=
  let open_ := s.que.running.filter sel
  let s1 := open_.foldl (fun t r => t.complete r (if n = 0xFF then blkSYS else n) status (cause r) []) s
  let e := s.epoch n + 1
  let s2 : State := { s1 with fences := { s1.fences with epochs := storeSet 0 s1.fences.epochs n e } }
  let total := open_.length + extra
  let s3 := s2.set Reg.TMP_FENCE_ABORTED (min 0xFFFF (s.reg Reg.TMP_FENCE_ABORTED + total))
  let s4 := (s3.set Reg.TMP_FAULT_LAST_KIND kind).set Reg.TMP_FAULT_LAST_BLOCK n
  (s4.raise 191).journalNotice blkTMP 0x0061
    (leBytes 1 kind ++ leBytes 1 n ++ leBytes 1 (ofBool (kind == 6 && n != 0xFF)) ++ leBytes 1 status ++ leBytes 4 0 ++ leBytes 2 total ++
      leBytes 2 (s.reg Reg.TMP_FENCE_DISCARDED) ++ leBytes 4 e)

/-! ## Ranges of a command (R543, R873) -/

/-- First and last address of the shared partition plus one. -/
def sharedLo : Nat := 0x10080000
def sharedHi : Nat := 0x10200000

/-- Whether a range lies wholly inside the shared partition. -/
def inShared (a n : Nat) : Bool := decide (sharedLo ≤ a) && decide (a + n ≤ sharedHi)

/-- Whether a command's range lies where its issuer may reach (R543, R873): in the shared partition and, for the host, outside the APP_FW load
range. -/
def State.rangeOk (s : State) (m a n : Nat) : Bool :=
  inShared a n && (m != 3 || s.inRecovery || decide (sharedLo + s.appFwBytes ≤ a) || n == 0)

end Sys2Proof.Machine
end

