-- ==== Sys2Proof/Machine/TsuOps.lean ====
section
/-! DEFINITION. Sealing, sending and opening Tsudon frames (R766 to R771). -/
namespace Sys2Proof.Machine

/-- CRC-32 of IEEE 802.3 over bytes (R768): reflected, polynomial 0x04C11DB7, initial value and final XOR all ones. -/
def crc32 (l : List Byte) : Nat :=
  let step (c : Nat) (b : Bool) : Nat := if xor (c % 2 == 1) b then (c / 2) ^^^ 0xEDB88320 else c / 2
  (foldNat (fun c b => (byteBits b).reverse.foldl step c) 0xFFFFFFFF l) ^^^ 0xFFFFFFFF

/-- The first 20 bytes of a frame (Table 16-3). -/
def frameHead (f : Frame) : List Byte :=
  leBytes 1 f.typ ++ leBytes 1 f.flags ++ leBytes 2 f.payload.length ++ leBytes 4 f.lseq ++ leBytes 4 f.ack ++ leBytes 8 f.txc

/-- The nonce of a frame (R767): DIR, three zero bytes, TXC. -/
def frameNonce (fromSecondary : Bool) (txc : Nat) : List Byte :=
  (if fromSecondary then 0x53 else 0x50) :: [0, 0, 0] ++ leBytes 8 txc

/-- A frame as sent: HELLO in clear, every other frame sealed under K_LINK, CRC last. -/
def sealFrame (kLink : List Byte) (fromSecondary : Bool) (f : Frame) : List Byte :=
  let h := frameHead f
  let body := if f.typ = 1 then h ++ f.payload
    else
      let c := gcmSeal kLink (frameNonce fromSecondary f.txc) h f.payload
      h ++ c.1 ++ c.2
  body ++ leBytes 4 (crc32 body)

/-- Why a received frame is not taken (R768). -/
inductive FrameError where
  | crc | tag
  deriving DecidableEq, Repr

/-- Open a received frame under K_LINK (R767, R768). -/
def openFrame (kLink : List Byte) (fromSecondary : Bool) (b : List Byte) : Except FrameError Frame :=
  let n := b.length
  let body := b.take (n - 4)
  if n < 24 ∨ crc32 body ≠ ofLe (b.drop (n - 4)) then .error .crc
  else
    let h := b.take 20
    let f : Frame := { typ := ofLe (slice b 0 1), flags := ofLe (slice b 1 1), lseq := ofLe (slice b 4 4), ack := ofLe (slice b 8 4),
                       txc := ofLe (slice b 12 8), payload := [] }
    if f.typ = 1 then .ok { f with payload := body.drop 20 }
    else
      let ct := (body.drop 20).take (body.length - 36)
      match gcmOpen kLink (frameNonce fromSecondary f.txc) h ct (body.drop (body.length - 16)) with
      | some p => .ok { f with payload := p }
      | none => .error .tag

/-! ## Lanes (R764, R765) -/

/-- A symbol of a lane before 8b/10b coding: a control symbol, or a byte. -/
inductive LineSymbol where
  | k28_5 | k27_7 | k29_7 | data (b : Byte)
  deriving DecidableEq, Repr

/-- The bytes of a frame that travel on each lane: byte 2i on lane 0, byte 2i + 1 on lane 1. -/
def splitLanes : List Byte → List Byte × List Byte
  | a :: b :: t => let r := splitLanes t; (a :: r.1, b :: r.2)
  | [a] => ([a], [])
  | [] => ([], [])

/-- The bytes of a frame from its lanes. -/
def joinLanes : List Byte → List Byte → List Byte
  | a :: x, b :: y => a :: b :: joinLanes x y
  | l, _ => l

/-- A lane with a frame: /K27.7/ before its bytes and /K29.7/ after them. -/
def framed (l : List Byte) : List LineSymbol := LineSymbol.k27_7 :: (l.map LineSymbol.data ++ [LineSymbol.k29_7])

/-- The two lanes of a frame; TYPE to CRC is an even number of bytes, so both delimiters fall in the same symbol period on both. -/
def lanesOf (frame : List Byte) : List LineSymbol × List LineSymbol := (framed (splitLanes frame).1, framed (splitLanes frame).2)

/-- The ordered set /K28.5/D16.2/ of a lane that has no frame to carry. -/
def idleSet : List LineSymbol := [LineSymbol.k28_5, LineSymbol.data 0x50]

/-- What stands on the two lanes: the frames handed to them, or the idle set. -/
def State.lanes (s : State) : List LineSymbol × List LineSymbol :=
  if s.tsu.sent.isEmpty then (idleSet, idleSet) else (s.tsu.sent.flatMap (fun f => (lanesOf f).1), s.tsu.sent.flatMap (fun f => (lanesOf f).2))

/-! ## Sending -/

/-- Send a frame that is not sequenced (R766). -/
def State.tsuSend (s : State) (typ : Nat) (payload : List Byte) : State :=
  let f : Frame := { typ := typ, flags := 0, lseq := 0, ack := s.tsu.lseqRx, txc := s.tsu.txc, payload := payload }
  { s with tsu := { s.tsu with txc := s.tsu.txc + 1, sent := s.tsu.sent ++ [sealFrame s.tsu.kLink s.tsu.secondary f] } }

/-- Send waiting sequenced frames while fewer than 64 are unacknowledged (R771): each takes the next LSEQ and TXC; at most `n`. -/
def State.tsuPump : Nat → State → State
  | 0, s => s
  | n + 1, s => match s.tsu.outbox with
    | [] => s
    | x :: rest =>
      if s.tsu.link ≠ .up ∨ 64 ≤ s.tsu.unacked.length then s
      else
        let t := s.tsu
        let f : Frame := { x with flags := x.flags ||| 1, lseq := t.lseqTx + 1, ack := t.lseqRx, txc := t.txc }
        let u := { t with outbox := rest, txc := t.txc + 1, lseqTx := t.lseqTx + 1, unacked := t.unacked ++ [f],
                          ackAt := if t.unacked.isEmpty then s.now else t.ackAt, sent := t.sent ++ [sealFrame t.kLink t.secondary f] }
        State.tsuPump n { s with tsu := u }

/-- Send a sequenced frame (R771): it waits while 64 are unacknowledged, and is held until it is acknowledged. A link that is not UP carries none. -/
def State.tsuSendSeq (s : State) (typ flags : Nat) (payload : List Byte) : State :=
  if s.tsu.link ≠ .up then s
  else
    let f : Frame := { typ := typ, flags := flags, lseq := 0, ack := 0, txc := 0, payload := payload }
    State.tsuPump 64 { s with tsu := { s.tsu with outbox := s.tsu.outbox ++ [f] } }

/-- Resend every unacknowledged frame from the oldest (R771): each takes a new TXC and the present ACK, and is counted. -/
def State.tsuResend (s : State) : State :=
  let one (u : State) (x : Frame) : State :=
    let t := u.tsu
    let f : Frame := { x with ack := t.lseqRx, txc := t.txc }
    let v := { t with txc := t.txc + 1, sent := t.sent ++ [sealFrame t.kLink t.secondary f], ackAt := u.now }
    State.bump { u with tsu := v } Reg.TSU_ERR_RETRY
  s.tsu.unacked.foldl one s

/-- A frame opened and found sound: its ACK takes effect, and the time of the last valid frame (R771, R786). -/
def State.tsuHeard (s : State) (f : Frame) : State :=
  let keep := s.tsu.unacked.filter (fun x => decide (f.ack < x.lseq))
  let t := { s.tsu with unacked := keep, ackAt := if keep.length < s.tsu.unacked.length then s.now else s.tsu.ackAt, lastRx := s.now }
  State.tsuPump 64 { s with tsu := t }

/-- The acknowledgement of a mirror item (Table 16-4). -/
def State.sendMack (s : State) (mseq status : Nat) : State := s.tsuSendSeq 0x13 0 (leBytes 4 mseq ++ leBytes 1 status ++ [0, 0, 0])

end Sys2Proof.Machine
end

