-- ==== Sys2Proof/Machine/LocketOps.lean ====
section
/-! DEFINITION. The Locket's operations (chapter 12): shadow, regions and grants, backlog, acceptance, commits, reclaim, mount,
rings. Every block that writes the Locket does so through these. -/
namespace Sys2Proof.Machine

/-! ## Shadow -/

/-- Bus address of logical address 0 (R554). -/
def lktBase : Nat := 0x30000000

/-- The value of group g in the shadow. -/
def State.group (s : State) (g : Nat) : Nat := s.word (lktBase + 8 * g) 8

/-- Logical bytes. -/
def State.lktBytes (s : State) (a n : Nat) : List Byte := s.bytes (lktBase + a) n

/-- A little-endian number at a logical address. -/
def State.lktWord (s : State) (a n : Nat) : Nat := ofLe (s.lktBytes a n)

/-- Whether group g is DAMAGED (R588). -/
def State.damagedGroup (s : State) (g : Nat) : Bool := s.lkt.damaged.contains g

/-- Whether any of `n` logical bytes from `a` lies in a DAMAGED group. -/
def State.damagedRange (s : State) (a n : Nat) : Bool := s.lkt.damaged.any (fun g => decide (8 * g < a + n) && decide (a < 8 * g + 8))

/-- Store a group in the shadow. -/
def State.setGroup (s : State) (g d : Nat) : State := s.setBytes (lktBase + 8 * g) (leBytes 8 d)

/-- A ring by number. -/
def State.ringOf (s : State) (r : Nat) : Option Ring := s.lkt.rings.find? (fun x => x.num == r)

/-- The newest accepted value of a ring; 0 where none is recorded. -/
def State.ringValue (s : State) (r : Nat) : Nat := match s.ringOf r with | some x => x.newest | none => 0

/-- Whether the ring table's group that holds ring r's entry is DAMAGED (R871; layout: assumption 21). -/
def State.ringHurt (s : State) (r : Nat) : Bool := s.damagedGroup ((0xC80 + 2 * r) / 8)

/-- Replace a ring. -/
def State.setRingOf (s : State) (x : Ring) : State :=
  let l := s.lkt.rings.map (fun y => if y.num == x.num then x else y)
  { s with lkt := { s.lkt with rings := l } }

/-! ## Regions and grants (R559 to R566) -/

/-- First logical byte of region k (Table 12-2 for 0, 1 and 7). -/
def State.regionLo (s : State) (k : Nat) : Nat :=
  if k = 0 then 0 else if k = 1 then 0x2000 else if k = 7 then 0x6000 else 64 * s.regI Reg.LKT_RGN_BASE k

/-- One past the last logical byte of region k. -/
def State.regionHi (s : State) (k : Nat) : Nat :=
  if k = 0 then 0x1000 else if k = 1 then 0x6000 else if k = 7 then 0x8000
  else 64 * (s.regI Reg.LKT_RGN_BASE k + s.regI Reg.LKT_RGN_PAGES k)

/-- The enabled region that holds logical address a (R559). -/
def State.regionAt (s : State) (a : Nat) : Option Nat :=
  (List.range 8).find? (fun k => (k == 0 || s.regI Reg.LKT_RGN_EN k == 1) && decide (s.regionLo k ≤ a) && decide (a < s.regionHi k) &&
    (k < 2 || k == 7 || (decide (0x1000 ≤ s.regionLo k) && decide (s.regionHi k ≤ 0x2000))))

/-- Whether a master holds a grant. -/
def State.hasGrant (s : State) (m k : Nat) (w : Bool) : Bool :=
  s.lkt.grants.any (fun g => g.master == m && g.region == k && g.write == w)

/-- R871: damage of the region table closes regions 2 to 7. -/
def State.regionTableDamaged (s : State) : Bool := s.damagedRange 0xB40 0x140

/-- The tag key page, which no master reaches (R682). -/
def tagKeyPage : Nat := 0x7FC0

/-- Whether master m may read logical byte a (R559, R561, R562, Table 01-4): the HF session Field Memory alone, in secured state; the partner and the queue engine nothing. -/
def State.mayReadLkt (s : State) (m a : Nat) : Bool :=
  if tagKeyPage ≤ a then false else
  if m = 7 then !s.jtagLocked && (s.regionAt a).isSome else
  if m = 5 then decide (0x6000 ≤ a) && s.hft.st == .secured else
  if 3 < m then false else
  match s.regionAt a with
  | none => false
  | some 0 => false
  | some k => (decide (k < 2) || !s.regionTableDamaged) && (s.regI Reg.LKT_RGN_READ_OPEN k == 1 || s.hasGrant m k false)

/-- Whether master m may write logical byte a (R561, R562, Table 01-4); WP_N apart. -/
def State.mayWriteLkt (s : State) (m a : Nat) : Bool :=
  if tagKeyPage ≤ a then false else
  if m = 5 then decide (0x6000 ≤ a) && s.hft.st == .secured else
  if 3 < m then false else
  match s.regionAt a with
  | none => false
  | some k => decide (2 ≤ k) && !s.regionTableDamaged && s.regI Reg.LKT_RGN_DEVICE k == 0 &&
      (s.regI Reg.LKT_RGN_WRITE_OPEN k == 1 || s.hasGrant m k true)

/-! ## Backlog (R570, R573, R596) -/

/-- Whether the page of group g is written as one batch (Table 12-3, R570). -/
def State.pageAtomic (s : State) (g : Nat) : Bool :=
  let a := 8 * g
  if tagKeyPage ≤ a then true
  else if a < 0x1000 then
    decide (a < 0x200) || (decide (0x6C0 ≤ a) && decide (a < 0x700)) || (decide (0xB00 ≤ a) && decide (a < 0xB40)) ||
      (decide (0xC80 ≤ a) && decide (a < 0xF80))
  else match s.regionAt a with
    | some k => s.regI Reg.LKT_RGN_PAGE_ATOMIC k == 1
    | none => false

/-- The backlog entry that a write of an item needs. -/
def State.entryOf (s : State) : LktItem → Backlog
  | .group g _ => if s.pageAtomic g then .page (g / 8) else .group g
  | .ring r _ => .ring r

/-- How many groups an entry counts as. -/
def Backlog.weight : Backlog → Nat
  | .page _ => 8
  | .index _ => 0
  | _ => 1

/-- Groups in the backlog (LKT_STAT.BACKLOG). -/
def backlogCount (l : List Backlog) : Nat := (l.map Backlog.weight).sum

/-- The entries that a new write may join: the oldest one no longer, once its commit has begun. -/
def Lkt.joinable (l : Lkt) : List Backlog := if 0 < l.done then l.backlog.drop 1 else l.backlog

/-- Add an entry unless it waits already (R570). -/
def Lkt.addEntry (l : Lkt) (e : Backlog) : Lkt := if l.joinable.contains e then l else { l with backlog := l.backlog ++ [e] }

/-- The backlog after a write of items. -/
def State.lktAfter (s : State) (items : List LktItem) : Lkt := items.foldl (fun l i => l.addEntry (s.entryOf i)) s.lkt

/-- Whether the backlog has room for a write (R573). -/
def State.lktRoom (s : State) (items : List LktItem) : Bool := decide (backlogCount (s.lktAfter items).backlog ≤ 512)

/-- Put one item into the shadow. -/
def State.putItem (s : State) : LktItem → State
  | .group g d => s.setGroup g d
  | .ring r v => match s.ringOf r with
    | some x => s.setRingOf { x with newest := v }
    | none => s

/-- The acceptance of a write clears DAMAGED of what it wrote (R588, R594). -/
def State.healed (s : State) (items : List LktItem) : State :=
  items.foldl (fun t i => match i with
    | .group g _ => { t with lkt := { t.lkt with damaged := t.lkt.damaged.filter (· != g) } }
    | .ring r _ => match t.ringOf r with | some x => t.setRingOf { x with damaged := false } | none => t) s

/-- Whether a write updates a ring of which a page failed its erase: it ends with NV_FAIL (LKT_RING_INFO.WORN). -/
def State.ringWorn (s : State) (items : List LktItem) : Bool :=
  items.any (fun i => match i with | .ring r _ => (match s.ringOf r with | some x => x.worn | none => false) | .group _ _ => false)

/-- Put a write into the shadow and the backlog in one step (R568, R570). -/
def State.lktPlace (s : State) (items : List LktItem) : State :=
  let l := s.lktAfter items
  items.foldl State.putItem { s with lkt := l }

/-! ## Mirroring of Locket writes (Table 16-5) -/

/-- Groups of the anchor copies that hold the command counter, which each device keeps for itself (R462). -/
def anchorCtrGroup (g : Nat) : Bool := g == 0x100 / 8 || g == 0x1C0 / 8

/-- Whether an item is mirrored: regions 1 to 6 and Field Memory, the device areas and rings that Table 16-5 lists, with the selector of the anchor
copies. -/
def State.mirroredItem (s : State) : LktItem → Bool
  | .ring r _ => r == 0 || r == 1 || (decide (8 ≤ r) && r != s.reg Reg.TSU_CFG_PEER_RING)
  | .group g _ =>
    let a := 8 * g
    decide (0x1000 ≤ a ∧ a < tagKeyPage) || a == 0x40 || (decide (0x80 ≤ a) && decide (a < 0x700) && !anchorCtrGroup g) ||
      (decide (0xB40 ≤ a) && decide (a < 0xC80))

/-- Whether this device sends an item now: the ACTIVE every mirrored one, a STANDBY its own ring 0 (Table 16-5). -/
def State.sendsItem (s : State) (i : LktItem) : Bool :=
  s.mirroredItem i && (s.tsu.role == .active || (match i with | .ring 0 _ => true | _ => false))

/-- Whether the partner's backlog has room for a write that is mirrored (R783). -/
def State.partnerRoom (s : State) (items : List LktItem) : Bool :=
  !s.linkMirrors || !items.any s.sendsItem || decide (items.length ≤ s.tsu.hb.backlogFree)

/-- An item as MIRROR_LKT carries it (Table 16-4): GROUP, FLAGS ([0] PAGE, [1] LAST, [2] PEER), VALUE. -/
def State.mirrorItemBytes (s : State) : LktItem → List Byte
  | .ring r v => leBytes 2 (0x8000 + r) ++ leBytes 2 (if r = 0 then 4 else 0) ++ leBytes 8 v
  | .group g d => leBytes 2 g ++ leBytes 2 (if s.pageAtomic g then (if g % 8 = 7 then 3 else 1) else 0) ++ leBytes 8 d

/-- Enter a mirror item: its entry on an outgoing ring (R42, R781), its deadline (R784), and its frame. -/
def State.mirror (s : State) (q typ flags wait : Nat) (body : List Byte) : State :=
  let m := s.tsu.mseqNext
  let t := { s.tsu with mseqNext := m + 1, items := s.tsu.items ++ [{ mseq := m, ring := q, deadline := s.now + wait }] }
  (State.emit { s with tsu := t } q blkTSU (leBytes 4 m ++ body.take 44)).tsuSendSeq typ flags (leBytes 4 m ++ body)

/-- Mirror a Locket write, when this device mirrors; answers the MSEQ that acceptance waits for. -/
def State.mirrorLkt (s : State) (items : List LktItem) : Option Nat × State :=
  let l := items.filter s.sendsItem
  if !s.linkMirrors || l.isEmpty then (none, s)
  else
    let body := leBytes 2 l.length ++ [0, 0] ++ l.flatMap s.mirrorItemBytes
    let h := { s.tsu.hb with backlogFree := s.tsu.hb.backlogFree - l.length }
    (if s.pairDegraded then none else some s.tsu.mseqNext, State.mirror { s with tsu := { s.tsu with hb := h } } 32 0x10 0 200000 body)

/-! ## Submitting a write (R571 to R573, R584, R603) -/

/-- The items of a writer as they are placed now: zeroize marks join those that stand (R491). -/
def State.itemsNow (s : State) (w : Writer) (items : List LktItem) : List LktItem :=
  if w = .zeroMark then items.map (fun i => match i with | .group g d => .group g (s.group g ||| d) | .ring r v => .ring r v) else items

/-- What a write replaces, where a reset before its acceptance takes it back: the selectors of the credential set and of the vault (R472, R490). -/
def State.undoOf (s : State) (w : Writer) (items : List LktItem) : List LktItem :=
  if w = .selector ∨ w = .vaultSelector then items.map (fun i => match i with | .group g _ => .group g (s.group g) | .ring r v => .ring r v) else []

/-- The groups of the ZERO mask in the vault selector page (R488). -/
def zeroGroup (g : Nat) : Bool := decide (0x1EC ≤ g ∧ g < 0x1F0)

/-- Selector writes that are placed and not accepted are taken back, of the writers that satisfy a test; zeroize marks made since stay. -/
def State.undoWrites (s : State) (p : Writer → Bool) : State :=
  let l := (s.lkt.writes.filter (fun x => x.placed && x.state == .waiting && p x.writer)).reverse.flatMap LktWrite.undo
  s.lktPlace (l.map (fun i => match i with | .group g d => .group g (if zeroGroup g then s.group g ||| d else d) | .ring r v => .ring r v))

/-- Hand a write to the Locket. It is refused at once under WP_N or by a worn store; else it is placed, or waits for room. -/
def State.lktSubmit (s : State) (w : Writer) (items : List LktItem) : State :=
  if s.pins.wpLow && w != .zeroMark then
    let x : LktWrite := { writer := w, items := items, placed := false, at_ := s.now, state := .refused 5 }
    let s1 := (s.raise 167).bump Reg.LKT_ERR_REFUSED_WP
    { s1 with lkt := { s1.lkt with writes := s1.lkt.writes ++ [x] } }
  else if s.lkt.worn || s.ringWorn items then
    let x : LktWrite := { writer := w, items := items, placed := false, at_ := s.now, state := .refused 6 }
    { s with lkt := { s.lkt with writes := s.lkt.writes ++ [x] } }
  else if s.lktRoom items && s.partnerRoom items then
    let m := (s.lktPlace (s.itemsNow w items)).mirrorLkt items
    let x : LktWrite := { writer := w, items := items, placed := true, at_ := s.now, mseq := m.1, undo := s.undoOf w items }
    { m.2 with lkt := { m.2.lkt with writes := m.2.lkt.writes ++ [x] } }
  else
    let x : LktWrite := { writer := w, items := items, placed := false, at_ := s.now }
    let s1 := (s.raise 160).bump Reg.LKT_ERR_STALLS
    { s1 with lkt := { s1.lkt with writes := s1.lkt.writes ++ [x] } }

/-- Whether an item still waits in the backlog. -/
def State.uncommitted (s : State) (i : LktItem) : Bool := s.lkt.backlog.contains (s.entryOf i)

/-- Whether a mirror item has been acknowledged or given up. -/
def State.mirrorDone (s : State) (m : Option Nat) : Bool :=
  match m with
  | none => true
  | some n => !(s.tsu.items.any (fun x => x.mseq == n))

/-- What becomes of a write that waits: placed when room has come; accepted once it is placed, hold-up is ready or its records are committed (R571,
R572), and its mirror item is settled (R781). A write that still waits for room when WP_N goes low is refused, and
one that is placed is not accepted until WP_N is high again (R69). -/
def State.settleWrite (s : State) (x : LktWrite) : State × LktWrite :=
  if x.state != .waiting then (s, x)
  else if !x.placed then
    if s.pins.wpLow && x.writer != .zeroMark then ((s.raise 167).bump Reg.LKT_ERR_REFUSED_WP, { x with state := .refused 5 })
    else if s.lktRoom x.items && s.partnerRoom x.items then
      let m := (s.lktPlace (s.itemsNow x.writer x.items)).mirrorLkt x.items
      (m.2, { x with placed := true, mseq := m.1, undo := s.undoOf x.writer x.items })
    else (s, x)
  else if s.pins.wpLow && x.writer != .zeroMark then (s, x)
  else if (s.pins.holdupReady || !x.items.any s.uncommitted) && s.mirrorDone x.mseq then
    (s.healed x.items, { x with state := if s.pairDegraded || x.lone then .degraded else .accepted })
  else (s, x)

/-- The settled write of a writer, taken off the list. -/
def State.takeSettled (s : State) (w : Writer) : Option (LktWrite × State) :=
  match s.lkt.writes.find? (fun x => x.writer == w && x.state != .waiting) with
  | none => none
  | some x => some (x, { s with lkt := { s.lkt with writes := s.lkt.writes.erase x } })

/-- Bring a writer's oldest write as far as it goes now: settled and taken off the list, or still waiting. -/
def State.settle (s : State) (w : Writer) : Option LktWrite × State :=
  match s.lkt.writes.find? (fun x => x.writer == w) with
  | none => (none, s)
  | some x =>
    let p := s.settleWrite x
    let l := if p.2.state == .waiting then p.1.lkt.writes.map (fun y => if y == x then p.2 else y) else p.1.lkt.writes.erase x
    (if p.2.state == .waiting then none else some p.2, { p.1 with lkt := { p.1.lkt with writes := l } })

/-- Whether a settled state is an acceptance. -/
def Settled.ok : Settled → Bool
  | .accepted => true
  | .degraded => true
  | _ => false

/-! ## Flash streams (R577 to R584) -/

/-- Slots of a stream sector after its HEADER (64 KiB of 16-byte slots). -/
def sectorSlots : Nat := 4095

/-- Append a record at a stream's head; a full head sector passes the head to the next erased sector. -/
def Stream.append (st : Stream) (r : StreamRec) : Stream :=
  match st.sectors.reverse with
  | [] => { st with sectors := [{ slots := [r] }] }
  | h :: rest =>
    if h.slots.length < sectorSlots then { st with sectors := rest.reverse ++ [{ h with slots := h.slots ++ [r] }] }
    else match st.spare with
      | n :: more => { st with sectors := st.sectors ++ [{ n with slots := [r] }], spare := more }
      | [] => { st with sectors := st.sectors ++ [{ st.reserve with slots := [r] }], reserve := { retired := true } }

/-- All slots of a stream, oldest first, each with its sector's erase count. -/
def Stream.recs (st : Stream) : List (StreamRec × Nat) := st.sectors.flatMap (fun x => x.slots.map (fun r => (r, x.erases)))

/-- Erased slots that ordinary commits may use, outside the reserve (R583). -/
def Stream.free (st : Stream) : Nat :=
  (match st.sectors.getLast? with | some h => sectorSlots - h.slots.length | none => 0) + sectorSlots * st.spare.length

/-- Usable sectors of a stream. -/
def Stream.usable (st : Stream) : Nat :=
  (st.sectors.filter (fun x => !x.retired)).length + (st.spare.filter (fun x => !x.retired)).length + (if st.reserve.retired then 0 else 1)

/-- The highest SEQ of a valid record of group g. -/
def bestSeq (l : List (StreamRec × Nat)) (g : Nat) : Nat :=
  l.foldl (fun m x => if x.1.valid && x.1.index == g && decide (x.1.kind < 2) then max m x.1.seq else m) 0

/-- R583: the oldest sector's current records move to the reserve with their SEQ, the sector is erased and becomes the reserve; a sector that
fails erase verification is retired (R584). -/
def Stream.reclaim (st : Stream) (eraseOk : Bool) : Stream :=
  match st.sectors with
  | [] => st
  | o :: rest =>
    let all := st.recs
    let keep := o.slots.filter (fun r => r.valid && decide (r.kind < 2) && r.seq == bestSeq all r.index)
    let erased : Sector := if eraseOk then { erases := o.erases + 1 } else { erases := o.erases + 1, retired := true }
    { st with sectors := rest ++ [{ st.reserve with slots := keep }], reserve := erased }

/-- Whether a stream is being reclaimed (R583): fewer than 512 erased slots remain; not while WP_N is low (R589), nor on hold-up. -/
def State.reclaims (s : State) (st : Stream) : Bool := decide (st.free < 512) && !s.pins.wpLow && s.pins.vsup

/-- Highest erase count of any sector of a stream. -/
def Stream.maxErase (st : Stream) : Nat := ((st.sectors ++ st.spare ++ [st.reserve]).map Sector.erases).foldl max 0

/-- Retired sectors of a stream. -/
def Stream.retiredCount (st : Stream) : Nat := ((st.sectors ++ st.spare ++ [st.reserve]).filter Sector.retired).length

/-- Whether a group lies in the field streams (Table 12-4). -/
def fieldGroup (g : Nat) : Bool := decide (0xC00 ≤ g)

/-! ## Commits (R574, R581, R593, R868) -/

/-- The values that the oldest entry commits, captured when its commit begins. -/
def State.capture (s : State) : Backlog → List (Nat × Nat)
  | .group g => [(g, s.group g)]
  | .page p => (List.range 8).map (fun i => (8 * p + i, s.group (8 * p + i)))
  | .ring r => [(r, s.ringValue r)]
  | .index _ => [(0xFFF, s.lkt.lastSeq)]

/-- The record of step `i` of an entry: step 2k programs stream A for value k, step 2k + 1 stream B. -/
def recordOf (e : Backlog) (cur : List (Nat × Nat)) (seq i : Nat) (ok : Bool) : StreamRec :=
  let k := i / 2
  let gd := cur.getD k (0, 0)
  let kind := match e with | .page _ => 1 | .index _ => 2 | _ => 0
  { index := gd.1, kind := kind, last := kind == 1 && k == 7, seq := seq, data := gd.2, ecc := eccCheck gd.2, valid := ok }

/-- A ring's slot in zone A (`b` false) or B (R593); the page after a newly entered head page is erased. Where that erase is due, a step that fails is the erase, and the ring is worn
(DESIGN CHOICE, assumption 116). -/
def Ring.program (x : Ring) (b : Bool) (v : Nat) (ok : Bool) : Ring :=
  if !ok && x.head % 128 == 0 then { x with worn := true } else
  let n := 128 * x.pages
  let slot : RingSlot := { pos := x.head, value := v, check := eccCheck v, num := x.num, valid := ok }
  let next := (x.head / 128 + 1) % x.pages
  let clean (l : List RingSlot) := if x.head % 128 = 0 then l.filter (fun y => y.pos / 128 != next) else l
  if !b then { x with a := slot :: clean x.a }
  else
    let h := if x.head + 1 = n then 0 else x.head + 1
    { x with b := slot :: clean x.b, head := h, passes := if h = 0 then x.passes + 1 else x.passes }

/-- Whether programming a ring's next slot erases a page for the 90,001st time (R593, Table 12-12): the head enters a page in the pass after the 90,000th. -/
def Ring.wornHigh (x : Ring) (i : Nat) : Bool := i % 2 == 0 && x.head % 128 == 0 && x.passes == 90000

/-- Program one record of the oldest entry to its stream or zone. -/
def State.programRecord (s : State) (e : Backlog) (cur : List (Nat × Nat)) (i : Nat) (ok : Bool) : State :=
  match e with
  | .ring r => match s.ringOf r with
    | none => s
    | some x =>
      let t := s.setRingOf (x.program (i % 2 == 1) (cur.getD 0 (0, 0)).2 ok)
      if x.wornHigh i then t.raise 164 else t
  | _ =>
    let r := recordOf e cur s.lkt.nextSeq i ok
    let f := fieldGroup r.index && r.index != 0xFFF
    let l := s.lkt
    if f then
      if i % 2 = 0 then { s with lkt := { l with fieldA := l.fieldA.append r } } else { s with lkt := { l with fieldB := l.fieldB.append r } }
    else
      if i % 2 = 0 then { s with lkt := { l with mainA := l.mainA.append r } } else { s with lkt := { l with mainB := l.mainB.append r } }

/-- R581: one record of the oldest entry has been programmed; a record that failed verification is written again. When the last record is
verified the entry is committed and leaves the backlog. Answers the entry that has been committed, if one has. -/
def State.commitStep (s : State) (ok : Bool) : State × Option Backlog :=
  match s.lkt.backlog with
  | [] => (s, none)
  | e :: rest =>
    let cur := if s.lkt.done = 0 then s.capture e else s.lkt.current
    let s1 := s.programRecord e cur s.lkt.done ok
    if !ok then ({ s1 with lkt := { s1.lkt with current := cur } }, none)
    else if s.lkt.done + 1 < 2 * cur.length then
      ({ s1 with lkt := { s1.lkt with done := s.lkt.done + 1, current := cur } }, none)
    else
      let seq := match e with | .ring _ => s1.lkt.nextSeq | _ => s1.lkt.nextSeq + 1
      ({ s1 with lkt := { s1.lkt with done := 0, current := [], backlog := rest, nextSeq := seq, lastSeq := seq - 1 } }, some e)

/-- Complete flushes whose INDEX record is committed, once no Locket mirror item waits (R785, R868). -/
def State.finishFlushes (s : State) : State :=
  if s.tsu.items.any (fun x => x.ring == 32) then s
  else
    let done := s.lkt.flushed
    let st := if s.lkt.flushLone then stDEGRADED else s.acceptStatus
    let s1 : State := if done.isEmpty then s else { s with lkt := { s.lkt with flushed := [], flushLone := false } }
    done.foldl (fun t c => match t.runningSeq 6 c with
      | some r => t.completeAfter r blkLKT st (if st = stDEGRADED then 8 else 0) 0 []
      | none => t) s1

/-- An entry has been committed: that of an INDEX record closes its flush (R868). -/
def State.entryCommitted (s : State) : Backlog → State
  | .index c => State.finishFlushes { s with lkt := { s.lkt with flushed := s.lkt.flushed ++ [c] } }
  | _ => s

/-- Commit the oldest entry whole: at most `n` records. -/
def State.commitOldest : Nat → State → State
  | 0, s => s
  | n + 1, s => match s.commitStep true with
    | (s1, some e) => s1.entryCommitted e
    | (s1, none) => State.commitOldest n s1

/-- Make room for a write by letting the commit engine finish its oldest entries, at most `n` (the wait of R573, in no time of the
model). -/
def State.makeRoom : Nat → State → List LktItem → State
  | 0, s, _ => s
  | n + 1, s, items => if s.lktRoom items then s else State.makeRoom n (State.commitOldest 16 s) items

/-- Commit until the items of a write are in flash, at most `n` entries. -/
def State.commitItems : Nat → State → List LktItem → State
  | 0, s, _ => s
  | n + 1, s, items => if items.any s.uncommitted then State.commitItems n (State.commitOldest 16 s) items else s

/-- Whether the Locket refuses every new write (R69, R584). -/
def State.lktRefuses (s : State) : Bool := s.pins.wpLow || s.lkt.worn

/-- An internal write whose acceptance the requesting block waits for inside its own step (ceilings, nonce reservations, seed
records): false when the Locket refuses it. Without hold-up it is accepted once its records are in flash (R572). -/
def State.lktNow (s : State) (items : List LktItem) : Bool × State :=
  if s.pins.wpLow then (false, (s.raise 167).bump Reg.LKT_ERR_REFUSED_WP)
  else if s.lkt.worn || s.ringWorn items then (false, s)
  else
    let s1 := if s.lktRoom items then s else ((s.raise 160).bump Reg.LKT_ERR_STALLS).makeRoom 8 items
    let s2 := (((s1.lktPlace items).mirrorLkt items).2).healed items
    (true, if s.pins.holdupReady then s2 else s2.commitItems s2.lkt.backlog.length items)

/-! ## Byte writes -/

/-- The items that set logical bytes: each group touched, with its new value. -/
def State.byteItems (s : State) (l : List (Nat × Byte)) : List LktItem :=
  let gs := (l.map (fun p => p.1 / 8)).eraseDups
  gs.map (fun g =>
    let old := s.lktBytes (8 * g) 8
    let new := l.foldl (fun (b : List Byte) p => if p.1 / 8 = g then b.set (p.1 % 8) p.2 else b) old
    .group g (ofLe new))

/-- The logical bytes of a page write (R569): byte i goes to offset (a + i) mod 64 of the start address's page; later bytes win. -/
def pageWrite (a : Nat) (l : List Byte) : List (Nat × Byte) :=
  (List.range l.length).map (fun i => (a / 64 * 64 + (a + i) % 64, l.getD i 0))

/-- The logical bytes of a run of bytes from an address. -/
def runWrite (a : Nat) (l : List Byte) : List (Nat × Byte) := (List.range l.length).map (fun i => (a + i, l.getD i 0))

/-- The items that write a run of bytes. -/
def State.runItems (s : State) (a : Nat) (l : List Byte) : List LktItem := s.byteItems (runWrite a l)

/-! ## Two-copy areas (R558) -/

/-- Number of the selector group of a two-copy area: anchor 0, overlay 1. -/
def selectorGroup (area : Nat) : Nat := 0x0040 / 8 + area

/-- Logical start of the copy of an area in force. -/
def State.areaStart (s : State) (area : Nat) : Nat :=
  let c := s.group (selectorGroup area) % 2
  if area = 0 then 0x80 + 192 * c else 0xD00 + 256 * c

/-- Whether the selector or the copy of an area is DAMAGED (R871). -/
def State.areaDamaged (s : State) (area : Nat) : Bool :=
  s.damagedGroup (selectorGroup area) || s.damagedRange (s.areaStart area) (if area = 0 then 192 else 256)

/-- The items that write a complete new copy of an area and switch to it. -/
def State.areaItems (s : State) (area : Nat) (l : List Byte) : List LktItem :=
  let c := s.group (selectorGroup area) % 2
  let start := if area = 0 then 0x80 + 192 * (1 - c) else 0xD00 + 256 * (1 - c)
  s.runItems start (fit (if area = 0 then 192 else 256) l) ++ [.group (selectorGroup area) (1 - c)]

/-! ## The region table area (R567; layout: assumption 21): descriptors of 8 bytes, each a LKT_RGN register and 4 zero bytes, then per region the read hash and the write
hash -/

/-- Whether the area is empty; a DAMAGED one never is (R871). -/
def State.regionTableEmpty (s : State) : Bool := !s.regionTableDamaged && (s.lktBytes 0xB40 0x140).all (· == 0)

/-- Load the registers of region k from the area. -/
def State.loadRegion (s : State) (k : Nat) : State :=
  let w := s.lktWord (0xB40 + 8 * k) 4
  let put (t : State) (f : Field) : State := t.setI f k (bits w f.lo f.width)
  let s1 := [Reg.LKT_RGN_BASE, Reg.LKT_RGN_PAGES, Reg.LKT_RGN_PAGE_ATOMIC, Reg.LKT_RGN_DEVICE, Reg.LKT_RGN_READ_OPEN, Reg.LKT_RGN_WRITE_OPEN, Reg.LKT_RGN_EN].foldl put s
  (List.range 4).foldl (fun t i => (t.setI Reg.LKT_RPH_HASH (4 * k + i) (t.lktWord (0xB80 + 32 * k + 4 * i) 4)).setI Reg.LKT_WPH_HASH (4 * k + i)
    (t.lktWord (0xB90 + 32 * k + 4 * i) 4)) s1

/-- Mount loads the region registers from the area, when it holds any (R567). -/
def State.loadRegionTable (s : State) : State := if s.regionTableEmpty then s else (List.range 8).foldl State.loadRegion s

/-! ## Passwords (R563 to R566) -/

/-- The stored hash of a password (R563). -/
def pwHash (devnum region : Nat) (write : Bool) (pw : List Byte) : List Byte :=
  (sha256 ([0x4C, 0x4B, 0x54] ++ beBytes 8 devnum ++ [BitVec.ofNat 8 region, BitVec.ofNat 8 (ofBool write)] ++ fit 16 pw)).take 16

/-- The hash that the registers hold for a region. -/
def State.storedHash (s : State) (k : Nat) (write : Bool) : List Byte :=
  (List.range 4).flatMap (fun w => leBytes 4 (s.regI (if write then Reg.LKT_WPH_HASH else Reg.LKT_RPH_HASH) (4 * k + w)))

/-- Whether unlocks by a master fail for now (R566). -/
def State.unlockRefused (s : State) (m : Nat) : Bool := s.lkt.refusing.any (fun p => p.1 == m && !s.since p.2 60000000)

/-- A failed unlock is counted and journaled (kind 4, R566); CAUSE is that of the completion (Table 12-10). -/
def State.unlockCounted (s : State) (m : Nat) : State :=
  ((s.raise 163).bump Reg.LKT_ERR_UNLOCK_FAIL).journal blkLKT 0x0030 (noRef ++ leBytes 2 0xFFFF ++ leBytes 1 4 ++ leBytes 1 4 ++ leBytes 1 m)

/-- An unlock whose password does not match: after 3 within 60 s refusing begins (R566). One that is refused meanwhile does not prolong it (assumption 103). -/
def State.unlockFail (s : State) (m : Nat) : State :=
  let s1 := s.unlockCounted m
  let recent := (m, s.now) :: s1.lkt.unlockFails.filter (fun p => !s.since p.2 60000000)
  let l := { s1.lkt with unlockFails := recent }
  if 3 ≤ (recent.filter (fun p => p.1 == m)).length then
    { s1 with lkt := { l with refusing := (m, s.now) :: l.refusing.filter (fun p => p.1 != m) } }
  else { s1 with lkt := l }

/-- The blocks of SHA-256 for a message of n bytes (R527). -/
def hashBlocks (n : Nat) : Nat := (n + 72) / 64

/-- Messages of these lengths have been hashed for the device's own users, in no time of the model (assumption 115). -/
def State.hashed (s : State) (l : List Nat) : State := s.set Reg.HSH_BLOCKS_BLOCKS (s.reg Reg.HSH_BLOCKS_BLOCKS + (l.map hashBlocks).sum)

/-- An unlock by master m (R564, R566): the state and the cause of Table 12-10 (0: granted). -/
def State.unlock (s : State) (m k : Nat) (w : Bool) (pw : List Byte) : State × Nat :=
  if s.unlockRefused m then (s.unlockCounted m, 3)
  else
    let h := s.storedHash k w
    let t := s.hashed [29]
    if h.all (· == 0) || pwHash s.devnum k w pw != h then (t.unlockFail m, 4)
    else
      let g : Grant := { master := m, region := k, write := w, since := s.now }
      ({ t with lkt := { t.lkt with grants := g :: t.lkt.grants.filter (fun x => !(x.master == m && x.region == k && x.write == w)) } }, 0)

/-- End grants that satisfy a test. -/
def State.dropGrants (s : State) (p : Grant → Bool) : State :=
  { s with lkt := { s.lkt with grants := s.lkt.grants.filter (fun g => !p g) } }

/-! ## Mount (R585 to R589, R594) -/

/-- Whether a record takes part in a rebuild: valid, a GROUP, or a PAGE whose batch has its LAST record in the same stream (R586). -/
def takesPart (l : List (StreamRec × Nat)) (r : StreamRec) : Bool :=
  r.valid && (r.kind == 0 || (r.kind == 1 && l.any (fun x => x.1.valid && x.1.kind == 1 && x.1.last && x.1.seq == r.seq)))

/-- The record of group g with the highest SEQ that takes part, newest slot last. -/
def newestOf (l : List (StreamRec × Nat)) (g : Nat) : Option (StreamRec × Nat) :=
  l.foldl (fun b x => if x.1.index == g && takesPart l x.1 then
    (match b with | some y => if y.1.seq ≤ x.1.seq then some x else b | none => some x) else b) none

/-- Whether a slot whose RCHK fails is damaged (R869): not the last slot of its stream, and no later valid record of its INDEX and SEQ. -/
def damagedSlots : List (StreamRec × Nat) → List StreamRec
  | [] => []
  | [_] => []
  | x :: t =>
    if !x.1.valid && !t.any (fun y => y.1.valid && y.1.index == x.1.index && y.1.seq == x.1.seq) then x.1 :: damagedSlots t
    else damagedSlots t

/-- The outcome of a rebuild for one group. -/
structure GroupMount where
  value : Nat
  damaged : Bool
  tie : Option (Nat × Nat)
  repair : Bool
  corrected : Nat := 0
  deriving DecidableEq, Repr

/-- Whether reading a record corrects a single error (Table 12-1). -/
def fixes (r : StreamRec) : Nat := match eccDecode r.data r.ecc with | some d => ofBool d.2 | none => 0

/-- The rebuild of one group from its two streams (R586 to R588, R869). -/
def mountGroup (a b : List (StreamRec × Nat)) (g : Nat) : GroupMount :=
  let ra := newestOf a g
  let rb := newestOf b g
  let top := max (match ra with | some x => x.1.seq | none => 0) (match rb with | some x => x.1.seq | none => 0)
  let ca := ra.filter (fun x => x.1.seq == top)
  let cb := rb.filter (fun x => x.1.seq == top)
  let lost (l o : List (StreamRec × Nat)) := (damagedSlots l).any (fun r => r.index == g && decide (top < r.seq) &&
    !o.any (fun y => y.1.valid && y.1.index == g && y.1.seq == r.seq))
  if lost a b || lost b a then ⟨0, true, none, false, 0⟩ else
  match ca, cb with
  | none, none => ⟨0, false, none, false, 0⟩
  | some x, none => match eccDecode x.1.data x.1.ecc with
    | some d => ⟨d.1, false, none, true, ofBool d.2⟩
    | none => ⟨0, true, none, false, 0⟩
  | none, some y => match eccDecode y.1.data y.1.ecc with
    | some d => ⟨d.1, false, none, true, ofBool d.2⟩
    | none => ⟨0, true, none, false, 0⟩
  | some x, some y =>
    let n := fixes x.1 + fixes y.1
    match eccDecode x.1.data x.1.ecc, eccDecode y.1.data y.1.ecc with
    | some d, some e =>
      if d.1 = e.1 then ⟨d.1, false, none, false, n⟩
      else if y.2 ≤ x.2 then ⟨d.1, false, some (top, 0), true, n⟩ else ⟨e.1, false, some (top, 1), true, n⟩
    | some d, none => ⟨d.1, false, some (top, 0), true, n⟩
    | none, some e => ⟨e.1, false, some (top, 1), true, n⟩
    | none, none => ⟨0, true, none, false, 0⟩

/-- A ring's value from its zones (R594): none when the ring is DAMAGED. -/
def Ring.mountValue (x : Ring) : Option Nat :=
  let good (r : RingSlot) : Option Nat := (eccDecode r.value r.check).map (·.1)
  let valid (l : List RingSlot) := (l.filter RingSlot.valid).filterMap good
  let hurt (l : List RingSlot) := (l.drop 1).filter (fun r => !r.valid)
  let rescued (l : List RingSlot) := ((hurt l).filter (fun r => r.num == x.num)).filterMap good
  let dead (l o : List RingSlot) := (hurt l).any (fun r => (good r).isNone && !o.any (fun y => y.pos == r.pos && y.valid && (good y).isSome))
  if dead x.a x.b || dead x.b x.a then none
  else some ((valid x.a ++ valid x.b ++ rescued x.a ++ rescued x.b).foldl max 0)

/-- Rebuild one group in the shadow. -/
def State.mountOne (a b : List (StreamRec × Nat)) (s : State) (g : Nat) : State :=
  let m := mountGroup a b g
  let s0 := s.setBytes (lktBase + 8 * g) (leBytes 8 m.value)
  let s1 := (List.range m.corrected).foldl (fun t _ => t.bump Reg.LKT_ERR_CORRECTED) s0
  let s2 : State := if m.damaged then
      let d := { s1.lkt with damaged := s1.lkt.damaged ++ [g] }
      State.raise { s1 with lkt := d } 162
    else s1
  let s3 : State := match m.tie with
    | none => s2
    | some t =>
      let d := { s2.lkt with ties := satInc 8 s2.lkt.ties }
      (State.raise { s2 with lkt := d } 161).journal blkLKT 0x0050 (leBytes 2 g ++ leBytes 4 t.1 ++ leBytes 1 t.2)
  if m.repair then { s3 with lkt := { s3.lkt with repairs := s3.lkt.repairs ++ [g] } } else s3

/-- Rebuild the shadow from flash (R586 to R588), or keep it while its flag is set (R585). -/
def State.lktMount (s : State) : State :=
  if s.lkt.shadowValid then
    let l := { s.lkt with mounted := true, kept := true }
    { s with lkt := l }
  else
    let a := s.lkt.mainA.recs
    let b := s.lkt.mainB.recs
    let fa := s.lkt.fieldA.recs
    let fb := s.lkt.fieldB.recs
    let top := ((a ++ b ++ fa ++ fb).filter (fun x => x.1.valid)).foldl (fun m x => max m x.1.seq) 0
    let l0 := { s.lkt with damaged := [], backlog := [], done := 0, current := [], ties := 0, repairs := [], repairCount := 0, writes := [] }
    let s1 : State := { s with lkt := l0 }
    let s2 := (List.range 0xC00).foldl (State.mountOne a b) s1
    let s3 := (List.range 0x400).foldl (fun t i => State.mountOne fa fb t (0xC00 + i)) s2
    let rs := s3.lkt.rings.map (fun x => match x.mountValue with
      | some v => { x with newest := v, damaged := false }
      | none => { x with damaged := true })
    let l := { s3.lkt with mounted := true, kept := false, shadowValid := true, nextSeq := top + 1, lastSeq := top, rings := rs }
    let s4 : State := { s3 with lkt := l }
    if s4.lkt.repairs.isEmpty then s4 else s4.raise 166

/-- Whether a stream holds a current copy of group g: a valid record of its highest SEQ that decodes to its value. -/
def hasCopy (l : List (StreamRec × Nat)) (g seq value : Nat) : Bool :=
  l.any (fun x => x.1.index == g && x.1.seq == seq && takesPart l x.1 && (match eccDecode x.1.data x.1.ecc with | some d => d.1 == value | none => false))

/-- R589: the engine writes current copies of the groups that lack one in a stream, and counts the copies. A group that was written since is left to its commit. -/
def State.repairAll (s : State) : State :=
  let put (t : State) (g : Nat) : State :=
    let fld := fieldGroup g
    let a := (if fld then t.lkt.fieldA else t.lkt.mainA)
    let b := (if fld then t.lkt.fieldB else t.lkt.mainB)
    let d := t.group g
    let q := max (bestSeq a.recs g) (bestSeq b.recs g)
    let r : StreamRec := { index := g, kind := 0, last := false, seq := q, data := d, ecc := eccCheck d, valid := true }
    let inA := hasCopy a.recs g q d
    let inB := hasCopy b.recs g q d
    let a' := if inA then a else a.append r
    let b' := if inB then b else b.append r
    let l := { t.lkt with repairCount := if inA && inB then t.lkt.repairCount else satInc 12 t.lkt.repairCount }
    if t.uncommitted (.group g d) then t
    else if fld then { t with lkt := { l with fieldA := a', fieldB := b' } } else { t with lkt := { l with mainA := a', mainB := b' } }
  let s1 := s.lkt.repairs.foldl put s
  { s1 with lkt := { s1.lkt with repairs := [] } }

end Sys2Proof.Machine
end

