-- ==== Sys2Proof/Machine/EngineOps.lean ====
section
/-! DEFINITION. The engines that every other block uses (chapter 11): RNG's service and seeding, the AEAD engines, their stalls. -/
namespace Sys2Proof.Machine

/-! ## RNG (R528 to R538) -/

/-- Whether RNG serves random bits (Table 11-6, R541). -/
def State.rngServes (s : State) : Bool :=
  s.crypto.kat.contains blkRNG && s.crypto.rng.state != .startup && s.crypto.rng.state != .unseeded && !s.flag Reg.RNG_STAT_KAT_FAIL

/-- Whether the mask DRBG delivers (R532, R515): it is instantiated and seeded with the general one. -/
def State.masksFlow (s : State) : Bool := s.rngServes

/-- Logical address of the seed record (Table 12-3). -/
def seedAddr : Nat := 0xB00

/-- Whether a seed record reads. -/
def State.seedReads (s : State) : Bool := !s.damagedRange seedAddr 64 && !(s.lktBytes seedAddr 48).all (· == 0)

/-- Write a new seed record (R535); none while WP_N is low (R536). -/
def State.newSeed (s : State) : State :=
  if s.pins.wpLow then s
  else
    let d := s.random 48
    (d.2.lktNow (d.2.runItems seedAddr d.1)).2

/-- A reseed of the general DRBG from 1,024 raw bits that have passed both tests (R530, R531, R535). -/
def State.reseedWith (s : State) (raw : List Byte) : State :=
  let g := { s.crypto.rng with general := some (match s.crypto.rng.general with | some d => d.reseed raw | none => Drbg.instantiate raw), requests := 0, lastReseed := s.now, seedOnly := false }
  let s1 : State := { s with crypto := { s.crypto with rng := g } }
  (s1.wrapUp Reg.RNG_RESEEDS_COUNT).newSeed

/-- A reseed while RNG is OK: what its source delivers then is open, and has passed both tests. -/
def State.reseed (s : State) : State :=
  let d := s.draw 128
  d.2.reseedWith d.1

/-- The boot counter rises (R535): false when the Locket refuses it. While WP_N is low it stays as it is, and the DRBGs are instantiated without it (R536). -/
def State.countBoot (s : State) : Bool × State := if s.pins.wpLow then (true, s) else s.lktNow [.ring 2 (s.ringValue 2 + 1)]

/-- The personalisation string (R535): seed record and boot counter. While WP_N is low, and where no seed record reads (R871), it is the boot counter, the device number and 64 further raw
bits (R536). -/
def State.personal (s : State) : List Byte × State :=
  if !s.pins.wpLow && s.seedReads then (s.lktBytes seedAddr 48 ++ leBytes 8 (s.ringValue 2), s)
  else
    let d := s.draw 8
    (leBytes 8 (s.ringValue 2) ++ leBytes 8 s.devnum ++ d.1, d.2)

/-- Both DRBGs are instantiated (R534 to R536), from raw bits or, with none, from the seed record alone; a new seed record follows. -/
def State.instantiateRng (s : State) (raw : List Byte) : State :=
  let p := s.personal
  let g := (Drbg.instantiate (raw ++ p.1)).generate 48
  let r := { p.2.crypto.rng with general := some g.2, mask := some (Drbg.instantiate g.1), maskAt := s.now, requests := 1, lastReseed := s.now, seedOnly := raw.isEmpty }
  State.newSeed { p.2 with crypto := { p.2.crypto with rng := r } }

/-! ## AEAD engines (R508, R517, R518, R520) -/

/-- The engine with number e. -/
def State.engine (s : State) (e : Nat) : AeaEngine := if e = 0 then s.crypto.aea0 else s.crypto.aea1

/-- Replace engine e. -/
def State.setEngine (s : State) (e : Nat) (x : AeaEngine) : State :=
  if e = 0 then { s with crypto := { s.crypto with aea0 := x } } else { s with crypto := { s.crypto with aea1 := x } }

/-- Whether engine e is enabled and has passed its self-test (R541). -/
def State.engineUsable (s : State) (e : Nat) : Bool := bit (s.reg Reg.AEA_CTRL_EN) e && s.regI Reg.AEA_STAT_KAT_FAIL e == 0

/-- Whether the engines that are enabled, one at least, have all failed their self-test (R541). -/
def State.enginesFailed (s : State) : Bool :=
  !s.engineUsable 0 && !s.engineUsable 1 && (bit (s.reg Reg.AEA_CTRL_EN) 0 || bit (s.reg Reg.AEA_CTRL_EN) 1)

/-- Whether engine e can take an operation of a class: it has been tested (R539), is idle and, for BULK, holds no suspended operation (R520). -/
def State.engineFree (s : State) (cls : EngClass) (e : Nat) : Bool :=
  s.engineUsable e && s.crypto.kat.contains blkAEA && (s.engine e).op.isNone && (cls != .bulk || (s.engine e).susp.isNone)

/-- The engine that takes the next operation of a class (R517). -/
def State.freeEngine (s : State) (cls : EngClass) : Option Nat :=
  if s.engineFree cls 0 then some 0 else if s.engineFree cls 1 then some 1 else none

/-- Whether no other command that waits for the same engine was taken before this one (R521, R728: within a class the oldest starts first). -/
def State.inTurn (s : State) (waits : Running → Bool) (r : Running) : Bool :=
  s.que.running.all (fun x => x.started || !waits x || decide (r.takenAt ≤ x.takenAt))

/-- Commands of Q_4 and Q_5 that wait for an AEAD engine, for HSH, and, with those of Q_9 and Q_10, for PKE. -/
def aeadHolds (r : Running) : Bool := (r.ring == 4 || r.ring == 5) && (r.entry.code == 1 || r.entry.code == 2)
def hshHolds (r : Running) : Bool := (r.ring == 4 || r.ring == 5) && r.entry.code == 3
def pkeHolds (r : Running) : Bool :=
  ((r.ring == 4 || r.ring == 5) && (r.entry.code == 4 || r.entry.code == 5 || r.entry.code == 6)) ||
    (r.ring == 10 && (r.entry.code == 0x12 || r.entry.code == 0x13)) ||
    (!r.started && ((r.ring == 10 && (r.entry.code == 0x02 || r.entry.code == 0x10 || r.entry.code == 0x20)) || (r.ring == 9 && r.entry.code == 1)))

/-- Order of the classes (Table 11-4). -/
def EngClass.rank : EngClass → Nat
  | .safety => 0 | .timed => 1 | .record => 2 | .bulk => 3

/-- The waiting request that an engine takes first (R517): of the highest class, the oldest. -/
def firstWaiting (l : List AeaOp) : Option AeaOp :=
  l.foldl (fun b x => match b with | some y => if x.cls.rank < y.cls.rank then some x else b | none => some x) none

/-- An operation goes on an engine: with no mask bits the engine stalls with its state held, and the stall is counted (R514, R515). -/
def State.engineTakes (s : State) (e : Nat) (x : AeaEngine) : State :=
  let t := s.setEngine e { x with op := x.op.map (fun o => { o with runAt := s.now }) }
  if x.op.isSome && !s.masksFlow then t.bump Reg.AEA_MASK_STALLS else t

/-- Give the waiting requests to free engines; at most `n`. -/
def State.aeaAssign : Nat → State → State
  | 0, s => s
  | n + 1, s => match firstWaiting s.crypto.aeaWait with
    | none => s
    | some o => match s.freeEngine o.cls with
      | none => s
      | some e =>
        let s1 := s.engineTakes e { s.engine e with op := some o }
        State.aeaAssign n { s1 with crypto := { s1.crypto with aeaWait := s1.crypto.aeaWait.erase o } }

/-- Resume the suspended operation of engine e when nothing waits (R518). -/
def State.aeaResume (s : State) (e : Nat) : State :=
  match (s.engine e).op, (s.engine e).susp with
  | none, some o =>
    if !s.crypto.aeaWait.isEmpty then s
    else
      let s1 := s.engineTakes e { op := some o, susp := none }
      let add := s.now - o.suspAt
      let l := s1.que.running.map (fun x => if x.ring == o.ring && x.entry.seq == o.cmd then { x with suspended := x.suspended + add } else x)
      { s1 with que := { s1.que with running := l } }
  | _, _ => s

/-- Let the engines take what waits and resume what was suspended. -/
def State.aeaPump (s : State) : State := ((State.aeaAssign 2 s).aeaResume 0).aeaResume 1

/-- Ring numbers that mark an operation as the device's own. -/
def ringGov : Nat := 65
def ringGlt : Nat := 66

/-- One of the device's own users gives up what it has on the engines. -/
def State.dropEngineOps (s : State) (ring : Nat) : State :=
  let c := s.crypto
  let keep (o : AeaOp) := o.ring != ring
  let l (e : AeaEngine) : AeaEngine := { op := e.op.filter keep, susp := e.susp.filter keep }
  State.aeaPump { s with crypto := { c with aea0 := l c.aea0, aea1 := l c.aea1, aeaWait := c.aeaWait.filter keep } }

/-- A request of one of the device's own users. -/
def State.aeaRequest (s : State) (o : AeaOp) : State :=
  State.aeaPump { s with crypto := { s.crypto with aeaWait := s.crypto.aeaWait ++ [o] } }

/-- The engine that runs the operation of a user; one that stalls gets nowhere (R515). -/
def State.engineOf (s : State) (ring cmd : Nat) : Option Nat :=
  let runs (e : Nat) := s.masksFlow && (match (s.engine e).op with | some o => o.ring == ring && o.cmd == cmd | none => false)
  if runs 0 then some 0 else if runs 1 then some 1 else none

/-- Operations of TIMED or BULK work that the model does within one step (assumption 115) are counted on the engine that is free for it. -/
def State.aeaCount (s : State) (cls : EngClass) (n : Nat) : State :=
  let e := (s.freeEngine cls).getD 0
  s.setI Reg.AEA_STAT_OPS e (s.regI Reg.AEA_STAT_OPS e + n)

/-- Engine e ends its operation: it is counted, and the engine takes the next. -/
def State.engineDone (s : State) (e : Nat) : State :=
  let s1 := s.setEngine e { s.engine e with op := none }
  (s1.setI Reg.AEA_STAT_OPS e (s1.regI Reg.AEA_STAT_OPS e + 1)).aeaPump

end Sys2Proof.Machine
end

