-- ==== Sys2Proof/Machine/P256.lean ====
section
/-! DEFINITION. The P-256 group, ECDSA with the deterministic nonce of RFC 6979, and ECDH (R521 to R525). -/
namespace Sys2Proof.Machine

/-- The field prime. -/
def pP : Nat := 0xFFFFFFFF00000001000000000000000000000000FFFFFFFFFFFFFFFFFFFFFFFF
/-- The group order. -/
def pN : Nat := 0xFFFFFFFF00000000FFFFFFFFFFFFFFFFBCE6FAADA7179E84F3B9CAC2FC632551
/-- The curve's b. -/
def pB : Nat := 0x5AC635D8AA3A93E7B3EBBD55769886BC651D06B0CC53B0F63BCE3C3E27D2604B
/-- The base point. -/
def pG : Nat × Nat :=
  (0x6B17D1F2E12C4247F8BCE6E563A440F277037D812DEB33A0F4A13945D898C296,
   0x4FE342E2FE1A7F9B8EE7EB4A7C0F9E162BCE33576B315ECECBB6406837BF51F5)

/-- Subtraction modulo m. -/
def subMod (m a b : Nat) : Nat := (a % m + m - b % m) % m

/-- Power modulo m over `n` bits of the exponent. -/
def powMod (m : Nat) : Nat → Nat → Nat → Nat
  | 0, _, _ => 1 % m
  | n + 1, a, e => (if e % 2 = 1 then a else 1) * powMod m n (a * a % m) (e / 2) % m

/-- Inverse modulo a prime. -/
def invMod (m a : Nat) : Nat := powMod m 256 (a % m) (m - 2)

/-- Jacobian points; Z = 0 is the point at infinity. -/
def jDouble (q : Nat × Nat × Nat) : Nat × Nat × Nat :=
  let (x, y, z) := q
  if z = 0 ∨ y = 0 then (1, 1, 0) else
  let d := z * z % pP
  let g := y * y % pP
  let b := x * g % pP
  let a := 3 * (subMod pP x d) * (x + d) % pP
  let x3 := subMod pP (a * a % pP) (8 * b)
  (x3, subMod pP (a * subMod pP (4 * b) x3 % pP) (8 * g * g), 2 * y * z % pP)

/-- Addition of Jacobian points. -/
def jAdd (p q : Nat × Nat × Nat) : Nat × Nat × Nat :=
  let (x1, y1, z1) := p
  let (x2, y2, z2) := q
  if z1 = 0 then q else if z2 = 0 then p else
  let a := z1 * z1 % pP
  let b := z2 * z2 % pP
  let u1 := x1 * b % pP
  let u2 := x2 * a % pP
  let s1 := y1 * z2 * b % pP
  let s2 := y2 * z1 * a % pP
  if u1 = u2 then (if s1 = s2 then jDouble p else (1, 1, 0)) else
  let h := subMod pP u2 u1
  let r := subMod pP s2 s1
  let h2 := h * h % pP
  let h3 := h * h2 % pP
  let v := u1 * h2 % pP
  let x3 := subMod pP (subMod pP (r * r) h3) (2 * v)
  (x3, subMod pP (r * subMod pP v x3) (s1 * h3), h * z1 * z2 % pP)

/-- Scalar multiplication over `n` bits. -/
def jMul : Nat → Nat → Nat × Nat × Nat → Nat × Nat × Nat
  | 0, _, _ => (1, 1, 0)
  | n + 1, k, q => jAdd (if k % 2 = 1 then q else (1, 1, 0)) (jMul n (k / 2) (jDouble q))

/-- The affine point, none at infinity. -/
def jAffine (q : Nat × Nat × Nat) : Option (Nat × Nat) :=
  if q.2.2 = 0 then none
  else
    let zi := invMod pP q.2.2
    some (q.1 * (zi * zi % pP) % pP, q.2.1 * (zi * zi % pP * zi % pP) % pP)

/-- Whether a point is on the curve (R522). -/
def onCurve (p : Nat × Nat) : Bool :=
  decide (p.1 < pP) && decide (p.2 < pP) && (p.2 * p.2 % pP == (p.1 * p.1 * p.1 + (pP - 3) * p.1 + pB) % pP)

/-- A point from x ‖ y, big-endian, when it is on the curve. -/
def pointOf (l : List Byte) : Option (Nat × Nat) :=
  let p := (ofBe (slice l 0 32), ofBe (slice l 32 32))
  if onCurve p then some p else none

/-- x ‖ y, big-endian. -/
def pointBytes (p : Nat × Nat) : List Byte := beBytes 32 p.1 ++ beBytes 32 p.2

/-- The public key of a scalar. -/
def publicKey (d : Nat) : List Byte :=
  match jAffine (jMul 256 d (pG.1, pG.2, 1)) with
  | some p => pointBytes p
  | none => []

/-- ECDSA verification of r ‖ s over a digest under x ‖ y. -/
def ecdsaVerify (pub digest sig : List Byte) : Bool :=
  match pointOf pub with
  | none => false
  | some q =>
    let r := ofBe (slice sig 0 32)
    let t := ofBe (slice sig 32 32)
    if r = 0 ∨ pN ≤ r ∨ t = 0 ∨ pN ≤ t then false else
    let w := invMod pN t
    let u1 := ofBe digest * w % pN
    let u2 := r * w % pN
    match jAffine (jAdd (jMul 256 u1 (pG.1, pG.2, 1)) (jMul 256 u2 (q.1, q.2, 1))) with
    | none => false
    | some p => p.1 % pN == r

/-- The HMAC_DRBG steps of RFC 6979 until a scalar in range comes, at most `n` tries. -/
def rfcK (n : Nat) (k v : List Byte) : Nat :=
  match n with
  | 0 => 1
  | n + 1 =>
    let v := hmac k v
    let c := ofBe v
    if c = 0 ∨ pN ≤ c then
      let k := hmac k (v ++ [0])
      rfcK n k (hmac k v)
    else c

/-- The nonce of RFC 6979 with additional data (section 3.6; R525). -/
def rfc6979 (d : Nat) (digest hedge : List Byte) : Nat :=
  let x := beBytes 32 d
  let h := beBytes 32 (ofBe digest % pN)
  let k := List.replicate 32 (0 : Byte)
  let v := List.replicate 32 (1 : Byte)
  let k := hmac k (v ++ [0] ++ x ++ h ++ hedge)
  let v := hmac k v
  let k := hmac k (v ++ [1] ++ x ++ h ++ hedge)
  rfcK 8 k (hmac k v)

/-- ECDSA with a given nonce: r ‖ s. -/
def ecdsaWith (d k : Nat) (digest : List Byte) : List Byte :=
  match jAffine (jMul 256 k (pG.1, pG.2, 1)) with
  | none => []
  | some p =>
    let r := p.1 % pN
    beBytes 32 r ++ beBytes 32 (invMod pN k * ((ofBe digest + r * d) % pN) % pN)

/-- ECDSA over a digest with the nonce of RFC 6979, hedged with additional data (R525). -/
def ecdsaSign (d : Nat) (digest hedge : List Byte) : List Byte := ecdsaWith d (rfc6979 d digest hedge) digest

/-- ECDH: the shared x-coordinate. -/
def ecdh (d : Nat) (pub : List Byte) : Option (List Byte) :=
  match pointOf pub with
  | none => none
  | some q => (jAffine (jMul 256 d (q.1, q.2, 1))).map (fun p => beBytes 32 p.1)

end Sys2Proof.Machine
end

