-- ==== Sys2Proof/Machine/KeyOps.lean ====
section
/-! DEFINITION. Key slots, nonces, zeroize, the vault, credentials and the privilege ladder as operations (chapter 10). -/
namespace Sys2Proof.Machine

/-! ## Slots (R480 to R485) -/

/-- A slot as it stands in the store. -/
def State.slotRaw (s : State) (n : Nat) : Slot := storeGet {} s.key.slots n

/-- A slot as KEY treats it: EMPTY while KEY_CTRL.EN is clear (R481). -/
def State.slot (s : State) (n : Nat) : Slot := if s.flag Reg.KEY_CTRL_EN then s.slotRaw n else {}

/-- Store a slot. -/
def State.setSlot (s : State) (n : Nat) (x : Slot) : State := { s with key := { s.key with slots := storeSet {} s.key.slots n x } }

/-- The attributes of a slot, as bits of KEY_SLOT_INFO (Table 10-8). -/
def Slot.type (x : Slot) : Nat := bits x.attrs 4 2
def Slot.uses (x : Slot) : Nat := bits x.attrs 6 6
def Slot.owner (x : Slot) : Nat := bits x.attrs 12 3
def Slot.bound (x : Slot) : Nat := bits x.attrs 16 3
def Slot.deviceNonce (x : Slot) : Bool := bit x.attrs 19
def Slot.limitExp (x : Slot) : Nat := bits x.attrs 20 6

/-- The use limit of slot n (R483). -/
def slotLimit (n : Nat) (x : Slot) : Nat := if 253 ≤ n then 2 ^ 32 else 2 ^ x.limitExp

/-- The block of uses by which a ceiling is raised (R484). -/
def slotBlock (n : Nat) (x : Slot) : Nat := min 4096 (slotLimit n x / 64)

/-- Logical address of a slot's ceiling (Table 12-3), and the ceiling that stands there: all ones hold 2^32 (assumption 113). -/
def ceilingAddr (n : Nat) : Nat := 0x700 + 4 * n
def State.storedCeiling (s : State) (n : Nat) : Nat :=
  let c := s.lktWord (ceilingAddr n) 4
  if c = 0xFFFFFFFF then 2 ^ 32 else c

/-- The items that record a ceiling. -/
def State.ceilingItems (s : State) (n c : Nat) : List LktItem := s.runItems (ceilingAddr n) (leBytes 4 (min c 0xFFFFFFFF))

/-- A slot as its count says that it stands: a load for it has not taken effect. -/
def Slot.rest (n : Nat) (x : Slot) : Slot :=
  { x with load := none, state := if x.state = .draining then (if x.count = slotLimit n x then .spent else .active) else x.state }

/-- The uses of Table 10-8, as bit numbers of USES. -/
def useSEAL : Nat := 0
def useOPEN : Nat := 1
def useDERIVE : Nat := 2
def useWRAP : Nat := 3
def useSIGN : Nat := 4
def useECDH : Nat := 5

/-- Raise a slot's ceiling before its count passes it (R484, R485): false when the Locket refuses. -/
def State.raiseCeiling (s : State) (n : Nat) (x : Slot) : Bool × State × Slot :=
  if x.count < x.ceiling then (true, s, x)
  else
    let c := min (x.ceiling + slotBlock n x) (slotLimit n x)
    let r := s.lktNow (s.ceilingItems n c)
    if r.1 then (true, r.2, { x with ceiling := c }) else (false, r.2, x)

/-- Whether slot n is the Signet key slot, under which only GOV, BOUND code 2, requests operations (R432). -/
def State.signetOnly (s : State) (n from_ : Nat) : Bool := n == s.reg Reg.GOV_SIGNET_CFG_KEY_SLOT && from_ != 2

/-- Why slot n cannot serve use `use` of a type among `types`, from the block with BOUND code `from_` (0 for a queue command): the cause of
Table 11-8 (4, 10, 11 or 13), or 0 (R432, R481, R482, R499, R871). -/
def State.slotCause (s : State) (n use : Nat) (types : List Nat) (from_ : Nat) : Nat :=
  let x := s.slot n
  if s.signetOnly n from_ then 4
  else if x.state = .empty ∨ !bit x.uses use ∨ !types.contains x.type ∨ (x.bound ≠ 0 ∧ x.bound ≠ from_) then 4
  else if x.state = .spent then 10
  else if x.state = .draining then 11
  else if s.damagedRange (ceilingAddr n) 4 then 13
  else 0

/-- A KEY_EVENT record (Table 13-5); the manual gives no values for its CAUSE byte, which is a free value (assumption 13). -/
def State.keyEvent (s : State) (n ev : Nat) : State :=
  let d := s.draw 1
  d.2.journal blkKEY 0x0041 (leBytes 1 n ++ leBytes 1 ev ++ d.1)

/-- Count one use of slot n (R482). -/
def State.countUse (s : State) (n : Nat) (x : Slot) : State :=
  let c := x.count + 1
  let lim := slotLimit n x
  let nearNow := decide (c = lim * 15 / 16)
  let s1 := s.setSlot n { x with count := c, near := x.near || nearNow, state := if c = lim then .spent else x.state }
  let s2 := if nearNow then (s1.raise 144).keyEvent n 2 else s1
  if c = lim then (s2.raise 145).keyEvent n 3 else s2

/-- One request to KEY: the cause of Table 11-8 (0 accepted) and the state with the use counted (R481, R482, R484, R485). -/
def State.useSlot (s : State) (n use : Nat) (types : List Nat) (from_ : Nat) : Nat × State :=
  let c := s.slotCause n use types from_
  if c ≠ 0 then (c, s)
  else
    match s.raiseCeiling n (s.slot n) with
    | (false, s1, _) => (13, s1)
    | (true, s1, x1) => (0, s1.countUse n x1)

/-- Status of a cause of Table 11-8. -/
def causeStatus (c : Nat) : Nat :=
  if c = 7 then stFULL else if c = 10 then stSPENT else if c = 11 then stSLOTBUSY else if c = 12 then stZEROIZE
  else if c = 13 then stNV else if c = 14 then stRESET else if c = 8 ∨ c = 9 then stAUTH else if c = 0 then stOK else stPOLICY

/-! ## Nonces (R493 to R497) -/

/-- Whether device nonces are refused by R497; the partner's DEVICE is its own register's (assumption 87). -/
def State.nonceRefused (s : State) : Bool :=
  s.reg Reg.KEY_NONCE_CFG_DEVICE == 0 || (s.paired && s.reg Reg.KEY_NONCE_CFG_DEVICE == Config.partnerNonceDevice.toNat)

/-- Whether the nonces of the device can be reserved no further: the next block would pass 2^64 - 1 (R496). -/
def State.nonceSpent (s : State) : Bool := decide (s.key.invocTop ≤ s.key.invocNext) && decide (2 ^ 64 < s.key.invocTop + 4096)

/-- A reservation that has been settled: its block serves once the Locket has accepted it (R494). -/
def State.invocSettled (s : State) (x : LktWrite) : State :=
  match x.items with
  | [.ring 0 top] => if x.state.ok then { s with key := { s.key with invocTop := max s.key.invocTop top } } else s
  | _ => s

/-- Reserve the next block (R494, R495): 0 when the Locket has accepted it, 13 when it refuses it, 254 while a reservation waits for the partner to hold it too (R781). -/
def State.reserveNonces (s : State) : Nat × State :=
  match s.ringOf 0 with
  | none => (13, s)
  | some r =>
    if r.damaged || r.worn || s.ringHurt 0 then (13, s)
    else
      let item : LktItem := .ring 0 (s.key.invocTop + 4096)
      let asked := s.lkt.writes.any (fun x => x.writer == .invoc)
      if !s.mirrors && !asked then
        let w := s.lktNow [item]
        if w.1 then (0, { w.2 with key := { w.2.key with invocTop := s.key.invocTop + 4096 } }) else (13, w.2)
      else match (if asked then s else s.lktSubmit .invoc [item]).settle .invoc with
        | (none, t) => (254, t)
        | (some x, t) => (if x.state.ok then 0 else 13, t.invocSettled x)

/-- Whether the user of a device nonce has to wait for the partner to hold the reservation of its block, which is asked for (R494, R781). -/
def State.nonceWaits (s : State) : Bool × State :=
  if s.nonceRefused || decide (s.key.invocNext < s.key.invocTop) || s.nonceSpent then (false, s)
  else
    let r := s.reserveNonces
    if r.1 = 254 then (true, r.2) else if r.1 = 0 then (false, r.2) else (false, s)

/-- A device-formed nonce: cause of Table 11-8 (0, 5, 10 or 13; 254: its block waits for the partner), the 12 bytes, the state. -/
def State.deviceNonce (s : State) : Nat × List Byte × State :=
  if s.nonceRefused then (5, [], s)
  else
    let form (t : State) : Nat × List Byte × State :=
      (0, leBytes 4 (t.reg Reg.KEY_NONCE_CFG_DEVICE) ++ leBytes 8 t.key.invocNext,
        { t with key := { t.key with invocNext := t.key.invocNext + 1 } })
    if s.key.invocNext < s.key.invocTop then form s
    else if s.nonceSpent then (10, [], s)
    else
      let r := s.reserveNonces
      if r.1 = 0 then form r.2 else (r.1, [], r.2)

/-! ## What the engines count (Tables 11-10, 11-11) -/

/-- Count one completed operation of PKE and its finding. -/
def State.pkeCount (s : State) (invalid verified : Bool) : State :=
  let s1 := s.wrapUp Reg.PKE_OPS_OPS
  if invalid then s1.bump Reg.PKE_ERR_INVALID_KEY else if verified then s1 else s1.bump Reg.PKE_ERR_VERIFY_FAIL

/-- A verification that one of the device's own users asks for, in the step that needs it: the outcome and the counts. Without a key there is nothing to verify by. -/
def State.pkeVerify (s : State) (pub msg sig : List Byte) : Bool × State :=
  let ok := ecdsaVerify pub (sha256 msg) sig
  if pub.isEmpty then (false, s) else (ok, (s.hashed [msg.length]).pkeCount (pointOf pub).isNone ok)

/-! ## The key fuses (R486) -/

/-- The 32 bytes of four fuse words from word i, each corrected by its check byte (R555); none when one cannot be. -/
def Key.fuseBytes (k : Key) (i : Nat) : Option (List Byte) :=
  (List.range 4).foldr (fun j t => let w := k.fuses.getD (i + j) (0, 0)
    match eccDecode w.1 w.2, t with
    | some d, some l => some (leBytes 8 d.1 ++ l)
    | _, _ => none) (some [])

/-- K_ROOT, and the private keys of slots 253 and 254 (their places and what damage does: assumption 113). -/
def State.kRoot (s : State) : List Byte := (s.key.fuseBytes 0).getD ((s.key.fuses.take 4).flatMap (fun w => leBytes 8 w.1))
def State.fuseTransport (s : State) : List Byte := (s.key.fuseBytes 4).getD []
def State.fuseHallmark (s : State) : List Byte := (s.key.fuseBytes 8).getD []

/-! ## The vault (R487 to R492) -/

/-- Attribute bits [25:4] in a 4-byte field (R487). -/
def attrField (x : Slot) : Nat := bits x.attrs 4 22 * 16

/-- A vault entry of 64 bytes. -/
def State.vaultEntry (s : State) (n : Nat) (x : Slot) : List Byte :=
  leBytes 1 n ++ [0] ++ leBytes 4 (attrField x) ++ leBytes 4 (x.loadCtr.getD 0) ++ fit 40 (aesWrap s.kRoot x.key) ++ List.replicate 14 0

/-- The slots that the vault keeps: 0 to 247 and 255, not EMPTY. -/
def State.vaultSlots (s : State) : List (Nat × Slot) :=
  s.key.slots.filter (fun p => p.2.state != .empty && (decide (p.1 < 248) || p.1 == 255))

/-- A vault bank (R487). -/
def State.vaultBytes (s : State) (gen : Nat) : List Byte :=
  let l := s.vaultSlots
  fit 64 (leBytes 4 0x4B564C54 ++ [1, 0, 0, 0] ++ leBytes 4 gen ++ leBytes 1 s.key.kekGen ++ leBytes 2 l.length) ++
    l.flatMap (fun p => s.vaultEntry p.1 p.2)

/-- Logical address of the vault selector page (R488). -/
def vaultPage : Nat := 0xF40

/-- The ZERO mask of the selector page as a list of slots. -/
def State.zeroMarks (s : State) : List Nat :=
  let m := s.lktWord (vaultPage + 32) 32
  (List.range 256).filter (fun i => m.testBit i)

/-- A mask of slots. -/
def maskOf (l : List Nat) : Nat := l.eraseDups.foldl (fun m i => m ||| 2 ^ i) 0

/-- The items that write the vault selector page. -/
def State.vaultSelectorItems (s : State) (gen bank : Nat) (hash : List Byte) (zero : List Nat) : List LktItem :=
  s.runItems vaultPage (leBytes 4 gen ++ leBytes 1 bank ++ leBytes 1 s.key.kekGen ++ [0, 0] ++ fit 24 hash ++ leBytes 32 (maskOf zero))

/-- CFG gets a job for the bank not in force, with the store as it is now. -/
def State.vaultStart (s : State) (undo : List (Nat × Slot)) (cmd : Option Nat) : State :=
  let bank := if s.lktWord (vaultPage + 4) 1 = 0 then 1 else 0
  let gen := s.key.vaultGen + 1
  let data := s.vaultBytes gen
  let j : VaultJob := { gen := gen, bank := bank, hash := (sha256 data).take 24, undo := undo, cmd := cmd }
  State.hashed { s with key := { s.key with vaultJob := some j }, nor := { s.nor with jobs := s.nor.jobs ++ [{ area := .vault bank, data := data }] } } [data.length]

/-- Start a durable change of the store (R490). A change that still waits for its own bank waits for this one, which holds it too; one whose selector waits for the Locket is settled
first. -/
def State.startVault (s : State) (undo : List (Nat × Slot)) (cmd : Option Nat) : State :=
  match s.key.vaultJob with
  | none => s.vaultStart undo cmd
  | some j =>
    if j.selecting then { s with key := { s.key with vaultJob := some { j with next := some (j.next.getD [] ++ undo) } } }
    else s.vaultStart (j.undo ++ undo) (cmd.orElse (fun _ => j.cmd))

/-- A change has ended: one that was made meanwhile begins. -/
def State.vaultNext (s : State) (j : VaultJob) : State := match j.next with | some u => s.startVault u none | none => s

/-- A change is undone (R490): the slots are as they were, with their ceilings. -/
def State.takeBack (s : State) (l : List (Nat × Slot)) : State :=
  l.foldr (fun u t => (if u.1 < 248 then (t.lktNow (t.ceilingItems u.1 u.2.ceiling)).2 else t).setSlot u.1 u.2) s

/-! ## Zeroize (R500, R501, R491) -/

/-- End the AEAD work of a slot with ABORTED_ZEROIZE: nothing is released. -/
def AeaEngine.without (e : AeaEngine) (n : Nat) : AeaEngine :=
  { op := e.op.filter (fun o => o.slot != n), susp := e.susp.filter (fun o => o.slot != n) }

/-- The AEAD operations that an engine holds for slot n, running or suspended. -/
def AeaEngine.onSlot (e : AeaEngine) (n : Nat) : List AeaOp := ([e.op, e.susp].filterMap id).filter (fun o => o.slot == n)

/-- The operations in flight on a slot, as (ring, SEQ) of the requests: on the AEAD engines or waiting for one, and on PKE. -/
def State.aeaFlight (s : State) (n : Nat) : List (Nat × Nat) :=
  (s.crypto.aea0.onSlot n ++ s.crypto.aea1.onSlot n ++ s.crypto.aeaWait.filter (fun o => o.slot == n)).map (fun o => (o.ring, o.cmd))
def State.pkeFlight (s : State) (n : Nat) : List (Nat × Nat) :=
  match s.crypto.pke with | some o => if o.slot == n then [(o.ring, o.cmd)] else [] | none => []
def State.inFlightCmds (s : State) (n : Nat) : List (Nat × Nat) := s.aeaFlight n ++ s.pkeFlight n

/-- Complete a command by ring and SEQ with a status and cause and no data. -/
def State.failCmd (s : State) (block status cause : Nat) (p : Nat × Nat) : State :=
  match s.runningSeq p.1 p.2 with
  | some r => s.complete r block status cause []
  | none => s

/-- A zeroize of slot n in the store: the key is overwritten, in-flight work and a pending load end with ABORTED_ZEROIZE, E_147, the KEY_EVENT record
(R500, R501). -/
def State.zeroizeStore (s : State) (n : Nat) : State :=
  let x := s.slotRaw n
  let c := s.crypto
  let s1 : State := { s with
    crypto := { c with
      aea0 := c.aea0.without n, aea1 := c.aea1.without n, aeaWait := c.aeaWait.filter (fun o => o.slot != n)
      pke := c.pke.filter (fun o => o.slot != n) }
    jnl := { s.jnl with signing := if n = 254 then none else s.jnl.signing, reading := if (s.aeaFlight n).any (fun p => p.1 == 8) then none else s.jnl.reading } }
  let s2 := (s.aeaFlight n).foldl (fun t p => if p.1 = 8 then t.failCmd blkJNL stZEROIZE 7 p else t.failCmd blkAEA stZEROIZE 12 p) s1
  let s3 := (s.pkeFlight n).foldl (fun t p => t.failCmd (if p.1 = 10 then blkKEY else blkPKE) stZEROIZE 12 p) s2
  let s4 := match x.load with
    | some l => s3.failCmd blkKEY stZEROIZE 0 (10, l.cmd)
    | none => s3
  let s5 := (c.aea0.onSlot n).foldl (fun t _ => t.bumpI Reg.AEA_ERR_ABORTED 0) s4
  let s6 := (c.aea1.onSlot n).foldl (fun t _ => t.bumpI Reg.AEA_ERR_ABORTED 1) s5
  let s7 := ((s6.setSlot n { loadCtr := x.loadCtr }).raise 147).keyEvent n 1
  State.aeaPump (if n = 255 then { s7 with key := { s7.key with kekGen := low 8 (s7.key.kekGen + 1) } } else s7)

/-- A KEY_LOAD that waits for its vault bank, of a slot that is zeroized now, ends with ABORTED_ZEROIZE; nothing brings a zeroized key back. -/
def State.dropLoad (l : List Nat) (s : State) : State :=
  match s.key.vaultJob with
  | none => s
  | some j =>
    let keep (u : List (Nat × Slot)) := u.filter (fun p => !l.contains p.1)
    let hit := j.undo.any (fun p => p.1 < 248 && l.contains p.1)
    let w : VaultJob := { j with undo := keep j.undo, next := j.next.map keep, zero := if j.selecting then (l ++ j.zero).eraseDups else j.zero, cmd := if hit then none else j.cmd }
    let t : State := { s with key := { s.key with vaultJob := some w } }
    match j.cmd with
    | some c => if hit then t.failCmd blkKEY stZEROIZE 0 (10, c) else t
    | none => t

/-- A selector that still waits to be placed takes the marks of later zeroizes along (R490). -/
def State.markSelector (s : State) : State :=
  match s.key.vaultJob with
  | none => s
  | some j =>
    let items := s.vaultSelectorItems j.gen j.bank j.hash j.zero
    { s with lkt := { s.lkt with writes := s.lkt.writes.map (fun x => if x.writer = .vaultSelector ∧ !x.placed then { x with items := items } else x) } }

/-- Zeroize marks go to the selector page (R491). -/
def State.submitMarks (s : State) (l : List Nat) : State := s.lktSubmit .zeroMark (s.runItems (vaultPage + 32) (leBytes 32 (maskOf l)))

/-- A zeroize of slots: each is overwritten; those of the vault are marked, in AON and in the selector page, and a new vault bank is written (R491). -/
def State.zeroizeAll (s : State) (l : List Nat) : State :=
  let s1 := l.foldl State.zeroizeStore s
  let v := l.filter (fun n => n < 248 || n == 255)
  if v.isEmpty then s1
  else
    let s2 := State.dropLoad v { s1 with key := { s1.key with aonMarks := (v ++ s1.key.aonMarks).eraseDups } }
    (s2.markSelector.submitMarks v).startVault [] none

/-- A zeroize of one slot; slots 248 to 252 hold nothing. -/
def State.zeroize (s : State) (n : Nat) : State := if 248 ≤ n ∧ n < 253 then s else s.zeroizeAll [n]

/-- Slots 0 to 247 and 255 that hold a key. -/
def State.zeroizable (s : State) : List Nat :=
  (s.key.slots.filter (fun p => p.2.state != .empty && (decide (p.1 < 248) || p.1 == 255))).map (·.1)

/-- Generate a KEK in slot 255 (R492, R501), after a reseed with prediction resistance; while RNG is not OK the generation waits (R537). -/
def State.newKek (s : State) : State :=
  if s.crypto.rng.state ≠ .ok then { s with key := { s.key with genWaits := some s.now } } else
  let d := ({ s with key := { s.key with genEnd := some (stOK, 0) } } : State).reseed.random 32
  let attrs := 1 * 16 + (2 ^ useWRAP) * 64 + 5 * 4096 + 5 * 65536 + 32 * 1048576
  (d.2.setSlot 255 { state := .active, key := d.1, attrs := attrs }).startVault [(255, s.slotRaw 255)] none

/-- Load one vault entry. -/
def State.loadEntry (s : State) (zero : List Nat) (e : List Byte) : State :=
  let n := ofLe (slice e 0 1)
  let attrs := ofLe (slice e 2 4)
  let klen := if bits attrs 4 2 = 0 then 24 else 40
  if zero.contains n then s
  else match aesUnwrap s.kRoot (slice e 10 klen) with
    | none => s
    | some k =>
      let c := s.storedCeiling n
      let lim := slotLimit n { attrs := attrs }
      s.setSlot n { state := if lim ≤ c then .spent else .active, key := k, attrs := attrs, count := c, ceiling := c,
                    near := decide (lim * 15 / 16 ≤ c), loadCtr := some (ofLe (slice e 6 4)) }

/-- R489, R492: load the vault bank that the selector names, or find it lost. A mark of slot 255 that the bank does not yet know raises the KEK generation (R501, R846). -/
def State.loadVault (s : State) : State :=
  let gen := s.lktWord vaultPage 4
  let bank := s.lktWord (vaultPage + 4) 1
  let data := if bank = 0 then s.nor.vaultA else s.nor.vaultB
  let n := ofLe (slice data 13 2)
  let ok := !s.damagedRange vaultPage 64 && decide (gen ≠ 0) && (sha256 data).take 24 == s.lktBytes (vaultPage + 8) 24 &&
    ofLe (slice data 8 4) == gen && ofLe (slice data 12 1) == s.lktWord (vaultPage + 5) 1
  if ok then
    let zero := s.zeroMarks ++ s.key.aonMarks
    let s1 := (List.range n).foldl (fun t i => t.loadEntry zero (slice data (64 + 64 * i) 64)) s
    let kek := s.lktWord (vaultPage + 5) 1
    let s2 : State := { s1 with key := { s1.key with vaultGen := gen, kekGen := if zero.contains 255 then low 8 (kek + 1) else kek, vaultLost := false } }
    if (s2.slotRaw 255).state = .empty then s2.newKek else s2
  else
    let s1 : State := { s with key := { s.key with kekGen := low 8 (s.key.kekGen + 1), vaultLost := true, vaultGen := gen } }
    ((s1.raise 149).keyEvent 255 4).newKek

/-- Load the fuse slots 253 and 254 (R486); one whose words cannot be corrected stays EMPTY (assumption 113). -/
def State.loadFuses (s : State) : State :=
  let ecdhAttrs := 2 * 16 + (2 ^ useECDH) * 64 + 5 * 4096 + 32 * 1048576
  let signAttrs := 2 * 16 + (2 ^ useSIGN) * 64 + 5 * 4096 + 32 * 1048576
  let put (t : State) (n : Nat) (k : Option (List Byte)) (at_ : Nat) :=
    let c := t.storedCeiling n
    match k with
    | some b => t.setSlot n { state := if 2 ^ 32 ≤ c then .spent else .active, key := b, attrs := at_, count := c, ceiling := c, near := decide (2 ^ 32 * 15 / 16 ≤ c) }
    | none => t
  put (put s 253 (s.key.fuseBytes 4) ecdhAttrs) 254 (s.key.fuseBytes 8) signAttrs

/-- Whether PKE verifies: enabled, tested (R540), not failed (R541), not in reset. A verification draws no random bits (R823). -/
def State.pkeUp (s : State) : Bool :=
  s.flag Reg.PKE_CTRL_EN && s.crypto.pkeKat && !s.flag Reg.PKE_STAT_KAT_FAIL && !s.fences.inReset.contains blkPKE

/-- Whether PKE serves requests with a secret scalar: it is up and RNG gives it its blinds (R522, R538). -/
def State.pkeServes (s : State) : Bool := s.pkeUp && s.rngServes

/-- What the general DRBG gives for scalar multiplications (R522): for each a blind of 64 bits and a random coordinate of 256, in one request. The product is the
same for every blind r, as (k + r·n)·Q = k·Q for a point Q of order n. -/
def State.pkeBlind (s : State) : Nat → State
  | 0 => s
  | n + 1 => ((s.random 40).2).pkeBlind n

/-- Blinded scalar multiplications of a signature, whose check by R524 is a verification (R823), and of ECDH: none for a key that fails validation (R523). -/
def mulsSign : Nat := 1
def mulsEcdh (pub : List Byte) : Nat := if (pointOf pub).isSome then 1 else 0

/-- Whether PKE can start an operation with a secret scalar now, and a verification. -/
def State.pkeFree (s : State) : Bool := s.pkeServes && s.crypto.pke.isNone
def State.pkeVerifies (s : State) : Bool := s.pkeUp && s.crypto.pke.isNone

/-- A signature by PKE's slot 254 over a message (R525): hedge and blinds from the general DRBG. -/
def State.hallmarkSig (s : State) (msg : List Byte) : List Byte × State :=
  let d := ((s.hashed [msg.length]).pkeBlind mulsSign).random 32
  (ecdsaSign (ofBe (d.2.slotRaw 254).key) (sha256 msg) d.1, d.2)

/-! ## Anchors (R453) -/

/-- The anchor record in the Locket: authority key, maker key and the last accepted counter, in this order (assumption 12). -/
def State.anchorRecord (s : State) : List Byte := s.lktBytes (s.areaStart 0) 192

/-- Whether the anchor record is empty; a DAMAGED one never is (R871). -/
def State.anchorEmpty (s : State) : Bool := !s.areaDamaged 0 && s.anchorRecord.all (· == 0)

/-- The anchors in force: the record's, or for one boot the image's while the record is empty (R821). -/
def State.anchorBytes (s : State) : List Byte :=
  match s.key.bootAnchors with | some b => if s.anchorEmpty then fit 192 b else s.anchorRecord | none => s.anchorRecord
def State.authorityKey (s : State) : List Byte := s.anchorBytes.take 64
def State.makerKey (s : State) : List Byte := slice s.anchorBytes 64 64
def State.authCounter (s : State) : Nat := ofLe (slice s.anchorBytes 128 4)

/-- The items that write an anchor record. -/
def State.anchorItems (s : State) (authority maker : List Byte) (ctr : Nat) : List LktItem :=
  s.areaItems 0 (fit 64 authority ++ fit 64 maker ++ leBytes 4 ctr)

/-- ECDSA over a message with the authority key; a DAMAGED record verifies nothing (R871). -/
def State.authorityVerifies (s : State) (msg sig : List Byte) : Bool := !s.areaDamaged 0 && ecdsaVerify s.authorityKey (sha256 msg) sig

/-- The public key that SIGNER names: 0 the authority anchor, 1 to 4 operator key 0 to 3 (Table 10-4, R646). -/
def State.signerKey (s : State) (signer : Nat) : List Byte :=
  if signer = 0 then (if s.areaDamaged 0 then [] else s.authorityKey) else s.key.opKeys.getD (signer - 1) []

/-! ## The host's level (R449, R451) -/

/-- Change the ladder; a change of the host's level raises E_150 (R505), and a return to PUBLIC ends the host's region grants (R565). -/
def State.setPriv (s : State) (p : Priv) : State :=
  let s1 : State := { s with priv := p }
  if s1.hostLevel = s.hostLevel then s1
  else
    let s2 := s1.raise 150
    if s2.hostLevel = 0 then s2.dropGrants (fun g => g.master == 3) else s2

/-- The host returns to PUBLIC (R451). -/
def State.hostToPublic (s : State) : State :=
  (s.setPriv { s.priv with elevated := none, driver := none }).dropGrants (fun g => g.master == 3)

/-! ## The credential table (R463 to R465) -/

/-- Base of the credential RAM. -/
def crdBase : Nat := 0x20000000

/-- Fields of credential entry i (Table 10-3). -/
def State.crdTid (s : State) (i : Nat) : Nat := s.word (crdBase + 128 * i) 8
def State.crdKey (s : State) (i : Nat) : List Byte := s.bytes (crdBase + 128 * i + 8) 40
def State.crdPriv (s : State) (i : Nat) : Nat := s.word (crdBase + 128 * i + 48) 1
def State.crdFlags (s : State) (i : Nat) : Nat := s.word (crdBase + 128 * i + 49) 1
def State.crdCell (s : State) (i : Nat) : Nat := s.word (crdBase + 128 * i + 50) 2
def State.crdNotBefore (s : State) (i : Nat) : Nat := s.word (crdBase + 128 * i + 52) 4
def State.crdNotAfter (s : State) (i : Nat) : Nat := s.word (crdBase + 128 * i + 56) 4
def State.crdCtrBase (s : State) (i : Nat) : Nat := s.word (crdBase + 128 * i + 60) 4
def State.crdRef (s : State) (i : Nat) : List Byte := s.bytes (crdBase + 128 * i + 64) 16

/-- DRIVER_REF for a record about credential i; zeros where none is concerned (0xFFFF). -/
def State.refOf (s : State) (i : Nat) : List Byte := if i < 4096 then s.crdRef i else noRef

/-- The privilege mask in force (R464). -/
def State.crdMask (s : State) (i : Nat) : Nat := s.crdPriv i &&& s.reg Reg.CRD_PRIV_CEIL_MASK

/-- Whether the table serves proofs. -/
def State.crdServes (s : State) : Bool := s.flag Reg.CRD_CTRL_EN && s.crd.tableValid

/-- The index of a TID in the table. -/
def State.findTid (s : State) (tid : Nat) : Option Nat :=
  if tid = 0 ∨ !s.crdServes then none else (List.range 4096).find? (fun i => s.crdTid i == tid)

/-- Rolling-counter cell c (Table 12-2). -/
def State.cell (s : State) (c : Nat) : Nat := s.lktWord (0x2000 + 4 * c) 4

/-- The time by which validity windows are judged, s (R286): the RTC. -/
def State.windowTime (s : State) : Option Nat := s.rtcMs.map (· / 1000)

/-- Time bounds against a time (R465). -/
def inWindow (nb na t : Nat) : Bool := (nb == 0 || decide (nb ≤ t)) && (na == 0 || decide (t ≤ na))

/-- Unwrap K_T of credential i under the KEK (R276), without counting. -/
def State.unwrapKt (s : State) (i : Nat) : Option (List Byte) := aesUnwrap (s.slot 255).key (s.crdKey i)

end Sys2Proof.Machine
end

