-- ==== Sys2Proof/Machine/JournalOps.lean ====
section
/-! DEFINITION. The journal's operations (chapter 13): records and their chain, capacity, assignment, programs, acceptance, seals,
mount, export batches. -/
namespace Sys2Proof.Machine

/-! ## Records (R612, R613, R615) -/

/-- Bytes 0 to 79 of a record. -/
def JRec.head (r : JRec) : List Byte := leBytes 6 r.seq ++ leBytes 6 r.time ++ leBytes 2 r.typ ++ leBytes 2 r.source ++ fit 64 r.payload

/-- The 128 bytes of a record (Table 13-3). -/
def JRec.bytes (r : JRec) : List Byte :=
  let b := r.head ++ fit 32 r.chain
  b ++ rsParity b

/-- The genesis value of a journal (R615). -/
def genesis (devnum : Nat) (id : List Byte) (seq : Nat) : List Byte :=
  sha256 ([0x4A, 0x4E, 0x4C, 0x47] ++ beBytes 8 devnum ++ fit 8 id ++ leBytes 6 seq)

/-- The chain value of a record after a previous chain value (R615). -/
def chainAfter (prev : List Byte) (r : JRec) : List Byte := sha256 (prev ++ r.head)

/-! ## Capacity (R610, R611) -/

/-- Density in Gbit: the register, or the parameter page when it reads 0 (R609). -/
def State.jnlGbit (s : State) : Nat :=
  let d := s.reg Reg.JNL_NAND_DENSITY
  if d = 0 then s.jnl.nandGbit else 2 ^ (d - 1)

/-- Blocks B of the NAND. -/
def State.jnlBlocks (s : State) : Nat := 512 * s.jnlGbit

/-- Usable journal blocks: 15B/16 less the bad blocks in excess of the replacement blocks. -/
def State.jnlUsable (s : State) : Nat := 15 * s.jnlBlocks / 16 - (s.jnl.badBlocks - (s.jnlBlocks / 16 - 3))

/-- Capacity C and normal limit N (R611). -/
def State.jnlC (s : State) : Nat := 2048 * s.jnlUsable
def State.jnlN (s : State) : Nat := s.jnlC - s.jnlC / 16

/-- Every record assigned and retained, oldest first. -/
def Jnl.recs (j : Jnl) : List JRec := j.nand ++ j.prog ++ j.open_

/-- USED: slots from the one that holds ACK_NEXT up to and including the last one assigned, voids between included. -/
def Jnl.used (j : Jnl) : Nat :=
  match j.recs.find? (fun r => decide (j.ackNext ≤ r.seq)), j.recs.getLast? with
  | some r, some l => l.slot + 1 - r.slot
  | _, _ => 0

/-- Since when the oldest unprogrammed record waits (R622). -/
def Jnl.openSince (j : Jnl) : Nat := match j.open_ with | r :: _ => r.at_ | [] => 0

/-- SEQ of the last accepted record, plus one; 0 for a blank NAND. -/
def Jnl.acceptedTop (j : Jnl) : Nat := match j.nand.getLast? with | some r => r.seq + 1 | none => 0

/-- JNL_STAT.STATE (Table 13-9). -/
def State.jnlState (s : State) : Nat :=
  if s.jnl.noNand then 6 else if s.jnl.foreign_ then 5 else if !s.jnl.mounted then 0
  else if s.jnlC ≤ s.jnl.used then 4 else if s.jnlN ≤ s.jnl.used then 3
  else if s.reg Reg.JNL_CFG_NEAR * s.jnlN / 16 ≤ s.jnl.used then 2 else 1

/-- Record types of class BULK (Table 13-5). -/
def bulkType (t : Nat) : Bool := t == 0x0070 || (decide (0x6000 ≤ t) && decide (t < 0xC000))

/-! ## Assignment (R616 to R619, R627, R635) -/

/-- SOURCE of a record (Table 13-3). -/
def State.sourceOf (s : State) (n : NewRec) (reserve : Bool) : Nat :=
  n.master + 16 * n.block + 512 * ofBool s.tsu.secondary + 1024 * ofBool s.pairDegraded + 2048 * ofBool reserve

/-- Send records to the STANDBY, at most 7 a frame, the last one with FLUSH; at most `n` frames (Tables 16-4, 16-5). Acceptance waits for the last one; the STANDBY acknowledges
in order. -/
def State.mirrorJnl (s : State) (wait : Nat) : Nat → List JRec → State
  | 0, _ => s
  | n + 1, l =>
    if l.isEmpty then s
    else
      let now := l.take 7
      let body := leBytes 2 now.length ++ leBytes 2 (if l.length ≤ 7 then 1 else 0) ++ now.flatMap JRec.bytes
      (s.mirror 33 0x11 0 wait body).mirrorJnl wait n (l.drop 7)

/-- Begin the program of the filled sectors of the open page (R622); the slots left in the last sector stay void. With a mirror, the records go to the
STANDBY under one MSEQ (Table 16-5). -/
def State.startProgram (s : State) : State :=
  if s.jnl.open_.isEmpty || !s.jnl.prog.isEmpty then s
  else
    let page (r : JRec) := r.slot / 32 == ((s.jnl.open_.head?.map JRec.slot).getD 0) / 32
    let recs := s.jnl.open_.filter page
    let later := s.jnl.open_.filter (fun r => !page r)
    let up := if later.isEmpty then (s.jnl.slotNext + 3) / 4 * 4 else s.jnl.slotNext
    let m := s.mirrorsNow
    let j := { s.jnl with prog := recs, open_ := later, slotNext := up, progOk := false,
                          progMseq := if s.mirrors then some (s.tsu.mseqNext + (recs.length + 6) / 7 - 1) else none }
    let s1 : State := { s with jnl := j }
    if m then
      State.mirrorJnl s1 ((s.reg Reg.JNL_CFG_FLUSH_MS + 6) * 1000) 5 recs
    else s1

/-- Assign SEQ and TIME to a record and fill its slot (R617 to R619, R622). -/
def State.assign (s : State) (n : NewRec) : State :=
  let full := decide (s.jnlN ≤ s.jnl.used)
  let t := s.timeForm
  let time := if n.typ = 7 then t else max s.jnl.lastTime t
  let r0 : JRec := { seq := s.jnl.next, time := time, typ := n.typ, source := s.sourceOf n full, payload := fit 64 n.payload,
                     chain := [], slot := s.jnl.slotNext, cmd := n.cmd, at_ := s.now, held := n.held }
  let r := { r0 with chain := chainAfter s.jnl.chain r0 }
  let waits := s.jnl.recWaits.map (fun w => if w.typ == n.typ && w.seq.isNone then { w with seq := some r.seq } else w)
  let wasBelow := decide (s.jnl.used < s.reg Reg.JNL_CFG_NEAR * s.jnlN / 16)
  let j := { s.jnl with
    open_ := s.jnl.open_ ++ [r]
    slotNext := s.jnl.slotNext + 1, next := s.jnl.next + 1, chain := r.chain, lastTime := time, recWaits := waits, fullTold := full && s.jnl.fullTold }
  let s1 : State := { s with jnl := j }
  let s2 := if wasBelow && decide (s.reg Reg.JNL_CFG_NEAR * s.jnlN / 16 ≤ s1.jnl.used) then s1.raise 168 else s1
  let s3 : State := if full && !s2.jnl.fullTold then
      let j := { s2.jnl with fullTold := true }
      State.raise { s2 with jnl := j } 169
    else s2
  let s3 := s3.hashed [112]
  if n.typ = 3 ∨ s3.jnl.slotNext % 32 = 0 then s3.startProgram else s3

/-- A record that JNL makes itself. -/
def jnlRec (typ : Nat) (payload : List Byte) : NewRec := { typ := typ, master := 0, block := blkJNL, payload := payload }

/-- The SEAL_HEAD record (Table 13-5). -/
def State.sealHead (s : State) (reason : Nat) : NewRec :=
  jnlRec 3 (beBytes 8 s.devnum ++ fit 8 s.jnl.journalId ++ leBytes 6 s.jnl.prevHead ++ leBytes 6 s.jnl.ackNext ++
    leBytes 1 reason ++ [0] ++ sha256 s.key.certificate)

/-- Assign a SEAL_HEAD (R627): periodic, or, where SEAL commands wait, the seal of all of them, also when the periodic one falls on the same SEQ (assumption 104). -/
def State.assignSeal (s : State) : State :=
  let seq := s.jnl.next
  let asked := !s.jnl.sealReq.isEmpty
  let s1 := (s.hashed [s.key.certificate.length]).assign (s.sealHead (ofBool asked))
  let waits : List RecWait := s.jnl.sealReq.map (fun c => { ring := 7, cmd := c, typ := 3, seq := some seq, data := leBytes 6 seq })
  { s1 with jnl := { s1.jnl with prevHead := seq, sealReq := [], lastSealSeq := if asked then seq else s1.jnl.lastSealSeq, recWaits := s1.jnl.recWaits ++ waits } }

/-- Whether the next SEQ is that of a periodic SEAL_HEAD (R627). -/
def State.sealDue (s : State) : Bool := s.jnl.next % 1024 == 1023

/-- Assign the LOST record (R636). -/
def State.assignLost (s : State) : State :=
  let n := jnlRec 6 (leBytes 4 (s.reg Reg.JNL_LOST_COUNT) ++ leBytes 6 s.jnl.lostFirst ++ leBytes 6 s.jnl.lostLast)
  (s.assign n).set Reg.JNL_LOST_COUNT 0

/-- Assign a record that JNL makes itself: a LOST record and the SEAL_HEADs that are due go first (R627, R636). -/
def State.assignDue (s : State) (n : NewRec) : State :=
  let s1 := if s.sealDue then s.assignSeal else s
  let s2 := if 0 < s1.reg Reg.JNL_LOST_COUNT then s1.assignLost else s1
  let s3 := if s2.sealDue || !s2.jnl.sealReq.isEmpty then s2.assignSeal else s2
  let s4 := if s3.sealDue then s3.assignSeal else s3
  s4.assign n

/-- The bus status and cause of a record refused for want of space; a hardware record is dropped, an APPEND completes (R635). -/
def State.refuseBulk (s : State) (n : NewRec) : State :=
  let s1 : State := if s.jnl.fullTold then s
    else
      let j := { s.jnl with fullTold := true }
      State.raise { s with jnl := j } 169
  match n.cmd with
  | some c => s1.failCmd blkJNL stFULL 6 (7, c)
  | none => s1

/-- What waits in Q_7 for space is held (R635, R636): it completes with DELAYED_OK. -/
def State.holdAppends (s : State) : State := { s with jnl := { s.jnl with q7 := s.jnl.q7.map (fun n => { n with held := true }) } }

/-- What JNL assigns next (R617, R627, R629, R635, R636); its chain needs HSH, which serves once it has run its test (R539). -/
def State.assignNext (s : State) : State :=
  if !s.jnl.mounted || s.jnl.foreign_ || s.jnl.noNand || !s.crypto.kat.contains blkHSH then s
  else if s.jnlC ≤ s.jnl.used then
    match s.jnl.q7 with
    | n :: rest =>
      let j := { s.jnl with q7 := rest }
      if bulkType n.typ then State.refuseBulk { s with jnl := j } n else s.holdAppends
    | [] => s
  else if s.sealDue then s.assignSeal
  else if 0 < s.reg Reg.JNL_LOST_COUNT then s.assignLost
  else if !s.jnl.sealReq.isEmpty then s.assignSeal
  else match s.jnl.sigReady with
    | sig :: rest =>
      let j := { s.jnl with sigReady := rest }
      State.assign { s with jnl := j } (jnlRec 4 sig)
    | [] =>
      match s.jnl.q46 with
      | n :: rest =>
        let j := { s.jnl with q46 := rest }
        let s1 : State := { s with jnl := j }
        if bulkType n.typ && decide (s.jnlN ≤ s.jnl.used) then s1.refuseBulk n else s1.assign n
      | [] =>
        match s.jnl.q7 with
        | n :: rest =>
          if 0xC000 ≤ n.typ ∧ s.jnlN ≤ s.jnl.used then s.holdAppends
          else
            let j := { s.jnl with q7 := rest }
            let s1 : State := { s with jnl := j }
            if bulkType n.typ && decide (s.jnlN ≤ s.jnl.used) then s1.refuseBulk n else s1.assign n
        | [] => s

/-- A record that Sachexis firmware appends through Q_7 on the security core (R695, R778, R801, R840): it waits for its SEQ, unless JNL takes no append (R641). -/
def State.firmwareRecord (s : State) (typ : Nat) (payload : List Byte) : State :=
  let n : NewRec := { typ := typ, master := 1, block := 0x1F, payload := fit 64 payload }
  if s.jnl.foreign_ || s.jnl.noNand then s else { s with jnl := { s.jnl with q7 := s.jnl.q7 ++ [n] } }

/-! ## Acceptance (R623, R627 to R632) -/

/-- The status of a record accepted now: DEGRADED also when the STANDBY refused or did not acknowledge it (R784). -/
def State.jnlStatus (s : State) : Nat := if s.jnl.progLone then stDEGRADED else s.acceptStatus

/-- By how much the record of a command came later than FLUSH_MS + 6 ms (Table 13-8). -/
def State.jnlDelay (s : State) (r : Running) : Nat := s.now - r.takenAt - (s.reg Reg.JNL_CFG_FLUSH_MS + 6) * 1000

/-- A Q_7 APPEND completes at the acceptance of its record; it counts as delayed beyond FLUSH_MS + 6 ms, and where it waited for space (Table 13-8). -/
def State.completeAppend (s : State) (r : JRec) : State :=
  match r.cmd with
  | none => s
  | some c => match s.runningSeq 7 c with
    | none => s
    | some cmd =>
      let st := s.jnlStatus
      s.completeAfter cmd blkJNL st (if st = stDEGRADED then 9 else 0) (max (s.jnlDelay cmd) (ofBool r.held)) (leBytes 6 r.seq)

/-- What the acceptance of one record brings about. -/
def State.acceptRec (s : State) (r : JRec) : State :=
  let s1 := s.completeAppend r
  let s2 : State := if r.typ = 3 then
      let j := { s1.jnl with heads := s1.jnl.heads ++ [⟨r.seq, r.chain⟩] }
      State.raise { s1 with jnl := j } 171
    else if r.typ = 4 then s1.raise 172 else s1
  let done := s2.jnl.recWaits.filter (fun w => w.seq == some r.seq)
  let j := { s2.jnl with recWaits := s2.jnl.recWaits.filter (fun w => !(w.seq == some r.seq)) }
  done.foldl (fun t w => match t.runningSeq w.ring w.cmd with
    | some cmd =>
      let st := t.jnlStatus
      t.completeAfter cmd (if w.ring = 0 then blkAON else blkJNL) st (if st = stDEGRADED ∧ w.ring ≠ 0 then 9 else 0) (if w.ring = 0 then 0 else t.jnlDelay cmd)
        (w.data ++ (if w.ring = 0 then leBytes 6 r.seq else []))
    | none => t) { s2 with jnl := j }

/-- Complete the FLUSH commands whose records have all been accepted. -/
def State.finishJnlFlushes (s : State) : State :=
  let open_ := s.jnl.prog ++ s.jnl.open_
  let done := s.jnl.flushes.filter (fun f => !open_.any (fun r => decide (r.seq < f.2)))
  let j := { s.jnl with flushes := s.jnl.flushes.filter (fun f => open_.any (fun r => decide (r.seq < f.2))) }
  done.foldl (fun t f => match t.runningSeq 7 f.1 with
    | some cmd => t.completeAfter cmd blkJNL t.jnlStatus (if t.jnlStatus = stDEGRADED then 9 else 0) (t.jnlDelay cmd) []
    | none => t) { s with jnl := j }

/-- A STANDBY acknowledges the journal items whose records its own program has now accepted (Table 16-5), and programs what has come since. -/
def State.mackJnl (s : State) : State :=
  let ok (m : Nat × Nat) := decide (m.2 ≤ s.jnl.acceptedTop)
  let done := s.tsu.jnlMacks.filter ok
  let t : State := { s with tsu := { s.tsu with jnlMacks := s.tsu.jnlMacks.filter (fun m => !ok m) } }
  let u := done.foldl (fun v m => v.sendMack m.1 stOK) t
  if u.tsu.jnlMacks.isEmpty then u else u.startProgram

/-- Accept the records of a program that has passed here, once its mirror item is settled (R623, Table 16-5). -/
def State.acceptProg (s : State) : State :=
  if s.jnl.progOk && s.mirrorDone s.jnl.progMseq then
    let recs := s.jnl.prog
    let j := { s.jnl with nand := s.jnl.nand ++ recs, prog := [], progOk := false, progMseq := none }
    let t := (recs.foldl State.acceptRec { s with jnl := j }).finishJnlFlushes
    State.mackJnl { t with jnl := { t.jnl with progLone := false } }
  else s

/-- The message that a SEAL_HEAD's signature covers (R628). -/
def State.sealMessage (s : State) (h : SealHead) : List Byte :=
  [0x4A, 0x4E, 0x4C, 0x53] ++ beBytes 8 s.devnum ++ leBytes 6 h.seq ++ h.chain

/-- The ring number that marks a PKE operation as JNL's. -/
def ringJnl : Nat := 64

/-- Hand PKE the message of the oldest unsigned SEAL_HEAD when PKE is free (R629); a slot that cannot serve leaves it pending (R876). -/
def State.sealStart (s : State) : State :=
  match s.jnl.signing, s.jnl.heads, s.crypto.pke with
  | none, h :: _, none =>
    if !s.pkeServes then s else
    let u := s.useSlot 254 useSIGN [2] 4
    if u.1 ≠ 0 then u.2
    else
      let d := u.2.hallmarkSig (u.2.sealMessage h)
      let op : PkeOp := { kind := .sign, slot := 254, ring := ringJnl, cmd := 0, out := d.1, cause := 0, dest := 0 }
      { d.2 with jnl := { d.2.jnl with signing := some h }, crypto := { d.2.crypto with pke := some op } }
  | _, _, _ => s

/-- A signature that SEAL_GO asks for starts as soon as PKE can take it (R540, R629): GO reads 1 until then; a PKE that is off or has failed its test, or a slot that cannot serve, clears it. -/
def State.sealPump (s : State) : State :=
  if !s.flag Reg.JNL_SEAL_CTL_GO || s.jnl.signing.isSome then s
  else if s.jnl.heads.isEmpty || !s.flag Reg.PKE_CTRL_EN || s.flag Reg.PKE_STAT_KAT_FAIL then s.set Reg.JNL_SEAL_CTL_GO 0
  else if !s.pkeFree then s
  else
    let t := s.sealStart
    t.set Reg.JNL_SEAL_CTL_GO (ofBool t.jnl.signing.isSome)

/-! ## Mount and format (R639 to R642) -/

/-- The value of the high-water ring; 0 when none is named. -/
def State.hwm (s : State) : Nat := if s.reg Reg.JNL_HWM_RING = 0 then 0 else s.ringValue (s.reg Reg.JNL_HWM_RING)

/-- The commands whose records a format drops unaccepted end with RESET_ABORT: appends, seals, acknowledgements, flushes and a batch being read (assumption 104). -/
def State.formatEnds (s : State) : State :=
  let recs := (s.jnl.prog ++ s.jnl.open_).filterMap JRec.cmd
  let waits := s.jnl.recWaits.filter (fun w => w.seq.isSome)
  let cmds := recs.map (fun c => (7, c)) ++ waits.map (fun w => (w.ring, w.cmd)) ++ s.jnl.flushes.map (fun f => (7, f.1)) ++
    (match s.jnl.reading with | some rd => [(8, rd.cmd)] | none => [])
  let j := { s.jnl with recWaits := s.jnl.recWaits.filter (fun w => w.seq.isNone), flushes := [], reading := none, signing := none }
  cmds.foldl (fun t p => t.failCmd (if p.1 = 0 then blkAON else blkJNL) stRESET 8 p) { s with jnl := j }

/-- Open a journal: a new identity, the genesis value, the FORMAT record (R615, R640, R642). -/
def State.format (s : State) (reason seq : Nat) : State :=
  let d := s.formatEnds.random 8
  let t := d.2
  let j := { t.jnl with nand := [], prog := [], open_ := [], slotNext := 0, next := seq, ackNext := seq, journalId := d.1,
                        chain := genesis t.devnum d.1 seq, heads := [], sigReady := [], prevHead := 0xFFFFFFFFFFFF, mounted := true,
                        foreign_ := false, batches := [], fullTold := false, formatWaits := false }
  State.assign { t with jnl := j } (jnlRec 2 (d.1 ++ leBytes 1 reason ++ leBytes 6 t.hwm ++ leBytes 1 t.jnlGbit))

/-- R642: the format that JNL_ADMIN.KEY = 0xF0 makes inside the authority window. SEQ goes on from the ring and from every SEQ assigned (R616). It waits for its JOURNAL_ID while RNG
serves nothing (R538); without a NAND there is nothing to format. -/
def State.authorityFormat (s : State) : State :=
  let top := max (max s.jnl.next s.jnl.acceptedTop) (if s.reg Reg.JNL_HWM_RING = 0 then 0 else s.hwm + 1)
  if s.jnl.noNand then s
  else if s.rngServes && s.crypto.kat.contains blkHSH then s.format 1 top
  else { s with jnl := { s.jnl with formatWaits := true } }

/-- ACK_NEXT from the newest ACK record or SEAL_HEAD (R639). -/
def ackFrom (l : List JRec) : Nat :=
  l.foldl (fun a r => if r.typ = 5 then ofLe (slice r.payload 0 6) else if r.typ = 3 then ofLe (slice r.payload 22 6) else a)
    (match l.head? with | some r => r.seq | none => 0)

/-- SEAL_HEADs that no SEAL_SIG has signed (R630, R631). -/
def unsignedHeads (l : List JRec) : List SealHead :=
  l.foldl (fun h r => if r.typ = 3 then h ++ [⟨r.seq, r.chain⟩] else if r.typ = 4 then h.drop 1 else h) []

/-- The BOOT record (Table 13-5). -/
def State.bootRec (s : State) : NewRec :=
  jnlRec 1 (leBytes 1 (s.reg Reg.PWR_RST_CAUSE_CAUSE) ++ leBytes 1 (s.reg Reg.SYS_BOOT_SOURCE) ++ leBytes 4 s.crd.generation ++
    leBytes 8 (s.ringValue 2) ++ leBytes 4 (s.ringValue 1))

/-- TIME_SETs whose record is lost before it has its SEQ end with NV_FAIL (assumption 104). -/
def State.waitsLost (s : State) : State :=
  let l := s.jnl.recWaits.filter (fun w => w.ring == 0 && w.seq.isNone)
  l.foldl (fun t w => t.failCmd blkAON stNV 0 (0, w.cmd)) { s with jnl := { s.jnl with recWaits := s.jnl.recWaits.filter (fun w => !(w.ring == 0 && w.seq.isNone)) } }

/-- JNL has no journal of its own to write: what waits in Q_7 ends with NV_FAIL, and what waits in Q_46 is lost (R641). -/
def State.jnlUnused (s : State) : State :=
  let cmds := s.jnl.q7.filterMap NewRec.cmd ++ s.jnl.sealReq
  let t : State := { s with jnl := { s.jnl with mounted := true, q46 := [], q7 := [], sealReq := [], lastSealAt := none } }
  let u := (cmds.foldl (fun x c => x.failCmd blkJNL stNV 5 (7, c)) t).waitsLost
  (s.jnl.q46.foldl (fun x _ => x.loseRecord) u).raise 175

/-- JNL mounts (R639 to R641). -/
def State.jnlMount (s : State) (nandOk : Bool) : State :=
  if !nandOk then State.jnlUnused { s with jnl := { s.jnl with noNand := true } }
  else
    let blank := s.jnl.nand.isEmpty
    if s.reg Reg.JNL_HWM_RING ≠ 0 ∧ ((blank ∧ s.hwm ≠ 0) ∨ s.jnl.acceptedTop ≤ s.hwm ∧ !blank) then
      State.jnlUnused { s with jnl := { s.jnl with foreign_ := true } }
    else if blank then
      let s1 := s.format 0 0
      (s1.assignDue s1.bootRec).raise 175
    else
      let j := { s.jnl with
        mounted := true, open_ := [], prog := [], progOk := false, heads := unsignedHeads s.jnl.nand, ackNext := ackFrom s.jnl.nand
        next := max s.jnl.next s.jnl.acceptedTop
        slotNext := (match s.jnl.nand.getLast? with | some r => (r.slot / 4 + 1) * 4 | none => 0)
        chain := (match s.jnl.nand.getLast? with | some r => r.chain | none => s.jnl.chain)
        lastTime := (match s.jnl.nand.getLast? with | some r => r.time | none => 0)
        prevHead := (match (s.jnl.nand.filter (fun r => r.typ == 3)).getLast? with | some r => r.seq | none => 0xFFFFFFFFFFFF) }
      let s1 : State := { s with jnl := j }
      (s1.assignDue s1.bootRec).raise 175

/-! ## Export batches (R643 to R647) -/

/-- Header of a batch (Table 13-6). -/
def State.batchHead (s : State) (flags count first : Nat) (nonce : List Byte) (damaged : Nat) : List Byte :=
  leBytes 4 0x4A585644 ++ leBytes 1 1 ++ leBytes 1 flags ++ leBytes 2 count ++ beBytes 8 s.devnum ++ fit 8 s.jnl.journalId ++
    leBytes 6 first ++ [0, 0] ++ nonce ++ [0, 0, 0, 0] ++ leBytes 16 damaged

/-- A record as the NAND gives it: its bytes with read errors (byte, pattern), decoded under R614; and whether it was corrected or is DAMAGED. -/
def readRecord (r : JRec) (errs : List (Nat × Byte)) : List Byte × Bool × Bool :=
  let b := errs.foldl (fun (l : List Byte) e => l.set e.1 (l.getD e.1 0 ^^^ e.2)) r.bytes
  match rsDecode b with
  | some d => (d.1, d.2, false)
  | none => (b, false, true)

end Sys2Proof.Machine
end

