-- ==== Sys2Proof/Machine/CryptoOps.lean ====
section
/-! DEFINITION. The engines' operations (chapter 11): PKE, RNG's states, the payloads of the crypto commands. -/
namespace Sys2Proof.Machine

/-! ## PKE (R521, R523, R540, R541) -/

/-- A Hallmark signature for a queue command (R477, R541, R876): it starts on PKE and is delivered at PKE_OP_COMPLETE. -/
def State.hallmarkSign (s : State) (r : Running) (msg before : List Byte) : State :=
  if r.started then s
  else if s.flag Reg.PKE_STAT_KAT_FAIL then s.complete r blkKEY stPOLICY 6 []
  else if !s.pkeFree || !s.inTurn pkeHolds r then s
  else
    let u := s.useSlot 254 useSIGN [2] 0
    if u.1 ≠ 0 then u.2.complete r blkKEY (causeStatus u.1) 0 []
    else
      let d := u.2.hallmarkSig msg
      let op : PkeOp := { kind := .sign, slot := 254, ring := r.ring, cmd := r.entry.seq, out := before ++ d.1, cause := 0, dest := r.dest }
      let t := d.2.startCmd r
      { t with crypto := { t.crypto with pke := some op } }

/-! ## RNG (R528 to R538) -/

/-- A key generation that waits for RNG OK goes on once it is (R537). -/
def State.genResume (s : State) : State :=
  if s.key.genWaits.isSome ∧ s.crypto.rng.state = .ok then State.newKek { s with key := { s.key with genWaits := none } } else s

/-- RNG enters OK (Table 11-6): E_157 is raised when it comes from FAILED or UNSEEDED. -/
def State.rngOk (s : State) : State :=
  let was := s.crypto.rng.state
  let g := { s.crypto.rng with state := .ok, consecutive := 0 }
  let s1 : State := { s with crypto := { s.crypto with rng := g } }
  if was = .failed ∨ was = .unseeded then s1.raise 157 else s1

/-- RNG enters FAILED or UNSEEDED. -/
def State.rngFail (s : State) (st : RngState) : State :=
  let g := { s.crypto.rng with state := st, failedAt := s.now }
  State.raise { s with crypto := { s.crypto with rng := g } } 156

/-- A CRYPTO_FAULT record (Table 13-5). -/
def State.cryptoFault (s : State) (block kind : Nat) : State := s.journal block 0x0051 (leBytes 1 block ++ leBytes 1 kind)

/-- A collection fails (R529): each test that fails is counted; E_155 and the record once (assumption 114). -/
def State.testFails (s : State) (raw : BitVec 1024) : State :=
  let s1 := if rctFails raw then s.bump Reg.RNG_STAT_RCT_FAIL else s
  let s2 := if aptFails raw then s1.bump Reg.RNG_STAT_APT_FAIL else s1
  (s2.raise 155).cryptoFault blkRNG 2

/-- The DRBGs are instantiated and RNG enters OK, once the Locket has accepted the raised boot counter; while it refuses that, RNG has no state to serve from (R535, assumption 114). -/
def State.rngStart (s : State) (raw : BitVec 1024) : State :=
  let c := s.countBoot
  if c.1 then (c.2.instantiateRng (rawBytes raw)).rngOk else c.2.rngFail .unseeded

/-- A start-up test fails (Table 11-6): with a seed record both DRBGs come from it alone (E_158), else RNG is UNSEEDED. -/
def State.startupFails (s : State) (raw : BitVec 1024) : State :=
  let t := s.testFails raw
  if t.pins.wpLow || !t.seedReads then t.rngFail .unseeded
  else
    let c := t.countBoot
    if c.1 then ((c.2.instantiateRng []).rngFail .failed).raise 158 else c.2.rngFail .unseeded

/-- A collection in OK or RESTART has failed: RNG restarts it, and after the third consecutive failure is FAILED (Table 11-6). -/
def State.collectionFails (s : State) (raw : BitVec 1024) : State :=
  let t := s.testFails raw
  let n := if t.crypto.rng.state = .restart then t.crypto.rng.consecutive + 1 else 1
  if 3 ≤ n then t.rngFail .failed else { t with crypto := { t.crypto with rng := { t.crypto.rng with state := .restart, consecutive := n } } }

/-! ## The payloads of the crypto commands (Table 11-7, R872; assumption 14) -/

/-- The operands of AEAD_SEAL and AEAD_OPEN. -/
structure AeadArgs where
  slot : Nat
  mode : Nat
  tagLen : Nat
  nonce : List Byte
  aAddr : Nat
  aLen : Nat
  pAddr : Nat
  pLen : Nat
  deriving DecidableEq, Repr

/-- Slot, mode, tag length, then, where a nonce is given, its length and bytes, then header and payload, each as address and length. -/
def aeadArgs (r : Running) (given : Bool) : AeadArgs :=
  let nlen := if given then r.num 3 1 else 0
  let o := if given then 4 + nlen else 3
  { slot := r.num 0 1, mode := r.num 1 1, tagLen := r.num 2 1, nonce := if given then r.sub 4 nlen else [],
    aAddr := r.num o 4, aLen := r.num (o + 4) 4, pAddr := r.num (o + 8) 4, pLen := r.num (o + 12) 4 }

/-- Whether lengths, tag, nonce and mode lie inside Table 11-1. -/
def AeadArgs.allowed (a : AeadArgs) (given : Bool) : Bool :=
  decide (a.aLen ≤ 4096) && decide (a.pLen ≤ 16384) &&
    (if a.mode = 0 then decide (12 ≤ a.tagLen) && decide (a.tagLen ≤ 16) && (!given || a.nonce.length == 12)
     else a.mode == 1 && decide (4 ≤ a.tagLen) && decide (a.tagLen ≤ 16) && a.tagLen % 2 == 0 &&
       (!given || (decide (7 ≤ a.nonce.length) && decide (a.nonce.length ≤ 13))))

/-- Whether a range lies where the issuer may reach; an empty one always does. -/
def State.cryptoRange (s : State) (m a n : Nat) : Bool :=
  n == 0 || s.rangeOk m a n

/-- A completion of a crypto command; REFUSED_FULL raises E_159 (Table 11-13), and AEA counts its own (Table 11-9). -/
def State.cryptoEnd (s : State) (r : Running) (block cause : Nat) (data : List Byte) : State :=
  let t := s.complete r block (causeStatus cause) cause data
  if cause = 7 then (if block = blkAEA then t.bumpI Reg.AEA_ERR_REFUSED (r.ring - 4) else t).raise 159 else t

/-! ## The causes of Table 11-8, in its order (R547, R548) -/

/-- Whether a command has waited at the head of its ring for BULK_WAIT ms. -/
def State.bulkLate (s : State) (r : Running) : Bool := s.since r.headAt (1000 * s.reg Reg.AEA_CFG_BULK_WAIT)

/-- The block that serves a command of Q_4 or Q_5 (Table 11-7). -/
def cryptoBlock (code : Nat) : Nat := if code = 3 then blkHSH else if code = 4 ∨ code = 5 ∨ code = 6 then blkPKE else if code = 7 then blkRNG else blkAEA

/-- Cause 7 of a command that has not started, then the causes of its slot. -/
def State.lateCause (s : State) (r : Running) (slot : Nat) : Nat := if s.bulkLate r then 7 else slot

/-- An AEAD command: the first cause that holds before an engine is sought; 0: none. -/
def State.aeadCause (s : State) (r : Running) (a : AeadArgs) (given isOpen : Bool) : Nat :=
  let x := s.slot a.slot
  let m := r.entry.master
  let outLen := if isOpen then a.pLen else a.pLen + a.tagLen
  let srcLen := if isOpen then a.pLen + a.tagLen else a.pLen
  let c := s.slotCause a.slot (if isOpen then useOPEN else useSEAL) [0, 1] 0
  if !a.allowed given || decide (r.destLen < outLen) then 1
  else if !s.cryptoRange m a.aAddr a.aLen || !s.cryptoRange m a.pAddr srcLen || !s.cryptoRange m r.dest outLen then 2
  else if r.level < x.owner then 3
  else if c = 4 then 4
  else if !isOpen && (a.mode == 0) != x.deviceNonce then 5
  else if !isOpen && x.deviceNonce && s.nonceRefused then 5
  else if s.enginesFailed then 6
  else s.lateCause r (if c ≠ 10 ∧ !isOpen ∧ x.deviceNonce ∧ s.nonceSpent then 10 else c)

/-- A PKE command with a slot. -/
def State.pkeCause (s : State) (r : Running) (slot use srcLen outLen : Nat) : Nat :=
  let m := r.entry.master
  let c := s.slotCause slot use [2] 0
  if r.destLen < outLen then 1
  else if !s.cryptoRange m (r.num 1 4) srcLen || !s.cryptoRange m r.dest outLen then 2
  else if r.level < (s.slot slot).owner then 3
  else if c = 4 then 4
  else if s.flag Reg.PKE_STAT_KAT_FAIL then 6
  else s.lateCause r c

/-- VERIFY. -/
def State.verifyCause (s : State) (r : Running) : Nat :=
  if !s.cryptoRange r.entry.master (r.num 0 4) 160 then 2 else if s.flag Reg.PKE_STAT_KAT_FAIL then 6 else s.lateCause r 0

/-- HASH. -/
def State.hashCause (s : State) (r : Running) : Nat :=
  let n := r.num 4 4
  if 1048576 < n ∨ r.destLen < 32 then 1
  else if !s.cryptoRange r.entry.master (r.num 0 4) n || !s.cryptoRange r.entry.master r.dest 32 then 2
  else if s.flag Reg.HSH_STAT_KAT_FAIL then 6
  else s.lateCause r 0

/-- RANDOM. -/
def State.randomCause (s : State) (r : Running) : Nat :=
  let n := r.num 0 2
  if n = 0 ∨ 256 < n ∨ r.destLen < n then 1
  else if !s.cryptoRange r.entry.master r.dest n then 2
  else if s.flag Reg.RNG_STAT_KAT_FAIL then 6
  else s.lateCause r 0

/-- Whether an AEAD command gives its nonce. -/
def State.nonceGiven (s : State) (r : Running) : Bool := r.entry.code == 2 || !(s.slot (r.num 0 1)).deviceNonce

/-- A command of Q_4 or Q_5 that has not started. -/
def State.cryptoCause (s : State) (r : Running) : Nat :=
  if r.entry.code = 1 ∨ r.entry.code = 2 then s.aeadCause r (aeadArgs r (s.nonceGiven r)) (s.nonceGiven r) (r.entry.code == 2)
  else if r.entry.code = 3 then s.hashCause r
  else if r.entry.code = 4 then s.pkeCause r (r.num 0 1) useSIGN 32 64
  else if r.entry.code = 5 then s.verifyCause r
  else if r.entry.code = 6 then s.pkeCause r (r.num 0 1) useECDH 64 32
  else if r.entry.code = 7 then s.randomCause r
  else s.lateCause r 0

/-- Seal or open: ciphertext ‖ tag, or the plaintext when the tag verifies. -/
def aeadRun (key : List Byte) (a : AeadArgs) (nonce hdr src : List Byte) (isOpen : Bool) : Option (List Byte) :=
  if isOpen then
    let ct := src.take a.pLen
    let tag := slice src a.pLen a.tagLen
    if a.mode = 0 then gcmOpen key nonce hdr ct tag else ccmOpen key a.tagLen nonce hdr ct tag
  else if a.mode = 0 then
    let c := gcmSeal key nonce hdr src
    some (c.1 ++ c.2.take a.tagLen)
  else
    let c := ccmSeal key a.tagLen nonce hdr src
    some (c.1 ++ c.2)

end Sys2Proof.Machine
end

