-- ==== Sys2Proof/Machine/PwrOps.lean ====
section
/-! DEFINITION. What other blocks ask of power: the state the device is in, waking it, and breaking off a sleep entry (R112 to R125). -/
namespace Sys2Proof.Machine

/-- The sleep state entered; 0 when awake. -/
def State.sleeping (s : State) : Nat := match s.pwr.phase with | .sleep n => n | _ => 0

/-- Whether the MAIN domain runs: in the boot, in recovery, without an image, in run, or on the way into sleep. -/
def State.awake (s : State) : Bool :=
  match s.pwr.phase with
  | .boot | .run | .entering _ | .recovery | .noImage => true
  | _ => false

/-- Whether the MAIN domain is up (Table 01-1's domains; R112): from the end of the logic stage on, in recovery and without an image too. -/
abbrev State.mainUp (s : State) : Bool := s.awake

/-- Whether the AON domain has its supply: VSUP, or VHOLD behind it. -/
def State.aonLive (s : State) : Bool := s.pwr.phase != .off || s.pwr.aonUp

/-- Whether the cores run: a commit halts them first (R122, Table 03-4). -/
def State.coresRun (s : State) : Bool := s.awake && (match s.pwr.phase with | .entering _ => false | _ => true)

/-- Whether LF may drive now: no dip and no thermal stop (R110, R147). -/
def State.lfAllowed (s : State) : Bool := !s.pwr.dip && !s.pwr.thermal

/-- The enable bit of a wake source (R114): 1 LF, 2 UHF, 3 touch, 4 FD_N, 5 CAN_WAKE, 6 RTC, 7 tamper, 8 host. -/
def State.wakeEnabled (s : State) (src : Nat) : Bool :=
  if src = 1 then s.flag Reg.PWR_WAKE_EN_LF else if src = 2 then s.flag Reg.PWR_WAKE_EN_UHF
  else if src = 3 then s.flag Reg.PWR_WAKE_EN_TOUCH else if src = 4 then s.flag Reg.PWR_WAKE_EN_FD
  else if src = 5 then s.flag Reg.PWR_WAKE_EN_CAN else if src = 6 then s.flag Reg.PWR_WAKE_EN_RTC
  else if src = 7 then true else if src = 8 then s.flag Reg.PWR_WAKE_EN_HOST else false

/-- Whether a sleep state accepts a wake source (Table 03-2, R117). -/
def sleepAccepts (n src : Nat) : Bool :=
  if src = 6 ∨ src = 7 then decide (1 ≤ n ∧ n ≤ 4)
  else if src = 1 then decide (n = 1 ∨ n = 2)
  else decide (1 ≤ n ∧ n ≤ 3 ∧ 2 ≤ src ∧ src ≤ 8)

/-- A sleep entry is broken off (R123, R124, R799): the stopped blocks run again, OUTCOME is aborted with the block and cause, SLEEP_ABORTED on E_182; an
ACTIVE whose STANDBY sleeps already wakes it over CAN_0. The stop and the restart of the blocks are each one indivisible step, so their orders (`standardOrder`) leave no state in
between, and PHASE 3 is never read (DESIGN CHOICE, assumption 93). -/
def State.sleepRollback (s : State) (block cause : Nat) : State :=
  let f := { s.fences with stopped := [] }
  let p := { s.pwr with phase := .run }
  let slept : Bool := match s.tsu.sleepAnswer with | some a => a.1 && s.tsu.role == .active | none => false
  let c := if slept then { s.can with wakeSent := s.can.wakeSent + 1 } else s.can
  let u := if slept then { s.tsu with sleepAnswer := none } else s.tsu
  ((((State.raise { s with fences := f, pwr := p, can := c, tsu := u } 182).set Reg.PWR_SLEEP_STAT_OUTCOME 3).set Reg.PWR_SLEEP_STAT_REFUSER block).set
    Reg.PWR_SLEEP_STAT_CAUSE cause).set Reg.PWR_SLEEP_CTL_COMMIT 0

/-- A wake source asserts (R114, R115): in a sleep state that accepts it, WAKE_SRC records it and the power-up stages begin; coinciding sources record the
lowest code, where sources coincide that assert in the same microsecond (DESIGN CHOICE, assumption 93). Sources 1 to 3 have a channel index; INDEX reads 0 for the others. On the way into
sleep it breaks the entry off, PWR being the block named (DESIGN CHOICE, assumption 93); after a query it is remembered (R121), and a wake is no less a
source that has asserted since the query behind the sleep. -/
def State.wake (s : State) (src chan : Nat) : State :=
  let index := if src ≤ 3 then chan else 0
  if !s.wakeEnabled src then s
  else match s.pwr.phase with
    | .sleep n =>
      if !sleepAccepts n src then s
      else
        let p := { s.pwr with phase := .stage 0, wakeFrom := n, wakeAt := s.now, stageAt := s.now, disturbed := some 11 }
        (State.set { s with pwr := p, pins := { s.pins with bootStat := some 0 } } Reg.PWR_WAKE_SRC_SOURCE src).set Reg.PWR_WAKE_SRC_INDEX index
    | .stage 0 =>
      if 0 < s.pwr.wakeFrom ∧ s.now = s.pwr.wakeAt ∧ src < s.reg Reg.PWR_WAKE_SRC_SOURCE then
        (s.set Reg.PWR_WAKE_SRC_SOURCE src).set Reg.PWR_WAKE_SRC_INDEX index
      else s
    | .entering _ => s.sleepRollback blkPWR 11
    | _ => { s with pwr := { s.pwr with disturbed := some (s.pwr.disturbed.getD 11) } }

/-- The idle-day count returns to 0 and the S3 regime ends when a token has been authenticated (R126, R130). -/
def State.tokenAuthenticated (s : State) : State :=
  let s1 := (s.set Reg.PWR_IDLE_STAT_DAYS_ELAPSED 0).set Reg.PWR_IDLE_STAT_STORAGE 0
  { s1 with pwr := { s1.pwr with dayAt := s.now } }

/-- An accepted button telegram authenticates its token, lets sessions open again after S3 (R128) and ends the 10 s of listening (R129, R304). -/
def State.buttonAuthenticated (s : State) : State :=
  let t := s.tokenAuthenticated
  { t with pwr := { t.pwr with listenSince := none, s3Held := false } }

/-! ## Watchdogs (R849) -/

/-- A watchdog. -/
def State.wdg (s : State) (c : Nat) : Wdg := if c = 0 then s.tmp.wdg0 else s.tmp.wdg1

/-- Whether a watchdog counts now (R849): it is enabled and its core runs. -/
def State.wdgRuns (s : State) (c : Nat) : Bool := s.regI Reg.TMP_WDG_CFG_EN c == 1 && s.mainUp

/-- TIMEOUT in µs. -/
def State.wdgLimit (s : State) (c : Nat) : Nat := 1000 * s.regI Reg.TMP_WDG_CFG_TIMEOUT c

/-- A watchdog's ms left (TMP_WDG_STAT). -/
def State.wdgRemain (s : State) (c : Nat) : Nat :=
  if s.wdgRuns c then (s.wdgLimit c - (s.now - (s.wdg c).loadedAt)) / 1000 else if 0 < s.sleeping then (s.wdgLimit c - (s.wdg c).loadedAt) / 1000 else s.regI Reg.TMP_WDG_CFG_TIMEOUT c

/-- A solve falls due (R368), in turn (R373). -/
def State.solveDue (s : State) (session handle : Nat) (block : Option Nat) : State :=
  { s with loc := { s.loc with due := s.loc.due ++ [{ session := session, handle := handle, block := block, off := !s.flag Reg.LOC_CTRL_EN }] } }

end Sys2Proof.Machine
end

