-- ==== Sys2Proof/Machine/LfaOps.lean ====
section
/-! DEFINITION. The LF schedule as operations (chapter 04): descriptors, sequences, the Fret boundary, the field limiter, channel faults. -/
namespace Sys2Proof.Machine

/-! ## Descriptors (Table 04-1) -/

/-- Bus address of the Fret RAM. -/
def fretRam : Nat := 0x40068000

/-- A slot of a descriptor: channel, enable, amplitude, phase, and whether its reserved bit is 0. -/
structure FretSlot where
  ch : Nat
  en : Bool
  ampl : Nat
  phase : Nat
  clean : Bool
  deriving DecidableEq, Repr

/-- A descriptor, parsed. -/
structure Descriptor where
  kind : Nat
  chain : Bool
  capture : Bool
  clean : Bool
  times : Nat
  next : Nat
  slots : List FretSlot
  deriving DecidableEq, Repr

/-- The 24 bits of a slot. -/
def fretSlot (n : Nat) : FretSlot := { ch := bits n 0 4, en := bit n 4, ampl := bits n 5 10, phase := bits n 15 8, clean := !bit n 23 }

/-- Parse 16 bytes. -/
def descriptor (l : List Byte) : Descriptor :=
  let b0 := ofLe (slice l 0 1)
  { kind := bits b0 0 3, chain := bit b0 3, capture := bit b0 4, clean := bits b0 5 3 == 0 && ofLe (slice l 3 1) == 0,
    times := ofLe (slice l 1 1), next := ofLe (slice l 2 1),
    slots := (List.range 4).map (fun i => fretSlot (ofLe (slice l (4 + 3 * i) 3))) }

/-- The descriptor of an index. -/
def State.descriptorAt (s : State) (i : Nat) : Descriptor := descriptor (s.bytes (fretRam + 16 * i) 16)

/-- The enabled slots. -/
def Descriptor.enabled (d : Descriptor) : List FretSlot := d.slots.filter FretSlot.en

/-- R182: malformed. -/
def Descriptor.malformed (d : Descriptor) : Bool :=
  decide (4 ≤ d.kind) || !d.clean || !d.slots.all FretSlot.clean || (d.enabled.map FretSlot.ch).eraseDups.length != d.enabled.length

/-- R188: the channel count. -/
def Descriptor.channels (d : Descriptor) : Nat := if d.kind = 3 then 1 else d.enabled.length

/-! ## The field limiter (R193 to R198) -/

/-- Driven cycles of a channel in the last second. -/
def State.dutyOf (s : State) (ch : Nat) : Nat := ((s.lfa.duty.filter (fun d => d.1 == ch && !s.since d.2.1 1000000)).map (fun d => d.2.2)).sum

/-- The most cycles that a channel may be driven in 1 s. -/
def State.dutyLimit (s : State) : Nat := s.reg Reg.LFA_CARRIER_FREQ / 10

/-- Record driven cycles. -/
def State.addDuty (s : State) (ch cycles : Nat) : State :=
  let l := s.lfa.duty.filter (fun d => !s.since d.2.1 1000000)
  { s with lfa := { s.lfa with duty := l ++ [(ch, s.now, cycles)] } }

/-- The limiter's ceiling of a channel. -/
def State.ceiling (s : State) (ch : Nat) : Nat := storeGet 0 s.lfa.ceil ch

/-- The limiter reloads its copy when GOV_LF_CEIL_n is written (R198). -/
def State.reloadCeiling (s : State) (ch : Nat) : State :=
  { s with lfa := { s.lfa with ceil := storeSet 0 s.lfa.ceil ch (s.regI Reg.GOV_LF_CEIL_CEIL ch) } }

/-- A FIELD_LIMIT record (Table 13-5). -/
def State.fieldLimit (s : State) (ch ampl event : Nat) : State :=
  (s.bump Reg.GOV_ERR_FIELD).journal blkGOV 0x0025 (leBytes 1 ch ++ leBytes 2 ampl ++ leBytes 2 (s.ceiling ch) ++ leBytes 1 event)

/-! ## Channels -/

/-- Set a latch of LFA_CH_STAT_n and raise E_64 + n (R203). -/
def State.latch (s : State) (f : Field) (ch : Nat) : State := (s.setI f ch 1).raise (64 + ch)

/-- Whether a channel can be driven: EN set, not DISABLED, its bank not held off (R167, R168, R202). -/
def State.chUsable (s : State) (ch : Nat) : Bool :=
  s.regI Reg.LFA_CH_CFG_EN ch == 1 && s.regI Reg.LFA_CH_STAT_DISABLED ch == 0 && !s.lfa.bankOff.contains (ch / 4)

/-- Whether driving a Fret would break the duty limit: the cycles that each channel it would drive needs (R189, R194). -/
def State.breaksDuty (s : State) (d : Descriptor) (cycles : Nat) : Bool :=
  d.enabled.any (fun x => s.chUsable x.ch && decide (s.dutyLimit < s.dutyOf x.ch + cycles))

/-- The target of R174. -/
def State.target (s : State) (ch ampl : Nat) : Nat := min 1023 ((ampl * s.regI Reg.LFA_CH_CAL_GAIN ch + 256) / 512)

/-- The regulated phase of R175. -/
def State.targetPhase (s : State) (ch phase : Nat) : Nat := (phase + s.regI Reg.LFA_CH_CAL_PHASE_OFS ch) % 256

/-! ## Sequences -/

/-- Table 04-3: the status of a cause. -/
def lfStatus (cause : Nat) : Nat :=
  if cause = 0 then stOK else if cause = 1 ∨ cause = 2 ∨ cause = 3 ∨ cause = 7 then stPOLICY else if cause = 4 ∨ cause = 5 then stFULL
  else if cause = 6 then stPOWER else if cause = 8 then stBLOCKOFF else stRESET

/-- The running Fret drives a channel that is not off. -/
def State.drives (s : State) (ch : Nat) : Bool :=
  match s.lfa.fret with | some f => f.slots.any (fun x => x.1 == ch) && !f.off.contains ch | none => false

/-- Change the running Fret. -/
def State.onFret (s : State) (g : Fret → Fret) : State := { s with lfa := { s.lfa with fret := s.lfa.fret.map g } }

/-- Channels go off in the running Fret, at a time. -/
def Fret.switchOff (f : Fret) (chs : List Nat) (t : Nat) : Fret :=
  let l := chs.filter (fun c => !f.off.contains c)
  { f with off := l ++ f.off, offAt := l.map (fun c => (c, t)) ++ f.offAt }

/-- A channel whose EN is cleared is never driven (R167): in the Fret that runs it is off at once. Whether a CW Fret is then marked not valid the spec leaves open, R202 naming slots that
are skipped: it stays as it was (DESIGN CHOICE, assumption 108). -/
def State.channelOff (s : State) (ch : Nat) : State := if s.drives ch then s.onFret (fun f => f.switchOff [ch] s.now) else s

/-! ## Driven cycles (R193, R194) -/

/-- Cycles driven in the first n cycles of a keyed Fret: the units keyed on, and the four cycles of the quench where one is switched off (R177, R193). -/
def keyedCycles (keys n : Nat) : Nat :=
  ((List.range 16).map (fun u => min (n - 16 * u) (if bit keys (u + 1) then 16 else if bit keys u then 4 else 0))).sum

/-- The DATA keying of a Fret, of those whose plan gives it. -/
def Fret.keys (f : Fret) : Option Nat := if f.kind = 1 then f.item.map FretItem.keys else none

/-- Cycles that a channel is driven in the first n cycles of a Fret: 16 from the begin of its ping, the keyed ones of a downlink frame, else all (Table 04-2). -/
def Fret.driven (f : Fret) (ch n : Nat) : Nat :=
  if f.kind = 3 then min 16 (n - storeGet 0 f.begins ch)
  else match f.keys with
    | some k => keyedCycles k n
    | none => n

/-- Whether the carrier is on in cycle n − 1 of a CW or DATA Fret, so that a channel switched off behind it is quenched. -/
def Fret.quenched (f : Fret) (n : Nat) : Bool :=
  decide (0 < n) && f.kind != 3 && (match f.keys with | some k => bit k ((n - 1) / 16 + 1) | none => true)

/-- Cycles that a channel is driven when it is switched off, or the Fret is cut, behind cycle n: those until then and those of the quench (R193). -/
def Fret.drivenOff (f : Fret) (ch n : Nat) : Nat := min 256 (f.driven ch n + (if f.quenched n then 4 else 0))

/-- The cycles of the running Fret that have begun at a time. -/
def State.fretCycle (s : State) (f : Fret) (t : Nat) : Nat := min 256 (((t - f.at_) * s.reg Reg.LFA_CARRIER_FREQ + 999999) / 1000000)

/-- Cycles that a channel was driven in the Fret that ends: as sensed, else by its drive until it was switched off. -/
def State.drivenCycles (s : State) (f : Fret) (driven : List (Nat × Nat)) (ch : Nat) : Nat :=
  match driven.find? (fun d => d.1 == ch), f.offAt.find? (fun d => d.1 == ch) with
  | some d, _ => if f.kind = 3 then 16 else min 256 d.2
  | none, some o => f.drivenOff ch (s.fretCycle f o.2)
  | none, none => f.driven ch 256

/-- The running Fret is cut: the cycles that each channel was driven in it, a begun one counted whole, enter the duty count (R193, R194). -/
def State.cutFret (s : State) : State :=
  match s.lfa.fret with
  | none => s
  | some f =>
    let end_ (ch : Nat) := match f.offAt.find? (fun d => d.1 == ch) with | some o => o.2 | none => s.now
    f.slots.foldl (fun t x => t.addDuty x.1 (f.drivenOff x.1 (s.fretCycle f (end_ x.1)))) s

/-- A sequence has ended: E_64 + n for every channel that it drove (R203). -/
def State.raiseDriven (s : State) (l : List Nat) : State := (l.eraseDups).foldl (fun t ch => t.raise (64 + ch)) s

/-- Put a slot's register bytes into a completion's list: the latest of each slot (R220). -/
def putSlot (l : List (Nat × List Byte)) (k : Nat) (v : List Byte) : List (Nat × List Byte) :=
  if l.any (fun x => x.1 == k) then l.map (fun x => if x.1 == k then (k, v) else x) else l ++ [(k, v)]

/-- Mean amplitude and phase of a channel's captures: the phase as the mean of the differences from the first, both rounded down (DESIGN CHOICE, assumption 96: Table 04-5 names a mean
and gives neither its rounding nor the mean of a phase that wraps). -/
def calMean (l : List (Nat × Nat × Nat)) (ch : Nat) : List Byte :=
  let m := l.filter (fun x => x.1 == ch)
  let n : Int := m.length
  let a : Int := ((m.map (fun x => (x.2.1 : Int))).sum)
  let p0 := (m.headD (0, 0, 0)).2.2
  let d : Int := (m.map (fun x => signed 8 (x.2.2 + 256 - p0))).sum
  if m.isEmpty then [0, 0, 0] else leBytes 2 (a / n).toNat ++ leBytes 1 (unsigned 8 (p0 + d / n))

/-- The completion data of a queue sequence: Frets run and marked not valid (R192), then what Table 04-5 adds: for each enabled slot, one that was skipped included, its register as it
stood at the Fret's end. A channel of an LF_CAL that no Fret captured has no entry (DESIGN CHOICE,
assumption 96). -/
def LfSeq.data (q : LfSeq) : List Byte :=
  leBytes 2 q.frets ++ leBytes 2 q.notValid ++
    (if q.issuer = 3 then ((q.cal.map (·.1)).eraseDups).flatMap (calMean q.cal) else (q.caps ++ q.rings).flatMap (·.2))

/-- A sequence completes to its issuer (R192), and its channels raise their events (R203). The data goes to the command's destination (R722); of a command that names none it stands in the
entry, which holds its first 40 bytes (DESIGN CHOICE, assumption 108). REF_OUT returns to what an LF_CAL that asked for it found (DESIGN CHOICE, assumption 96). -/
def State.lfaComplete (s : State) (q : LfSeq) (cause : Nat) : State :=
  let s1 := s.raiseDriven q.drove
  let s2 := match q.refOut with | some v => s1.set Reg.LFA_CTRL_REF_OUT v | none => s1
  if q.issuer = 1 then { s2 with lfa := { s2.lfa with done := s2.lfa.done ++ [(cause, q.frets, q.notValid)] } }
  else match s2.runningSeq (if q.issuer = 2 then 2 else 13) q.cmd with
    | none => s2
    | some r =>
      let d := q.data
      if r.destLen ≠ 0 then
        if s2.rangeOk r.entry.master r.dest d.length && decide (d.length ≤ r.destLen) then (s2.setBytes r.dest d).complete r blkLFA (lfStatus cause) cause (leBytes 4 d.length)
        else if cause = 0 then s2.complete r blkLFA stPOLICY 0 [] else s2.complete r blkLFA (lfStatus cause) cause []
      else s2.complete r blkLFA (lfStatus cause) cause d

/-- The running sequence ends with a cause; a stop that was asked for it has been done (LFA_CTRL.STOP). -/
def State.lfaFinish (s : State) (cause : Nat) : State :=
  match s.lfa.seq with
  | none => s
  | some q => (State.lfaComplete { s with lfa := { s.lfa with seq := none } } q cause).set Reg.LFA_CTRL_STOP 0

/-- A STANDBY reports a burst: the ACTIVE's Fret, whether it was valid, its channels (R793). -/
def State.burstDone (s : State) (fret : Nat) (valid : Bool) (mask : Nat) : State :=
  s.tsuSendSeq 0x32 0 (leBytes 4 fret ++ leBytes 1 (ofBool valid) ++ leBytes 3 mask)

/-- LF stops at once (R147, R191, R192): the running sequence completes with a cause and nothing is driven; the channels of the Fret that is cut count as driven by its sequence. The Fret
that is cut counts neither among the Frets run nor among those not valid, of which the spec says nothing (DESIGN CHOICE, assumption 108). -/
def State.lfaStop (s : State) (cause : Nat) : State :=
  let c := s.cutFret
  let chs := match c.lfa.fret with | some f => f.slots.map (·.1) | none => []
  let own : Bool := match c.lfa.fret with | some f => f.issuer = 4 || f.issuer = 5 | none => false
  let s1 : State := if own then c.raiseDriven chs else { c with lfa := { c.lfa with seq := c.lfa.seq.map (fun q => { q with drove := (q.drove ++ chs).eraseDups }) } }
  let s2 := match c.lfa.fret with | some f => if f.issuer = 5 then s1.burstDone f.desc false (maskOf chs) else s1 | none => s1
  let s3 := s2.lfaFinish cause
  { s3 with lfa := { s3.lfa with fret := none, ringing := [], seeding := [] } }

/-! ## The Fret boundary (R179 to R191) -/

/-- OVERCURRENT Frets in a row (Table 04-4): the third and every later one sets DISABLED. What breaks a row the spec leaves open: Frets that do not drive the channel leave the count, and
a Fret that is cut counts for nothing (DESIGN CHOICE, assumption 108). -/
def State.countOc (f : Fret) (s : State) (ch : Nat) : State :=
  let n := if f.oc.contains ch then storeGet 0 s.lfa.ocCount ch + 1 else 0
  let s1 : State := { s with lfa := { s.lfa with ocCount := storeSet 0 s.lfa.ocCount ch n } }
  if 3 ≤ n ∧ s.regI Reg.LFA_CH_STAT_DISABLED ch = 0 then s1.latch Reg.LFA_CH_STAT_DISABLED ch else s1

/-- A capture: the sensed amplitude and phase of a driven slot go to LFA_CH_MEAS_n (R199). -/
def State.storeCapture (sensed : List (Nat × Nat × Nat)) (s : State) (ch : Nat) : State :=
  match sensed.find? (fun x => x.1 == ch) with
  | some x => (s.setI Reg.LFA_CH_MEAS_I_PK ch x.2.1).setI Reg.LFA_CH_MEAS_PHASE ch x.2.2
  | none => s

/-- The 4 bytes of LFA_CH_MEAS_n and LFA_CH_RING_n. -/
def State.measBytes (s : State) (ch : Nat) : List Byte := leBytes 4 (s.regI Reg.LFA_CH_MEAS_I_PK ch + 65536 * s.regI Reg.LFA_CH_MEAS_PHASE ch)
def State.ringBytes (s : State) (ch : Nat) : List Byte := leBytes 4 (s.regI Reg.LFA_CH_RING_DF ch + 65536 * s.regI Reg.LFA_CH_RING_Q ch)

/-- The running Fret ends: its driven cycles, captures, and its mark in its sequence. A scheduled ping Fret and a partner's burst are sequences of one Fret. -/
def State.fretEnd (s : State) (driven : List (Nat × Nat)) (sensed : List (Nat × Nat × Nat)) : State :=
  match s.lfa.fret with
  | none => s
  | some f =>
    let chs := f.slots.map (·.1)
    let s1 := chs.foldl (fun t ch => t.addDuty ch (s.drivenCycles f driven ch)) s
    let s2 := chs.foldl (State.countOc f) s1
    let s3 := if f.capture then chs.foldl (State.storeCapture sensed) s2 else s2
    let tell := match f.item with | some i => [(i, !f.bad, f.at_)] | none => []
    let l := { s3.lfa with fret := none, ringing := [], seeding := [], ended := s3.lfa.ended ++ tell }
    if f.issuer = 5 then (State.burstDone { s3 with lfa := l } f.desc (!f.bad) (maskOf chs)).raiseDriven chs
    else if f.issuer = 4 then State.raiseDriven { s3 with lfa := l } chs
    else
    match s3.lfa.seq with
    | none => { s3 with lfa := l }
    | some q =>
      let cal := if q.issuer = 3 then chs.filterMap (fun ch => (sensed.find? (fun x => x.1 == ch)).map (fun x => (ch, x.2.1, x.2.2))) else []
      let q1 := { q with
        frets := q.frets + 1, notValid := q.notValid + ofBool f.bad, drove := (q.drove ++ chs).eraseDups
        caps := if f.capture then f.named.foldl (fun m ch => putSlot m (16 * f.desc + ch) (s3.measBytes ch)) q.caps else q.caps
        rings := if f.kind = 3 then f.named.foldl (fun m ch => putSlot m (16 * f.desc + ch) (s3.ringBytes ch)) q.rings else q.rings, cal := q.cal ++ cal }
      { s3 with lfa := { l with seq := some q1 } }

/-- Move the running sequence past the Fret that it has run (R183): the descriptor's next run, or the one that NEXT names; none when it has run to its end. -/
def LfSeq.advance (q : LfSeq) (d : Descriptor) : Option LfSeq :=
  let p := q.plan.drop 1
  if 0 < q.left then some { q with plan := p, left := q.left - 1, withheld := 0, chained := d.chain }
  else if d.next = 0xFF then none
  else some { q with plan := p, desc := d.next, left := 256, withheld := 0, chained := d.chain }

/-- GLT writes the descriptor of the Fret that its sequence runs next (R187): KIND of the Fret, CHAIN on a DATA Fret with a successor in its frame, one run, NEXT the descriptor of the
Fret that follows; the slots, CAPTURE and what is reserved are the image's (DESIGN CHOICE, assumption 56). -/
def State.gltDescribe (s : State) (q : LfSeq) : State :=
  let d := s.descriptorAt q.desc
  if q.issuer ≠ 1 ∨ 240 ≤ q.desc ∨ 4 ≤ d.kind then s
  else
    let b0 := ofLe (s.bytes (fretRam + 16 * q.desc) 1)
    let kind := match q.plan.head?, q.tail with | some i, _ => i.kind | none, some t => t.2 | none, none => d.kind
    let chain := match q.plan.head? with | some i => if i.kind = 1 then !i.last else d.chain | none => d.chain
    let next := match (q.plan.drop 1).head?, q.tail with | some i, _ => i.desc | none, some t => t.1 | none, none => 0xFF
    s.setBytes (fretRam + 16 * q.desc) (leBytes 1 (kind + 8 * ofBool chain + (b0 - b0 % 16)) ++ [0] ++ leBytes 1 next)

/-- Whether a GLT sequence waits. -/
def State.gltWaits (s : State) : Bool := s.lfa.waiting.any (fun q => q.issuer == 1)

/-- A number of carrier cycles has passed since the last awaited reply or slot ended. -/
def State.quietFor (s : State) (cycles : Nat) : Bool :=
  match s.glt.sess with
  | some g => (match g.quiet with | some t => decide (cycles * 1000000 ≤ (s.now - t) * s.reg Reg.LFA_CARRIER_FREQ) | none => true)
  | none => true

/-- Whether replies or slots follow a frame. -/
def Downlink.answered : Downlink → Bool
  | .wake | .round _ | .nextSlot | .challenge _ | .again _ | .report _ _ _ => true
  | .measure _ | .halt _ | .release _ => false

/-- Whether GLT lets its sequence go on behind its plan: through the slots and replies that follow a frame (R186), in passive mode for at least 32 cycles after the reply (R227), and
until its next frame, when one waits, may start (R235). -/
def State.gltHolds (s : State) : Bool :=
  if s.gltWaits then !s.quietFor 64
  else match s.glt.sess with
    | none => false
    | some g => match g.step with
      | .air d => d.answered
      | .slots | .replies => true
      | _ => bit g.mode 0 && !s.quietFor 32

/-- The LF cap of Capo (R189). -/
def State.capBlocks (s : State) (d : Descriptor) : Bool := decide (s.pwr.lfCap < d.channels)

/-- The cycles that the duty check counts (R194). -/
def checkCycles (d : Descriptor) : Nat := if d.kind = 1 ∨ d.kind = 2 then 256 else if d.kind = 3 then 16 else 0

/-- A ping past the duty limit or its ceiling is skipped and counted; the first skip for the ceiling after a boot is recorded (R195, R198, R440). -/
def State.pingSkip (s : State) (ch : Nat) : State :=
  let above := decide (s.ceiling ch < s.reg Reg.LFA_PING_CFG_AMPL)
  let s1 := s.bumpI Reg.LFA_CH_STAT_PING_SKIP ch
  if !above ∨ s1.lfa.recorded.contains ch then s1
  else if 0 < s1.sleeping then { s1 with lfa := { s1.lfa with sleepSkips := if s1.lfa.sleepSkips.any (fun x => x.1 == ch) then s1.lfa.sleepSkips else s1.lfa.sleepSkips ++ [(ch, s.reg Reg.LFA_PING_CFG_AMPL)] } }
  else
    let s2 : State := { s1 with lfa := { s1.lfa with recorded := ch :: s1.lfa.recorded } }
    s2.fieldLimit ch (s.reg Reg.LFA_PING_CFG_AMPL) 1

/-- Whether a ping of a channel is skipped. -/
def State.pingSkipped (s : State) (ch : Nat) : Bool :=
  decide (s.dutyLimit < s.dutyOf ch + 16) || decide (s.ceiling ch < s.reg Reg.LFA_PING_CFG_AMPL)

/-- Start a Fret of the running sequence. -/
def State.fretStart (s : State) (q : LfSeq) (d : Descriptor) : State :=
  let on := if d.kind = 0 then [] else d.enabled.filter (fun x => s.chUsable x.ch && (d.kind != 3 || !s.pingSkipped x.ch))
  let s1 := if d.kind = 3 then ((d.enabled.map FretSlot.ch).filter s.pingSkipped).foldl State.pingSkip s else s
  let skipped := d.kind != 0 && on.length != d.enabled.length
  let ampl (x : FretSlot) := if d.kind = 3 then s.reg Reg.LFA_PING_CFG_AMPL else x.ampl
  let f : Fret := { kind := d.kind, desc := q.desc, slots := on.map (fun x => (x.ch, ampl x, if d.kind = 3 then 0 else x.phase)), capture := d.capture,
                    issuer := q.issuer, at_ := s.now, item := q.plan.head?, bad := d.kind == 2 && skipped
                    named := d.enabled.map FretSlot.ch, begins := ((List.range 4).zip d.slots).map (fun p => (p.2.ch, 64 * p.1)) |>.filter (fun p => on.any (fun x => x.ch == p.1)) }
  let ring := if d.kind = 3 then on.map FretSlot.ch else []
  { s1 with lfa := { s1.lfa with fret := some f, seq := some q, ringing := ring } }

/-- The Fret that is due is judged (R182, R189, R190, R196): it runs, is withheld, or ends its sequence. A sequence that ends makes room for the next at the same
boundary; at most `n` do. Of a Fret that is malformed, above a ceiling and withheld at once the spec names no order: it is judged in that one (DESIGN CHOICE, assumption 108). -/
def State.fretJudge (next : State → State) (s0 : State) (q : LfSeq) : State :=
  let s := s0.gltDescribe q
  let d := s.descriptorAt q.desc
  let q1 := if q.left = 256 then { q with left := d.times } else q
  let fail (t : State) (c : Nat) := next (State.lfaFinish { t with lfa := { t.lfa with seq := some q1 } } c)
  if d.malformed then fail s 1
  else match d.enabled.find? (fun x => decide (s.ceiling x.ch < x.ampl)) with
  | some x => fail (s.fieldLimit x.ch x.ampl 0) 2
  | none =>
    let duty := (d.kind == 1 || d.kind == 2) && s.breaksDuty d (checkCycles d)
    if duty || s.capBlocks d then
      let q2 := { q1 with withheld := q1.withheld + 1 }
      if q1.chained || decide (s.reg Reg.LFA_SCHED_CFG_CAP_WAIT < q2.withheld) then fail s (if duty then 3 else 4)
      else
        let tell := match q.plan.head? with | some i => if i.burst.isSome then [(i, false, s.now)] else [] | none => []
        { s with lfa := { s.lfa with seq := some q2, fret := none, ended := s.lfa.ended ++ tell } }
    else s.fretStart q1 d

/-- The sequence that starts next (R184): GLT's first, once 64 cycles have passed since the last reply or slot that it awaited (R235), then in the order of the waiting list; commands that
have completed meanwhile are passed over. -/
def State.nextSeq (s : State) : Option LfSeq :=
  match s.lfa.waiting.find? (fun q => q.issuer == 1) with
  | some q => if s.quietFor 64 then some q else none
  | none => s.lfa.waiting.find? (fun q => (s.runningSeq (if q.issuer = 2 then 2 else 13) q.cmd).isSome)

/-- A BURST frame for each burst on the partner's aerials (R792), at the Fret that the plan gives it. -/
def State.sendBursts (s : State) (plan : List FretItem) : State :=
  ((List.range plan.length).zip plan).foldl (fun u p => match p.2.burst, p.2.peer with
    | some b, some d =>
      let fr := low 16 (u.lfa.frets + p.1)
      let v := u.tsuSendSeq 0x31 0 (leBytes 4 fr ++ u.bytes (fretRam + 16 * d) 16)
      { v with tsu := { v.tsu with bursts := v.tsu.bursts.filter (fun y => y.index != b) ++ [{ fret := fr, index := b }] } }
    | _, _ => u) s

/-- Start a waiting sequence: GLT tells the partner of its bursts; a queue sequence writes its descriptors to 240 onward (R187), an LF_CAL that asks for the phase reference sets REF_OUT
until it ends (DESIGN CHOICE, assumption 96). -/
def State.seqStart (s : State) (q : LfSeq) : State :=
  let l := s.lfa.waiting.filter (fun x => x != q)
  let s1 : State := { s with lfa := { s.lfa with waiting := l } }
  if q.issuer = 1 then State.sendBursts { s1 with lfa := { s1.lfa with seq := some q } } q.plan
  else
    let put (t : State) (p : Nat × List Byte) := t.setBytes (fretRam + 16 * p.1) (fit 16 p.2)
    let at_ := if q.descs.length = 16 then 255 :: (List.range 15).map (240 + ·) else (List.range q.descs.length).map (240 + ·)
    let s2 := (at_.zip q.descs).foldl put s1
    let s3 := match s2.runningSeq (if q.issuer = 2 then 2 else 13) q.cmd with | some r => s2.startCmd r | none => s2
    let q1 := { q with desc := at_.headD 240, left := 256, refOut := if q.refOut.isSome then some (s3.reg Reg.LFA_CTRL_REF_OUT) else none }
    let s4 := if q.refOut.isSome then s3.set Reg.LFA_CTRL_REF_OUT 1 else s3
    { s4 with lfa := { s4.lfa with seq := some q1 } }

/-- Run what the boundary allows: the running sequence, or the next waiting one; at most `n` sequences end in it. -/
def State.fretRun : Nat → State → State
  | 0, s => s
  | n + 1, s =>
    match s.lfa.seq with
    | some q => if q.stop then State.fretRun n (s.lfaFinish 0) else s.fretJudge (State.fretRun n) q
    | none => match s.nextSeq with
      | some q => State.fretRun n (s.seqStart q)
      | none => s

/-- A PING Fret of the scheduler (R205, R207, R208, R212). -/
def State.pingFret (s : State) : State :=
  let seeding := !s.lfa.seeds.isEmpty
  let l := if seeding then s.lfa.seeds else s.lfa.pings
  let four := l.take 4
  let s1 := (four.filter s.pingSkipped).foldl State.pingSkip s
  let on := four.filter (fun ch => !s.pingSkipped ch && s.chUsable ch)
  let f : Fret := { kind := 3, desc := 0, slots := on.map (fun ch => (ch, s.reg Reg.LFA_PING_CFG_AMPL, 0)), capture := false, issuer := 4, at_ := s.now
                    named := four, begins := ((List.range 4).zip four).map (fun p => (p.2, 64 * p.1)) }
  let g := { s1.lfa with fret := some f, ringing := on, seeding := if seeding then on else [] }
  if seeding then { s1 with lfa := { g with seeds := l.drop 4 } }
  else { s1 with lfa := { g with pings := l.drop 4, pingNew := false, pingAt := if s.lfa.pingNew then s.now else s.lfa.pingAt } }

/-- A burst of the ACTIVE's session falls due on a STANDBY (R792): a CW Fret of its descriptor, under this device's own limits, the ceiling before the others (R196); else it is withheld.
While a queue sequence runs here it is withheld too, and that sequence runs nothing in the Fret: the spec names no order between the two (DESIGN CHOICE, assumption 108). -/
def State.peerFret (s : State) (fret : Nat) (raw : List Byte) : State :=
  let d := descriptor raw
  let on := d.enabled.filter (fun x => s.chUsable x.ch)
  if d.malformed || d.kind != 2 || !s.flag Reg.LFA_CTRL_EN then s.burstDone fret false 0
  else match d.enabled.find? (fun x => decide (s.ceiling x.ch < x.ampl)) with
  | some x => (s.fieldLimit x.ch x.ampl 0).burstDone fret false 0
  | none =>
    if s.lfa.seq.isSome || s.capBlocks d || s.breaksDuty d 256 then s.burstDone fret false 0 else
    let f : Fret := { kind := 2, desc := fret, slots := on.map (fun x => (x.ch, x.ampl, x.phase)), capture := false, issuer := 5, at_ := s.now,
                      bad := on.length != d.enabled.length, named := d.enabled.map FretSlot.ch }
    { s with lfa := { s.lfa with fret := some f } }

/-- The work of a Fret boundary (R189): the running Fret ends, GLT stops a sequence that it holds no longer, a waiting carrier takes effect when no sequence runs or waits and no session is
open (R169), a queue sequence gives way to GLT (R185), and the next Fret runs. Seeding pings come before the first sequence (R212); other pings only when the schedule is free (R184). -/
def State.fretBoundary (s : State) (driven : List (Nat × Nat)) (sensed : List (Nat × Nat × Nat)) : State :=
  let e := s.fretEnd driven sensed
  let s1 : State := { e with lfa := { e.lfa with frets := low 16 (e.lfa.frets + 1) } }
  let s2 := match s1.lfa.seq, s.lfa.fret with
    | some q, some f =>
      if f.issuer = 4 ∨ f.issuer = 5 then s1
      else if q.tail.isSome && decide (q.plan.length ≤ 1) && !s1.gltHolds then s1.lfaFinish 0
      else match q.advance (s1.descriptorAt q.desc) with
        | some q1 => { s1 with lfa := { s1.lfa with seq := some q1 } }
        | none => s1.lfaFinish 0
    | _, _ => s1
  let s3 := match s2.lfa.carrier with
    | some f =>
      if s2.lfa.seq.isNone && s2.nextSeq.isNone && s2.glt.sess.isNone then
        let t := s2.set Reg.LFA_CARRIER_FREQ f
        { t with lfa := { t.lfa with carrier := none } }
      else s2
    | none => s2
  let s4 := match s3.lfa.seq with
    | some q => if q.issuer ≠ 1 && s3.gltWaits && s3.quietFor 64 then s3.lfaFinish 5 else s3
    | none => s3
  let due := s4.lfa.peerBursts.find? (fun b => b.1 == s4.lfa.frets)
  let s6 : State := { s4 with lfa := { s4.lfa with peerBursts := s4.lfa.peerBursts.filter (fun b => b.1 != s4.lfa.frets) } }
  if !s4.lfAllowed then (match due with | some b => s6.burstDone b.2.1 false 0 | none => s4)
  else if due.isSome then (match due with | some b => s6.peerFret b.2.1 b.2.2 | none => s4)
  else if s4.lfa.seq.isNone && !s4.lfa.seeds.isEmpty then s4.pingFret
  else
    let s5 := s4.fretRun (2 * s4.lfa.waiting.length + 2)
    if s5.lfa.seq.isNone && s5.lfa.fret.isNone && !s5.gltWaits && !s5.lfa.pings.isEmpty then s5.pingFret else s5

end Sys2Proof.Machine
end

