-- ==== Sys2Proof/Machine/Fixed.lean ====
section
/-! DEFINITION. Roots, sines and logarithms in fixed point, for the angle of arrival and the position solver (chapters 07 and 08). A value of scale S stands for itself divided by S. The manual
gives these functions and not the arithmetic of the device: 64 bits behind the point, each step rounded down (assumption 6). -/
namespace Sys2Proof.Machine

/-- Set the bits of a root from the highest down. -/
def rootBits : Nat → Nat → Nat → Nat
  | 0, _, r => r
  | k + 1, n, r => rootBits k n (if (r + 2 ^ k) * (r + 2 ^ k) ≤ n then r + 2 ^ k else r)

/-- The square root of a natural number, rounded down. -/
def isqrt (n : Nat) : Nat := rootBits (Nat.log2 n / 2 + 1) n 0

/-- The scale of sines and logarithms. -/
def fxOne : Int := 18446744073709551616

/-- 2π at that scale. -/
def fxTwoPi : Int := 115904311329233965478

/-- The sum of a sine's series from one term on: the square of the angle, the term, its degree. -/
def sinTerms : Nat → Int → Int → Int → Int
  | 0, _, _, _ => 0
  | n + 1, x2, t, k => t + sinTerms n x2 (-(t * x2 / fxOne) / ((k + 1) * (k + 2))) (k + 2)

/-- The sine of n / d of a turn. -/
def fxSin (n d : Int) : Int :=
  let r := n % d
  let m := if d < 2 * r then r - d else r
  let x := fxTwoPi * m / d
  sinTerms 24 (x * x / fxOne) x 1

/-- The cosine of n / d of a turn. -/
def fxCos (n d : Int) : Int := fxSin (4 * n + d) (4 * d)

/-- The sum of the series of the inverse hyperbolic tangent: the square of z, the power of z, its degree. -/
def atanhTerms : Nat → Int → Int → Int → Int
  | 0, _, _, _ => 0
  | n + 1, z2, p, k => p / k + atanhTerms n z2 (p * z2 / fxOne) (k + 2)

/-- The natural logarithm of a natural number; that of 0 is free. -/
def fxLn (n : Nat) : Int :=
  if n = 0 then Config.lnZero
  else
    let e := Nat.log2 n
    let z := ((n : Int) - 2 ^ e) * fxOne / (n + 2 ^ e)
    2 * atanhTerms 24 (z * z / fxOne) z 1 + e * 12786308645202655660

/-- The largest angle of 0.01° steps, found bit by bit, whose sine less half a step is at most x: the angle nearest to the arcsine of x. -/
def arcsinBits : Nat → Int → Int → Int
  | 0, _, t => t
  | k + 1, x, t => arcsinBits k x (if t + 2 ^ k ≤ 9000 ∧ fxSin (2 * (t + 2 ^ k) - 1) 72000 ≤ x then t + 2 ^ k else t)

/-- The arcsine of x, in 0.01°, for x from −1 to 1. -/
def fxArcsin (x : Int) : Int := if x < 0 then -arcsinBits 14 (-x) 0 else arcsinBits 14 x 0

end Sys2Proof.Machine
end

