-- ==== Sys2Proof/Machine/UwbOps.lean ====
section
/-! DEFINITION. Ranging as operations (chapter 07): keys, blocks, the arithmetic of R341 to R346, the Q_41 entries. -/
namespace Sys2Proof.Machine

/-! ## Ports and keys -/

/-- R321: the usable ports. -/
def State.usablePorts (s : State) : List Nat :=
  (List.range 4).filter (fun p => bit (s.reg Reg.UWB_CTRL_PORT_EN) p && s.regI Reg.UWB_PORT_STAT_FAULT p == 0)

/-- R323: whether a WAKE may set MODE.UWB. -/
def State.uwbReady (s : State) : Bool :=
  s.flag Reg.UWB_CTRL_EN && s.flag Reg.UWB_LOCK_LOCK && decide (2 ≤ s.usablePorts.length)

/-- The keys held for a handle of a session. -/
def State.ukeys (s : State) (session handle : Nat) : Option UKeys := s.uwb.keys.find? (fun k => k.session == session && k.handle == handle)

/-- Replace the keys of a handle. -/
def State.setUkeys (s : State) (k : UKeys) : State :=
  let l := s.uwb.keys.map (fun x => if x.session == k.session && x.handle == k.handle then k else x)
  { s with uwb := { s.uwb with keys := l } }

/-- A block is asked for: false when 8 wait already (R327). -/
def State.uwbAsk (s : State) (w : UWait) : Bool × State :=
  if 8 ≤ s.uwb.waiting.length then (false, s.bump Reg.UWB_STAT_REFUSED)
  else (true, { s with uwb := { s.uwb with waiting := s.uwb.waiting ++ [w] } })

/-- The key handover of R289: whether a block will run for it. -/
def State.uwbHandover (s : State) (k : UKeys) : Bool × State :=
  let s1 : State := { s with uwb := { s.uwb with keys := s.uwb.keys ++ [k] } }
  s1.uwbAsk { session := k.session, handle := k.handle, first := true }

/-- Ports whose receive chains are powered (R322): those of the running block, and during a Q_3 command the usable ones that it names. -/
def State.chainsOn (s : State) : List Nat :=
  match s.uwb.block, s.uwb.scan, s.uwb.cal with
  | some b, _, _ => b.ports
  | none, some x, _ => x.ports.filter s.usablePorts.contains
  | none, none, some x => x.ports.filter s.usablePorts.contains
  | none, none, none => []

/-- R324: the 40-bit timestamp counter at 63,897.6 counts a µs. -/
def State.uwbCounter (s : State) : Nat := low 40 (Config.uwbEpoch + s.now * 638976 / 10)

/-! ## The scrambled timestamp sequence (R316, R332) -/

/-- V_STS with its counter field raised by n: the low 32 bits of the 128-bit value, as IEEE 802.15.4z has them (PRESUMED, assumption 99). -/
def stsV (v : List Byte) (n : Nat) : List Byte := v.take 12 ++ beBytes 4 (low 32 (ofBe (v.drop 12) + n))

/-- The STS of a packet: 128 bits for each AES-128 of K_STS over the value, whose counter field rises by 1 with each, 64 bits for a unit of 512 chips (PRESUMED, assumption 99). -/
def stsBits (key v : List Byte) (units : Nat) : List Byte := (List.range ((units + 1) / 2)).flatMap (fun i => aesEncrypt key (stsV v i))

/-- STS units of the profile (Table 07-7). -/
def State.stsUnits (s : State) : Nat := if s.flag Reg.UWB_PROFILE_STS_LEN then 64 else 32

/-- The value V of the poll with exchange index j, and of its response (R332). -/
def UKeys.pollV (k : UKeys) (j : Nat) : List Byte := stsV k.vSts (2 * j)
def UKeys.responseV (k : UKeys) (j : Nat) : List Byte := stsV k.vSts (2 * j + 1)

/-- The STS on the air of a packet: none for SP0, the sequence of K_STS and V for SP3. -/
def UPacket.sts (p : UPacket) (units : Nat) : List Byte :=
  match p with | .sp0 _ _ => [] | .sp3 _ key v => stsBits key v units

/-! ## Arithmetic (R340 to R344): rationals as numerator and positive denominator -/

/-- Nearest integer, halves upward. -/
def roundDiv (n d : Int) : Int := (2 * n + d) / (2 * d)

/-- R341: R[a][k] × (10⁸ + ε) for ε in 0.01 ppm. -/
def roundTrip (delta : Nat) (tx rx : Nat) (eps : Int) : Int := ((delta : Int) - tx - rx) * (100000000 + eps) - 8388608 * 100000000

/-- R342: the bound in mm. -/
def boundOf (r eps : Int) : Int := roundDiv (r * 2345882) ((100000000 + eps) * 1000000)

/-- Accepted under R338. -/
def URx.good (x : URx) : Bool := x.why == 0

/-- ε of the response to port a's poll, in 0.01 ppm (R340): none when nothing was accepted. -/
def UBlock.epsOf (b : UBlock) (a : Nat) : Option Int :=
  let l := b.rx.filter (fun x => x.a == a && x.good)
  if l.isEmpty then none else some (roundDiv ((l.map URx.eps).sum) l.length)

/-- ε when it lies within ±50 ppm. -/
def UBlock.epsGood (b : UBlock) (a : Nat) : Option Int := (b.epsOf a).filter (fun e => decide (-5000 ≤ e ∧ e ≤ 5000))

/-- The reception (a, k). -/
def UBlock.rxOf (b : UBlock) (a k : Nat) : Option URx := b.rx.find? (fun x => x.a == a && x.k == k)

/-- R[a][k] × (10⁸ + ε) and its ε, for a reception accepted under R338 and R340. -/
def State.rOf (s : State) (b : UBlock) (a k : Nat) : Option (Int × Int) :=
  match b.rxOf a k, b.epsGood a with
  | some x, some e => if x.good then some (roundTrip x.delta (s.regI Reg.UWB_PORT_CAL_TX_DLY a) (s.regI Reg.UWB_PORT_CAL_RX_DLY k) e, e) else none
  | _, _ => none

/-- R344: δ[a][k] in ps × 2 × 100 × the three denominators, and that common denominator; none where a round trip is missing. -/
def State.deviation (s : State) (b : UBlock) (a k : Nat) : Option (Int × Int) :=
  match s.rOf b a k, s.rOf b a a, s.rOf b k k with
  | some x, some y, some z =>
    let dx := 100000000 + x.2
    let dy := 100000000 + y.2
    let dz := 100000000 + z.2
    some ((2 * x.1 * dy * dz - y.1 * dx * dz - z.1 * dx * dy) * 1565, 200 * dx * dy * dz)
  | _, _, _ => none

/-- Whether a reception is rejected under R344. -/
def State.devRejected (s : State) (b : UBlock) (a k : Nat) : Bool :=
  match s.deviation b a k with
  | some d => decide ((s.reg Reg.UWB_RANGE_CFG_WINDOW : Int) * 1000 * d.2 < d.1.natAbs * 64)
  | none => false

/-- Whether a cross reception stands under R338, R340 and R344. -/
def State.crossGood (s : State) (b : UBlock) (a k : Nat) : Bool := (s.deviation b a k).isSome && !s.devRejected b a k

/-- R346: the cause of a port (Table 07-4). -/
def State.portCause (s : State) (b : UBlock) (i k : Nat) : Nat :=
  match b.cut with
  | some (7, _) => 7
  | some (8, _) => 8
  | _ =>
    if (match b.cut with | some (9, n) => decide (n ≤ i) | _ => false) then 9
    else if s.regI Reg.UWB_PORT_STAT_FAULT k = 1 ∨ b.unlocked then 6
    else match b.rxOf k k with
      | none => 1
      | some x =>
        if x.why = 2 then 2 else if x.why = 3 then 3
        else match s.rOf b k k with
          | none => 5
          | some r => if boundOf r.1 r.2 < -(10 * (s.reg Reg.UWB_RANGE_CFG_EARLY_LIM : Int)) then 4 else 0

/-- Status of Table 07-4. -/
def uwbStatus (c : Nat) : Nat := if c = 0 then stOK else if c = 7 then stPOWER else if c = 8 then stRESET else if c = 9 then stPOLICY else stRANGE

/-- R345: the ports consistent with port k. -/
def State.consistent (s : State) (b : UBlock) (k : Nat) : Nat :=
  let ok (p : Nat) := match b.ports.idxOf? p with | some i => s.portCause b i p == 0 | none => false
  let pair (m : Nat) := (s.crossGood b m k || s.crossGood b k m) && !s.devRejected b m k && !s.devRejected b k m
  ((List.range 4).filter (fun m => m != k && ok k && ok m && pair m)).foldl (fun n m => n ||| 2 ^ m) 0

/-- DEV_MAX: the deviation of largest magnitude that involves port k, ps, saturating (Table 07-5). -/
def State.devMax (s : State) (b : UBlock) (k : Nat) : Int :=
  let l := b.ports.flatMap (fun m => if m = k then [] else [s.deviation b m k, s.deviation b k m])
  let v := l.filterMap (fun d => d.map (fun x => roundDiv x.1 x.2))
  let m := v.foldl (fun a x => if a.natAbs < x.natAbs then x else a) 0
  max (-32767) (min 32767 m)

/-- An angle difference wrapped to ±180°, in 0.01°. -/
def wrapAngle (a : Int) : Int := (a + 18000) % 36000 - 18000

/-- A reception that stands (R338, R340, R344). -/
def State.rxStands (s : State) (b : UBlock) (a k : Nat) : Option URx :=
  (b.rxOf a k).filter (fun x => x.good && (b.epsGood a).isSome && (a == k || !s.devRejected b a k))

/-- Δφ of a pair in every accepted response that both ports received (R350). -/
def State.phases (s : State) (b : UBlock) (pair : Nat) : List Int :=
  let p := 2 * pair
  let ofs (k : Nat) := signed 16 (s.regI Reg.UWB_PORT_PH_PH_OFS k)
  b.ports.filterMap (fun a =>
    match s.rxStands b a p, s.rxStands b a (p + 1) with
    | some x, some y => some (wrapAngle ((y.phase - ofs (p + 1)) - (x.phase - ofs p)))
    | _, _ => none)

/-- λ in µm (R350). -/
def State.lambda (s : State) : Int := if s.reg Reg.UWB_PROFILE_CHAN = 0 then 46196 else 37534

/-- The angle of the pair of port k: valid, and in 0.01° (R349 to R351): θ = arcsin(λ Δφ / 2πs), nearest step (assumption 6). -/
def State.aoa (s : State) (b : UBlock) (k : Nat) : Bool × Int :=
  let pair := k / 2
  let used := s.reg (if pair = 0 then Reg.UWB_AOA_CFG_PAIR0_EN else Reg.UWB_AOA_CFG_PAIR1_EN) = 1
  let sp : Int := s.reg (if pair = 0 then Reg.UWB_AOA_CFG_SPACING0 else Reg.UWB_AOA_CFG_SPACING1)
  let l := s.phases b pair
  let d := roundDiv l.sum (max 1 l.length)
  let valid := decide used && b.ports.contains (2 * pair) && b.ports.contains (2 * pair + 1) && decide (2 ≤ l.length) && decide (0 < sp) &&
    decide (200 * sp ≤ s.lambda) && decide ((s.lambda * d).natAbs ≤ 3600000 * sp)
  (valid, if valid then fxArcsin (s.lambda * d * fxOne / (3600000 * sp)) else 0)

/-- The Q_41 payload of a port (Table 07-5). -/
def State.q41Payload (s : State) (b : UBlock) (i k : Nat) : List Byte :=
  let c := s.portCause b i k
  let x := b.rxOf k k
  let r := s.rOf b k k
  let a := s.aoa b k
  let time := match b.polls.find? (fun p => p.1 == k) with | some p => p.2.2 | none => s.timebase
  leBytes 4 b.session ++ leBytes 2 b.handle ++ leBytes 1 (if b.forPeer then 4 + k else k) ++ leBytes 1 (uwbStatus c) ++ leBytes 1 c ++
    leBytes 1 (s.consistent b k) ++ leBytes 1 b.number ++ leBytes 1 (match x with | some y => y.qual | none => 0) ++
    leBytes 4 (unsigned 32 (match r with | some y => boundOf y.1 y.2 | none => 0)) ++ leBytes 2 (unsigned 16 (s.devMax b k)) ++
    leBytes 2 (unsigned 16 (match b.epsOf k with | some e => e | none => 0)) ++ leBytes 1 (match x with | some y => y.fpPwr | none => 0) ++
    leBytes 1 (ofBool a.1 + 2 * (k / 2)) ++ leBytes 2 (unsigned 16 a.2) ++ leBytes 6 time ++ [0, 0]

/-- A port's entry, its registers and its events (R347, R362); a STANDBY's carries the ACTIVE's timebase (R791). -/
def State.q41Entry (b : UBlock) (s : State) (ik : Nat × Nat) : State :=
  let k := ik.2
  let p := s.q41Payload b ik.1 k
  let c := s.portCause b ik.1 k
  let d := match s.rOf b k k with | some y => boundOf y.1 y.2 | none => 0
  let s1 := (s.setI Reg.UWB_PORT_LAST_BOUND k (unsigned 24 (max (-8388608) (min 8388607 d)))).setI Reg.UWB_PORT_LAST_CAUSE k c
  let s2 := if c = 4 then s1.bump Reg.UWB_ERR_EARLY else s1
  let s3 := s2.raise ((if c = 0 then 112 else 113) + 4 * k)
  if b.forPeer then s3.tsuSendSeq 0x34 0 (p.take 24 ++ leBytes 6 (low 48 (ofLe (slice p 24 6) + s3.tsu.tbOfs)) ++ p.drop 30) else s3.emit 41 blkUWB p

/-- Receptions that R340 and R344 reject, and those accepted in the end, are counted when the block ends. -/
def State.countRx (b : UBlock) (s : State) (x : URx) : State :=
  if !x.good then s
  else if (b.epsGood x.a).isNone then s.raise (114 + 4 * x.k)
  else if x.a != x.k && s.devRejected b x.a x.k then (s.bump Reg.UWB_ERR_DEV).raise (114 + 4 * x.k)
  else s.bumpI Reg.UWB_PORT_STAT_RX_OK x.k

/-- The block ends (R347): its entries are made, it counts when it has run (Table 07-7), and a solve falls due when it named a port, or from
Q_42 alone when it was the handle's first (R368). -/
def State.blockEnd (s : State) : State :=
  match s.uwb.block with
  | none => s
  | some b =>
    let s1 := b.rx.foldl (State.countRx b) s
    let idx := (List.range b.ports.length).zip b.ports
    let s2 := idx.foldl (State.q41Entry b) s1
    let s3 : State := { s2 with uwb := { s2.uwb with block := none } }
    let s4 := if b.ran then s3.wrapUp Reg.UWB_STAT_BLOCKS else s3
    if b.forPeer then s4
    else if !b.ports.isEmpty then s4.solveDue b.session b.handle (some b.number)
    else if b.number = 0 then s4.solveDue b.session b.handle none
    else s4

/-- Cut the running block short, and every waiting one that a test picks: their ports complete with a cause of Table 07-4 (R355 to R357). A block that had not
started yields the entries of the ports usable now. -/
def State.uwbCut (s : State) (cause : Nat) (sel : Nat → Bool) : State :=
  let s1 := match s.uwb.block with
    | some b =>
      if sel b.session then State.blockEnd { s with uwb := { s.uwb with block := some { b with cut := some (cause, b.polls.length) } } } else s
    | none => s
  let gone := s1.uwb.waiting.filter (fun w => sel w.session)
  let keep := s1.uwb.waiting.filter (fun w => !sel w.session)
  let s2 : State := { s1 with uwb := { s1.uwb with waiting := keep } }
  let one (t : State) (w : UWait) : State :=
    match t.ukeys w.session w.handle with
    | none => t
    | some k =>
      let n := w.go.getD (k.blocks, k.next)
      let b : UBlock := { session := w.session, handle := w.handle, number := n.1, ports := t.usablePorts, base := n.2, startedAt := t.now,
                          cut := some (cause, 0), forPeer := w.go.isSome, first := w.first, ran := false }
      let t1 := t.setUkeys { k with blocks := k.blocks + 1 }
      State.blockEnd { t1 with uwb := { t1.uwb with block := some b } }
  let run := s2.uwb.block
  let s3 := gone.foldl one { s2 with uwb := { s2.uwb with block := none } }
  { s3 with uwb := { s3.uwb with block := run } }

/-- The session has ended: its blocks end (R356) and its keys are erased (R277). -/
def State.uwbSessionEnd (s : State) (number : Nat) : State :=
  let s1 := s.uwbCut 9 (· == number)
  { s1 with uwb := { s1.uwb with keys := s1.uwb.keys.filter (fun k => k.session != number) } }

end Sys2Proof.Machine
end

