-- ==== Sys2Proof/Machine/LockOps.lean ====
section
/-! DEFINITION. The failure log and the lockouts as operations (chapter 06). Encodings in the Locket's areas: assumption 17. -/
namespace Sys2Proof.Machine

/-! ## Times (R286, R305, R312) -/

/-- The time of the newest journal record whose TIME is in RTC form, s (R286). -/
def State.newestRtc (s : State) : Option Nat :=
  (((s.jnl.nand ++ s.jnl.prog ++ s.jnl.open_).reverse).find? (fun r => decide (r.time < 2 ^ 47))).map (fun r => r.time / 1000)

/-- Whether credential i is within its validity window now (R286, R465). -/
def State.inValidity (s : State) (i : Nat) : Bool :=
  match s.windowTime with
  | some t => inWindow (s.crdNotBefore i) (s.crdNotAfter i) t
  | none => match s.newestRtc with
    | some t => s.crdNotAfter i == 0 || decide (t ≤ s.crdNotAfter i)
    | none => s.crdNotAfter i == 0

/-- Now in seconds, and whether in timebase form (R305). -/
def State.secNow (s : State) : Nat × Bool :=
  match s.rtcMs with | some t => (t / 1000, false) | none => (s.timebase / 1000000, true)

/-! ## The failure log (R305 to R309): 20 entries of TIME 4, CRED 2, KIND 1, FLAGS 1 ([0] used, [1] timebase form, [2] no longer counts for the device,
[3] nor for its credential); the next place in the group at 0x06A0 -/

/-- Entry i. -/
def State.failEntry (s : State) (i : Nat) : Nat := s.lktWord (0x600 + 8 * i) 8
def failTime (e : Nat) : Nat := bits e 0 32
def failCred (e : Nat) : Nat := bits e 32 16
def failFlags (e : Nat) : Nat := bits e 56 8

/-- Seconds since an entry of a form, when the two times can be compared. -/
def State.secondsSince (s : State) (t : Nat) (tb stale : Bool) : Option Nat :=
  if tb then (if stale then none else some (s.timebase / 1000000 - t)) else s.rtcMs.map (fun r => r / 1000 - t)

/-- Whether entry i is a failure of the last 60 s. -/
def State.failRecent (s : State) (i : Nat) : Bool :=
  let e := s.failEntry i
  let f := failFlags e
  bit f 0 && (match s.secondsSince (failTime e) (bit f 1) (s.glt.staleFails.contains i) with | some d => decide (d ≤ 60) | none => false)

/-- Whether it counts toward a lockout of a scope: its flag bit is clear (R308, R309). -/
def State.failCounts (s : State) (i scope : Nat) : Bool := s.failRecent i && !bit (failFlags (s.failEntry i)) scope

/-- The counted failures of the last 60 s, all and of a credential, as GLT_LOCKOUT_STAT and GLT_LOCKOUT_ANS give them. -/
def State.recentFails (s : State) (sel : Nat → Bool) : Nat := ((List.range 20).filter (fun i => s.failRecent i && sel (failCred (s.failEntry i)))).length

/-- Failures of the last 60 s that count toward a device lockout, and toward one of a credential (R306). -/
def State.deviceFails (s : State) : Nat := ((List.range 20).filter (fun i => s.failCounts i 2)).length
def State.credFails (s : State) (c : Nat) : Nat :=
  ((List.range 20).filter (fun i => s.failCounts i 3 && failCred (s.failEntry i) == c)).length

/-! ## Lockouts (R306 to R313): 128 places of TIME 4, CRED 2, 0 1, FLAGS 1 at 0x0200; the device's at 0x06F0 -/

/-- Place p: 0 to 127 credentials, 128 the device. -/
def lockAddr (p : Nat) : Nat := if p < 128 then 0x200 + 8 * p else 0x6F0
def State.lockEntry (s : State) (p : Nat) : Nat := s.lktWord (lockAddr p) 8

/-- Seconds that a lockout has lasted. -/
def State.lockAge (s : State) (p : Nat) : Nat :=
  let e := s.lockEntry p
  if s.glt.restarted.contains p then s.timebase / 1000000
  else match s.secondsSince (failTime e) (bit (failFlags e) 1) false with | some d => d | none => 0

/-- Seconds that it lasts in all. -/
def State.lockSeconds (s : State) : Nat := 60 * s.reg Reg.GLT_LOCKOUT_CFG_MINUTES

/-- Whether the lockout of place p is recorded as in force. -/
def State.lockRecorded (s : State) (p : Nat) : Bool := bit (failFlags (s.lockEntry p)) 0

/-- Whether it is in force now (R307). -/
def State.lockInForce (s : State) (p : Nat) : Bool := s.lockRecorded p && decide (s.lockAge p < s.lockSeconds)

/-- The device lockout, and a credential's place. -/
def State.deviceLocked (s : State) : Bool := s.lockInForce 128
def State.credPlace (s : State) (c : Nat) : Option Nat :=
  (List.range 128).find? (fun p => s.lockRecorded p && failCred (s.lockEntry p) == c)
def State.credLocked (s : State) (c : Nat) : Bool := match s.credPlace c with | some p => s.lockInForce p | none => false

/-- The LOCKOUT record (Table 13-5). -/
def State.lockRecord (s : State) (cred event : Nat) : State :=
  s.journal blkGLT 0x0031 (s.refOf cred ++ leBytes 2 cred ++ leBytes 1 event ++ leBytes 1 (s.reg Reg.GLT_LOCKOUT_CFG_MINUTES))

/-- Write the entry of a place; it no longer counts as restarted. -/
def State.writePlace (s : State) (p e : Nat) : State :=
  let w := (s.lktNow [.group (lockAddr p / 8) e]).2
  { w with glt := { w.glt with restarted := w.glt.restarted.filter (· != p) } }

/-- A lockout of a credential, or of the device (0xFFFF), ends a DRIVER grant that it concerns (R458). -/
def State.endGrant (s : State) (cred : Nat) : State :=
  match s.priv.driver with
  | some d => if cred = 0xFFFF ∨ d.1 = cred then s.setPriv { s.priv with driver := none } else s
  | none => s

/-- Begin a lockout in a place (R305, R307, R458). -/
def State.beginLockout (s : State) (p cred : Nat) : State :=
  let t := s.secNow
  ((s.writePlace p (low 32 t.1 + cred * 2 ^ 32 + (1 + 2 * ofBool t.2) * 2 ^ 56)).lockRecord cred 0).endGrant cred

/-- Begin a credential lockout; without a free place a device lockout begins (R311). -/
def State.beginCredLockout (s : State) (cred : Nat) : State :=
  match (List.range 128).find? (fun p => !s.lockRecorded p || (failCred (s.lockEntry p) == cred)) with
  | some p => s.beginLockout p cred
  | none => if s.deviceLocked then s else s.beginLockout 128 0xFFFF

/-- The log entries of a scope no longer count for it (R309). -/
def State.forgetFails (s : State) (scope : Nat) (sel : Nat → Bool) : State :=
  let items := (List.range 20).filterMap (fun i =>
    let e := s.failEntry i
    if bit (failFlags e) 0 && !bit (failFlags e) scope && sel (failCred e) then some (LktItem.group ((0x600 + 8 * i) / 8) (e + 2 ^ (56 + scope))) else none)
  if items.isEmpty then s else (s.lktNow items).2

/-- End the lockout of a place (R307, R309, R313). -/
def State.endLockout (s : State) (p event : Nat) : State :=
  let cred := if p = 128 then 0xFFFF else failCred (s.lockEntry p)
  let s1 := (s.writePlace p 0).lockRecord cred event
  if p = 128 then s1.forgetFails 2 (fun _ => true) else s1.forgetFails 3 (· == cred)

/-- Log a counted failure (R305, R306, R308): the record, and the lockouts that it begins. -/
def State.countFailure (s : State) (cred kind cause : Nat) : State :=
  let dev := s.deviceLocked
  let own := s.credLocked cred
  let i := s.group (0x6A0 / 8) % 20
  let t := s.secNow
  let flags := 1 + 2 * ofBool t.2 + 4 * ofBool dev + 8 * ofBool own
  let e := low 32 t.1 + cred * 2 ^ 32 + kind * 2 ^ 48 + flags * 2 ^ 56
  let w := (s.lktNow [.group ((0x600 + 8 * i) / 8) e, .group (0x6A0 / 8) ((i + 1) % 20)]).2
  let s1 : State := { w with glt := { w.glt with staleFails := w.glt.staleFails.filter (· != i) } }
  let s2 := s1.journal blkGLT 0x0030 (s1.refOf cred ++ leBytes 2 cred ++ leBytes 1 kind ++ leBytes 1 cause ++ leBytes 1 0)
  let s3 := if !own && decide (5 ≤ s2.credFails cred) then s2.beginCredLockout cred else s2
  if !dev && !s3.deviceLocked && decide (20 ≤ s3.deviceFails) then s3.beginLockout 128 0xFFFF else s3

/-- A lockout begins again: its place takes the timebase of now, in timebase form; while the Locket does not accept that, GLT keeps the place in mind. -/
def State.restartPlace (s : State) (p : Nat) : State :=
  let w := s.lktNow [.group (lockAddr p / 8) (low 32 (s.timebase / 1000000) + failCred (s.lockEntry p) * 2 ^ 32 + 3 * 2 ^ 56)]
  if w.1 then w.2 else { w.2 with glt := { w.2.glt with restarted := w.2.glt.restarted ++ [p] } }

/-- R312, at the end of the logic stage: lockouts that begin again, and failures that can no longer be compared. `fresh`: after a class A reset while the RTC is not
valid every lockout in force begins again. -/
def State.restartLockouts (s : State) (fresh : Bool) : State :=
  let tb (e : Nat) := bit (failFlags e) 1
  let r := (List.range 129).filter (fun p => s.lockRecorded p && (fresh || tb (s.lockEntry p)))
  let f := (List.range 20).filter (fun i => bit (failFlags (s.failEntry i)) 0 && tb (s.failEntry i))
  r.foldl State.restartPlace { s with glt := { s.glt with restarted := [], staleFails := f } }

end Sys2Proof.Machine
end

