-- ==== Sys2Proof/Machine/VrdOps.lean ====
section
/-! DEFINITION. The map store's records, the evidence of a session, and VRD's judgement as operations (chapter 08). -/
namespace Sys2Proof.Machine

/-! ## The map store (Tables 08-1 and 08-3) -/

/-- A little-endian number of the map store. -/
def State.mapNum (s : State) (o n : Nat) : Nat := ofLe (slice s.loc.map o n)

/-- A signed 16-bit number of the map store. -/
def State.mapInt (s : State) (o : Nat) : Int := signed 16 (s.mapNum o 2)

/-- Whether port k (0 to 3 this device's, 4 to 7 the partner's) has a present record. -/
def State.portPresent (s : State) (k : Nat) : Bool := bit (s.mapNum (0x200 + 8 * k + 6) 1) 0

/-- Offset of zone record z. -/
def zoneAt (z : Nat) : Nat := 0x400 + 128 * z

/-- FACES of zone z. -/
def State.zoneFaces (s : State) (z : Nat) : Nat := s.mapNum (zoneAt z) 1

/-- R376: whether zone z takes part in solving and testing. -/
def State.zoneOn (s : State) (z : Nat) : Bool := decide (1 ≤ z ∧ z < 16) && bit (2 * s.reg Reg.LOC_ZONE_EN_EN) z && s.zoneFaces z != 0

/-- The range limit L_k of zone z. -/
def State.zoneLimit (s : State) (z k : Nat) : Nat := s.mapNum (zoneAt z + 8 + 2 * k) 2

/-! ## Evidence (Q_40, Q_41, Q_43; R386, R390, R391) -/

/-- A payload field of an entry. -/
def Entry.num (e : Entry) (o n : Nat) : Nat := ofLe (slice e.payload o n)

/-- The entries of a ring that derive from a session and a handle, oldest first. -/
def State.evidence (s : State) (q session handle : Nat) : List Entry := (s.ring q).filter (fun e => e.num 0 4 == session && e.num 4 2 == handle)

/-- The session whose evidence VRD holds: the open one, or the last one completed if none is open. -/
def State.vrdSession (s : State) : Option GSess := match s.glt.sess with | some g => some g | none => s.glt.last

/-- The Q_40 entry of a handle. -/
def State.proofOf (s : State) (g : GSess) (h : Nat) : Option Entry := (s.evidence 40 g.number h).head?

/-- Blocks of a handle whose Q_41 entries and Q_43 entry have all been made, latest last. -/
def State.fullBlocks (s : State) (g : GSess) (h : Nat) : List Nat :=
  ((s.evidence 43 g.number h).map (fun e => e.num 6 1)).filter (fun b => b != 0xFF && (s.evidence 41 g.number h).any (fun e => e.num 10 1 == b))

/-- The Q_41 entries and the Q_43 entry that VRD uses for a handle (R390): of its latest complete block; where no block ran for it, those that LOC solved from Q_42 alone. -/
def State.usedEvidence (s : State) (g : GSess) (h : Nat) : Option (List Entry × Entry) :=
  let p := s.evidence 43 g.number h
  match (s.fullBlocks g h).getLast? with
  | some b => match (p.filter (fun e => e.num 6 1 == b)).getLast? with
    | some e => some ((s.evidence 41 g.number h).filter (fun x => x.num 10 1 == b), e)
    | none => none
  | none => ((p.filter (fun e => e.num 6 1 == 0xFF)).getLast?).map (fun e => ([], e))

/-- Whether a handle has been dropped or released. -/
def GSess.gone (g : GSess) (h : Nat) : Bool := g.toks.any (fun t => t.handle == h && (t.state == 4 || t.state == 5))

/-- R389: whether a handle has complete evidence or is excluded. -/
def State.tokenReady (s : State) (g : GSess) (h : Nat) : Bool :=
  g.gone h || (match s.proofOf g h with | some e => e.num 10 1 != 0 || (s.usedEvidence g h).isSome | none => false)

/-! ## Judging a token (Table 08-6, R392 to R395) -/

/-- The privilege bit of a type. -/
def typeBit (t : Nat) : Nat := if t = 2 then 1 else if t = 3 then 2 else 0

/-- The zones of a proposal; zone 0, NONE, is none of them (R375). -/
def State.typeZones (s : State) (p : Proposal) : List Nat :=
  if p.typ = 1 then (match p.trig with | some t => [t.zone].filter (· != 0) | none => [])
  else (List.range 16).filter (fun z => z != 0 && bit (s.reg (if p.typ = 2 then Reg.VRD_START_CFG_ZONES else Reg.VRD_PRESENT_CFG_ZONES)) z)

/-- The REF_PORT of a proposal. -/
def State.typeRef (s : State) (p : Proposal) : Nat :=
  if p.typ = 1 then (match p.trig with | some t => t.ref | none => 0)
  else s.reg (if p.typ = 2 then Reg.VRD_START_CFG_REF_PORT else Reg.VRD_PRESENT_CFG_REF_PORT)

/-- The least CONF of a type. -/
def State.typeConf (s : State) (t : Nat) : Nat :=
  s.reg (if t = 1 then Reg.VRD_CONF_ENTRY else if t = 2 then Reg.VRD_CONF_START else if t = 3 then Reg.VRD_CONF_PRESENT else Reg.VRD_CONF_WALK)

/-- D of a Q_41 entry, and whether its STATUS is OK. -/
def Entry.bound (e : Entry) : Int := signed 32 (e.num 12 4)
def Entry.ok41 (e : Entry) : Bool := e.num 7 1 == stOK

/-- R394. -/
def State.rangeTest (s : State) (z : Nat) (q41 : List Entry) (pos : Entry) : Bool :=
  let good (e : Entry) := e.ok41 && s.portPresent (e.num 6 1) && s.zoneLimit z (e.num 6 1) != 0 && decide (e.bound ≤ s.zoneLimit z (e.num 6 1))
  let named (a b : Entry) := bit (a.num 9 1) (b.num 6 1 % 4)
  let l := q41.filter good
  l.any (fun a => l.any (fun b => a.num 6 1 != b.num 6 1 && a.num 6 1 / 4 == b.num 6 1 / 4 && named a b && named b a)) &&
    !q41.any (fun e => e.num 8 1 == 4) && decide (-(10 * (s.reg Reg.VRD_CFG_BETA_LIM : Int)) ≤ signed 16 (pos.num 20 2))

/-- R392. -/
def State.freshTime (s : State) (t : Nat) : Bool := decide (s.timebase ≤ t + 150000)

/-- The outcome of a token: the order of the check that it fails (0: it qualifies) and the status. A token that was dropped or released, or that gave no proof, has no entry of
its own that passes order 1 (assumption 19). -/
def State.judgeToken (s : State) (g : GSess) (p : Proposal) (h : Nat) : Nat × Nat :=
  match s.proofOf g h with
  | none => (1, stAUTH)
  | some e =>
    if e.num 10 1 ≠ 0 then (1, e.num 9 1)
    else if g.gone h then (1, stAUTH)
    else if (s.ring 40).any (fun x => x.num 0 4 == g.number && x.num 10 1 == 3 && x.num 6 2 == e.num 6 2) then (2, stAUTH)
    else if !bit (e.num 8 1) (typeBit p.typ) then (3, stPOLICY)
    else if s.deviceLocked || s.credLocked (e.num 6 2) then (4, stLOCKOUT)
    else match s.usedEvidence g h with
    | none => if s.freshTime (e.num 12 6) then (6, stRANGE) else (5, stSTALE)
    | some u =>
      if !s.freshTime (e.num 12 6) || !u.1.all (fun x => s.freshTime (x.num 24 6)) || !s.freshTime (u.2.num 24 6) then (5, stSTALE)
      else
        let zs := (s.typeZones p).filter (fun z => bit g.mode 3 && s.rangeTest z u.1 u.2)
        if zs.isEmpty then (6, stRANGE)
        else if zs.contains (u.2.num 9 1) && decide (s.typeConf p.typ ≤ u.2.num 22 1) then (0, stOK) else (7, stZONE)

/-- Cause and status of Table 08-7 for a token that failed at an order (R402). Order 2 has no cause of its own: 8 (assumption 19). -/
def orderCause (o st : Nat) : Nat :=
  if o = 0 then 0 else if o = 1 then (if st = stLOCKOUT then 10 else 8) else if o = 2 then 8 else if o = 3 then 9 else if o = 4 then 10
  else if o = 5 then 11 else if o = 6 then 12 else 13

/-- D at a port among entries, when its status is OK. -/
def dAt (l : List Entry) (port : Nat) : Option Int := ((l.filter (fun e => e.ok41 && e.num 6 1 == port)).head?).map Entry.bound

/-- D at a port among entries, whatever their status (R405). -/
def dRecorded (l : List Entry) (port : Nat) : Option Int := ((l.filter (fun e => e.num 6 1 == port)).head?).map Entry.bound

/-- Whether evidence has come from the partner: a Q_41 entry of its ports, or a burst on its aerials. -/
def State.partnerUsed (s : State) (g : GSess) (h : Nat) (l : List Entry) : Bool :=
  l.any (fun x => decide (4 ≤ x.num 6 1)) || (s.evidence 42 g.number h).any (fun x => x.block == blkTSU)

/-- The smallest D with status OK. -/
def dMin (l : List Entry) : Option Int :=
  (l.filter Entry.ok41).foldl (fun m e => match m with | some x => if e.bound < x then some e.bound else m | none => some e.bound) none

/-- A token as the choice of R396 and the best token of R402 see it. -/
structure Judged where
  handle : Nat
  cred : Nat
  order : Nat
  status : Nat
  zone : Nat
  dref : Option Int
  dmin : Option Int
  drec : Option Int := none
  place : Nat
  partner : Bool
  deriving DecidableEq, Repr

/-- R396: whether token a comes before token b. -/
def Judged.before (a b : Judged) : Bool :=
  if a.zone ≠ b.zone then decide (a.zone < b.zone)
  else match a.dref, b.dref with
  | some x, some y => if x ≠ y then decide (x < y) else decide (a.place < b.place)
  | some _, none => true
  | none, some _ => false
  | none, none => match a.dmin, b.dmin with
    | some x, some y => if x ≠ y then decide (x < y) else decide (a.place < b.place)
    | some _, none => true
    | none, some _ => false
    | none, none => decide (a.place < b.place)

/-- The token that comes first. -/
def chooseToken (l : List Judged) : Option Judged :=
  l.foldl (fun m x => match m with | some y => if x.before y then some x else m | none => some x) none

/-- R402: the best token: the one that passed the most checks, ties to the earlier Q_40 entry. -/
def bestToken (l : List Judged) : Option Judged :=
  l.foldl (fun m x => match m with
    | some y => if y.order < x.order || (x.order == y.order && decide (x.place < y.place)) then some x else m
    | none => some x) none

/-- Judge one handle. -/
def State.judged (s : State) (g : GSess) (p : Proposal) (h : Nat) : Judged :=
  let o := s.judgeToken g p h
  let e := s.proofOf g h
  let u := s.usedEvidence g h
  let l := match u with | some x => x.1 | none => []
  { handle := h, cred := match e with | some x => x.num 6 2 | none => 0xFFFF, order := o.1, status := o.2
    zone := match u with | some x => x.2.num 9 1 | none => 0, dref := dAt l (s.typeRef p), dmin := dMin l, drec := dRecorded l (s.typeRef p)
    place := match e with | some x => x.seq | none => 2 ^ 32
    partner := s.partnerUsed g h l }

/-! ## The decision (R389 to R405) -/

/-- The handles selected in a session, in order of selection. -/
def GSess.handles (g : GSess) : List Nat := g.toks.map GTok.handle

/-- Why a WALKAWAY_LOCK proposal does not qualify (R400): its cause of Table 08-7, 0 when it qualifies, and its candidates. A session that is still open has not completed. -/
def State.walkJudge (s : State) (g : GSess) (p : Proposal) : Nat × List Candidate :=
  let present := g.handles.filterMap (fun h => match s.proofOf g h with
    | some e =>
      if e.num 10 1 ≠ 0 || !bit (e.num 8 1) 0 then none
      else
        let stays := match s.usedEvidence g h with
          | some u => (u.2.num 10 2 &&& s.reg Reg.VRD_WALK_CFG_ZONES) != 0 || decide (u.2.num 22 1 < s.reg Reg.VRD_CONF_WALK)
          | none => true
        some ({ handle := h, cred := e.num 6 2, status := if stays then stZONE else stOK, cause := if stays then 14 else 0, d := 0 } : Candidate)
    | none => none)
  match (if s.glt.sess.any (fun x => x.number == g.number) then none else g.ends) with
  | some (st, c) =>
    if st ≠ stOK ∨ 1 < c then (14, present)
    else if s.vrd.endedAt + 150000 < p.acceptedAt then (11, present)
    else if present.any (fun x => x.cause != 0) then (14, present) else (0, present)
  | none => (14, present)

/-- Decide a proposal at its decision point. The status byte of a token that was not decided (cause 15) is not given: `free`. -/
def State.decide_ (s : State) (g : GSess) (p : Proposal) (free : Nat) : Decision :=
  let flags (partner : Bool) := ofBool partner + 2 * ofBool s.pairDegraded
  if s.pwr.dip then { status := stPOWER, cause := 5, chosen := none, flags := 0, at_ := s.timebase, cands := [] }
  else if p.typ = 4 then
    let w := s.walkJudge g p
    let n := s.vrd.walk + 1
    if w.1 ≠ 0 then { status := if w.1 = 11 then stSTALE else stPOLICY, cause := w.1, chosen := none, flags := 0, at_ := s.timebase, cands := w.2 }
    else if n < s.reg Reg.VRD_WALK_CFG_COUNT then { status := stPOLICY, cause := 14, chosen := none, flags := 0, at_ := s.timebase, cands := w.2 }
    else { status := stOK, cause := 0, chosen := some (0, 0xFFFF, 0), flags := flags (w.2.any (fun x => s.partnerUsed g x.handle ((s.usedEvidence g x.handle).elim [] (·.1)))), at_ := s.timebase, cands := w.2 }
  else
    let ready := g.handles.filter (s.tokenReady g)
    let l := ready.map (s.judged g p)
    let cand (h : Nat) : Candidate :=
      let j := s.judged g p h
      if ready.contains h then { handle := h, cred := j.cred, status := j.status, cause := orderCause j.order j.status, d := j.drec.getD 0 }
      else { handle := h, cred := j.cred, status := free, cause := 15, d := j.drec.getD 0 }
    let cs := g.handles.map cand
    match chooseToken (l.filter (fun j => j.order == 0)) with
    | some j => { status := stOK, cause := 0, chosen := some (j.zone, j.cred, j.handle), flags := flags j.partner, at_ := s.timebase, cands := cs }
    | none => match bestToken l with
      | some j => { status := j.status, cause := orderCause j.order j.status, chosen := none, flags := 0, at_ := s.timebase, cands := cs }
      | none => { status := stAUTH, cause := 8, chosen := none, flags := 0, at_ := s.timebase, cands := cs }

/-- Give the pending proposal of a type its decision now. The walk-away count follows R401 at once. -/
def State.decideNow (s : State) (t : Nat) : State :=
  match s.vrdSession, s.vrd.pending.find? (fun p => p.typ == t && p.decided.isNone) with
  | some g, some p =>
    let r := s.draw 1
    let d := r.2.decide_ g p (ofLe r.1)
    let l := r.2.vrd.pending.map (fun x => if x == p then { x with decided := some d } else x)
    let qualifies := t == 4 && (r.2.walkJudge g p).1 == 0 && d.cause == 14
    let walk := if qualifies then r.2.vrd.walk + 1 else if t = 4 then 0 else r.2.vrd.walk
    { r.2 with vrd := { r.2.vrd with pending := l, walk := walk } }
  | _, _ => s

/-- Whether the decision point of the session's proposals has come (R389): it has completed, or every selected handle is complete or excluded. -/
def State.allReady (s : State) (g : GSess) : Bool := s.glt.sess.isNone || (!g.handles.isEmpty && g.handles.all (s.tokenReady g))

/-- Evidence or the session has changed: proposals whose decision point has come are decided on the evidence held now. -/
def State.vrdPoll (s : State) : State :=
  match s.vrdSession with
  | none => s
  | some g => if s.allReady g then [1, 2, 3, 4].foldl State.decideNow s else s

/-- A dip decides every pending proposal (R148, R149): the session's evidence is void. -/
def State.vrdDip (s : State) : State := [1, 2, 3, 4].foldl State.decideNow s

/-! ## Triggers and proposals -/

/-- Whether a trigger stands (R383). -/
def State.stands (s : State) (t : Option Trigger) : Bool := match t with | some x => !s.since x.latched 1000000 | none => false

/-- The trigger of a type. -/
def State.trigOf (s : State) (typ : Nat) : Option Trigger := if typ = 1 then s.vrd.entry else if typ = 2 then s.vrd.start else none

/-- Latch a START trigger (R383): E_138. -/
def State.startTrigger (s : State) : State :=
  if !s.flag Reg.VRD_CTRL_EN || !s.awake then s
  else State.raise { s with vrd := { s.vrd with start := some { zone := 0, ref := 0, latched := s.now, start := s.now } } } 138

/-- Latch an ENTRY trigger for an aerial that an enabled map entry names, with the instant that its deadline counts from (R383, R384). -/
def State.entryTrigger (s : State) (aerial from_ : Nat) : State :=
  match (List.range 4).find? (fun h => s.regI Reg.VRD_ENTRY_MAP_EN h == 1 && s.regI Reg.VRD_ENTRY_MAP_AERIAL h == aerial) with
  | none => s
  | some h =>
    if !s.flag Reg.VRD_CTRL_EN then s
    else
      let t : Trigger := { zone := s.regI Reg.VRD_ENTRY_MAP_ZONE h, ref := s.regI Reg.VRD_ENTRY_MAP_REF_PORT h, latched := s.now, start := from_ }
      State.raise { s with vrd := { s.vrd with entry := some t } } 138

/-- The deadline of a proposal of type 1 or 2. -/
def State.deadlineOf (s : State) (p : Proposal) : Option Nat :=
  if p.typ = 1 ∨ p.typ = 2 then p.trig.map (fun t => t.start + 1000 * s.reg (if p.typ = 1 then Reg.VRD_DEADLINE_ENTRY else Reg.VRD_DEADLINE_START)) else none

/-- The deadline of the pending proposal of a type is judged (R389): it is the decision point if a token qualifies. -/
def State.judgeDeadline (s : State) (typ : Nat) : State :=
  match s.vrdSession, s.vrd.pending.find? (fun p => p.typ == typ && p.decided.isNone && !p.deadlineDone) with
  | some g, some p => match s.deadlineOf p with
    | some d =>
      if s.now < d then s
      else if g.handles.any (fun h => s.tokenReady g h && (s.judgeToken g p h).1 == 0) then s.decideNow typ
      else
        let l := s.vrd.pending.map (fun x => if x == p then { x with deadlineDone := true } else x)
        { s with vrd := { s.vrd with pending := l } }
    | none => s
  | _, _ => s

/-- A proposal completes: VRD_RESULT, E_137 unless OK, and its issuer. -/
def State.propEnd (s : State) (p : Proposal) (status cause ticket cred handle : Nat) : State :=
  let s1 := ((s.set Reg.VRD_RESULT_TYPE p.typ).set Reg.VRD_RESULT_STATUS status).set Reg.VRD_RESULT_CAUSE cause
  let s2 := if status = stOK then s1 else s1.raise 137
  match p.cmd with
  | some c => match s2.runningSeq 1 c with
    | some r => s2.complete r blkVRD status cause (leBytes 4 ticket ++ leBytes 2 cred ++ leBytes 2 handle)
    | none => s2
  | none => s2.set Reg.VRD_PROPOSE_GO (ofBool (s2.vrd.pending.any (fun x => x.cmd.isNone)))

/-- The cause of an immediate refusal (R387): 0 when the proposal is accepted. -/
def State.propRefused (s : State) (typ session : Nat) : Nat :=
  match s.vrdSession with
  | none => 1
  | some g =>
    let t := s.trigOf typ
    if !s.flag Reg.VRD_CTRL_EN || typ == 0 || decide (4 < typ) || g.number != session then 1
    else if decide (typ ≤ 2) && (!s.stands t || (match t with | some x => decide (g.openedAt < x.latched) | none => true)) then 2
    else if s.vrd.issued.contains (session, typ) then 3
    else if s.vrd.pending.any (fun p => p.typ == typ) then 4
    else if s.pwr.dip then 5
    else if s.isStandby then 7
    else 0

/-- A proposal is made (R385 to R389). -/
def State.propose (s : State) (typ session : Nat) (cmd : Option Nat) : State :=
  let p : Proposal := { typ := typ, session := session, cmd := cmd, trig := s.trigOf typ, acceptedAt := s.now }
  let c := s.propRefused typ session
  if c ≠ 0 then
    let t : State := if typ = 4 then { s with vrd := { s.vrd with walk := 0 } } else s
    t.propEnd p (if c = 4 then stFULL else if c = 5 then stPOWER else stPOLICY) c 0 0xFFFF 0
  else
    let s1 : State := { s with vrd := { s.vrd with pending := s.vrd.pending ++ [p] } }
    let s2 := if cmd.isNone then s1.set Reg.VRD_PROPOSE_GO 1 else s1
    (s2.vrdPoll).judgeDeadline typ

/-- The ticket of a decision (Table 08-8). -/
def ticketPayload (p : Proposal) (number expiry zone cred handle flags : Nat) : List Byte :=
  leBytes 1 p.typ ++ leBytes 1 zone ++ leBytes 2 cred ++ leBytes 4 p.session ++ leBytes 4 number ++ leBytes 6 expiry ++ leBytes 2 handle ++ leBytes 1 flags

/-- Whether a token of a proposal's session failed order 1 by its own proof. -/
def State.firstOrder (s : State) (p : Proposal) (h : Nat) : Bool :=
  (s.ring 40).any (fun e => e.num 0 4 == p.session && e.num 4 2 == h && e.num 10 1 != 0)

/-- What VRD does with a decision (R388, R401, R404, R405): the verdict record, the candidate records, the ticket, the completion. No ticket is issued in a dip that has begun since the decision
point (R149): the proposal ends with POWER_ABORT. -/
def State.carryOut (s : State) (p : Proposal) (d0 : Decision) : State :=
  let d : Decision := if s.pwr.dip && d0.chosen.isSome then { d0 with status := stPOWER, cause := 5, chosen := none } else d0
  let n := low 32 (s.reg Reg.VRD_TICKET_NUMBER + 1)
  let zone := match d.chosen with | some c => c.1 | none => 0
  let cred := match d.chosen with | some c => c.2.1 | none => 0xFFFF
  let handle := match d.chosen with | some c => c.2.2 | none => 0
  let number := if d.chosen.isSome then n else 0
  let s0 : State := { s with vrd := { s.vrd with pending := s.vrd.pending.erase p } }
  let s1 := s0.journal blkVRD 0x0020 (s0.refOf cred ++ leBytes 1 p.typ ++ leBytes 1 d.status ++ leBytes 1 d.cause ++ leBytes 1 zone ++ leBytes 2 cred ++ leBytes 2 handle ++
    leBytes 4 p.session ++ leBytes 4 number ++ leBytes 1 d.cands.length)
  let rec_ (t : State) (c : Candidate) : State := t.journal blkVRD 0x0021
    (t.refOf c.cred ++ leBytes 2 c.handle ++ leBytes 2 c.cred ++ leBytes 1 c.status ++ leBytes 1 c.cause ++ leBytes 4 (unsigned 32 c.d) ++ leBytes 4 p.session)
  let s2 := d.cands.foldl rec_ s1
  let err (t : State) (c : Candidate) : State :=
    if p.typ = 4 then t
    else if c.cause = 11 then t.bump Reg.VRD_ERR_STALE else if c.cause = 12 then t.bump Reg.VRD_ERR_RANGE else if c.cause = 13 then t.bump Reg.VRD_ERR_ZONE
    else if c.cause = 8 ∨ (c.cause = 10 ∧ t.firstOrder p c.handle) then t.bump Reg.VRD_ERR_AUTH else t
  let s3 := d.cands.foldl err s2
  match d.chosen with
  | some _ =>
    let expiry := d.at_ + 1000 * s3.reg Reg.VRD_CFG_TICKET_MS
    let iss := { s3.vrd with issued := s3.vrd.issued ++ [(p.session, p.typ)], walk := if p.typ ≤ 2 then 0 else s3.vrd.walk }
    let t := (State.set { s3 with vrd := iss } Reg.VRD_TICKET_NUMBER n).emit 44 blkVRD (ticketPayload p n expiry zone cred handle d.flags)
    let u := ((t.set Reg.VRD_RESULT_CRED_CRED cred).set Reg.VRD_RESULT_CRED_HANDLE handle).raise 136
    u.propEnd p d.status d.cause n cred handle
  | none => s3.propEnd p d.status d.cause 0 0xFFFF 0

/-- A class L reset of VRD: each pending proposal completes with RESET_ABORT, cause 6, and the evidence goes. -/
def State.vrdReset (s : State) : State :=
  let l := s.vrd.pending
  let s1 : State := { s with vrd := {} }
  let s2 := l.foldl (fun t p => t.propEnd p stRESET 6 0 0xFFFF 0) s1
  [40, 41, 43].foldl (fun t q => t.setRing q []) s2

end Sys2Proof.Machine
end

