-- ==== Sys2Proof/Machine/GltOps.lean ====
section
/-! DEFINITION. The Gelet link layer as operations (chapter 05): frames, templates, opening, the flow of a session, its evidence and its completion. -/
namespace Sys2Proof.Machine

/-! ## Frames (R224 to R234) -/

/-- CRC-16 of a frame over its prefix byte (R232, R233). -/
def geletCrc (prefix_ : Nat) (body : List Byte) : Nat := crc16 (bytesBits (BitVec.ofNat 8 prefix_ :: body))

/-- The bytes of fields of given widths, first field first (R225). -/
def packFields (l : List (Nat × Nat)) : List Byte :=
  let v := l.foldl (fun n p => n * 2 ^ p.1 + low p.1 p.2) 0
  beBytes ((l.map Prod.fst).sum / 8) v

/-! ## Session templates (template RAM; the layout is assumption 15) -/

/-- Bus address of the template RAM. -/
def templateRam : Nat := 0x40078000

/-- A template. -/
structure Template where
  passive : Bool
  band : Nat
  uwb : Bool
  reportAll : Bool
  again : Bool
  preamble : Nat
  frame : Nat
  hold : Nat
  idle : Nat
  bursts : List (Nat × Nat × Nat × Bool)
  deriving DecidableEq, Repr

/-- The record of template n. -/
def State.templateBytes (s : State) (n : Nat) : List Byte := s.bytes (templateRam + 64 * n) 64

/-- Parse template n: bursts as index, descriptor, group, partner's aerials. -/
def State.template (s : State) (n : Nat) : Template :=
  let l := s.templateBytes n
  let b (i : Nat) := ofLe (slice l i 1)
  let peer := ofLe (slice l 40 2)
  { passive := bit (b 0) 0, band := bits (b 0) 1 2, uwb := bit (b 0) 3, reportAll := bit (b 0) 4, again := bit (b 0) 5, preamble := b 1, frame := b 2,
    hold := b 3, idle := b 5, bursts := (List.range (min 16 (b 4))).map (fun i => (i, b (8 + i), b (24 + i), bit peer i)) }

/-- Add a burst to the groups so far: to the last one while it has the same group byte and fewer than 8 bursts (R234), else to a new one. -/
def addBurst (l : List (List (Nat × Nat × Nat × Bool))) (x : Nat × Nat × Nat × Bool) : List (List (Nat × Nat × Nat × Bool)) :=
  match l.getLast? with
  | some g => if decide (g.length < 8) && (g.head?.map (fun y => y.2.2.1)) == some x.2.2.1 then l.dropLast ++ [g ++ [x]] else l ++ [[x]]
  | none => [[x]]

/-- The groups of a template, in order: stretches of consecutive bursts with one group byte, so that the indices of each run upward from its first (R254). -/
def Template.runs (t : Template) : List (List (Nat × Nat × Nat × Bool)) := t.bursts.foldl addBurst []

/-- The groups by the index of their first burst. -/
def Template.groups (t : Template) : List Nat := t.runs.filterMap (fun r => r.head?.map (fun x => x.1))

/-- The bursts of a group. -/
def Template.groupBursts (t : Template) (g : Nat) : List (Nat × Nat × Nat × Bool) := (t.runs.find? (fun r => r.head?.map (fun x => x.1) == some g)).getD []

/-- The group sent with WAKE: none in passive mode (R237). -/
def Template.first (t : Template) : List (Nat × Nat × Nat × Bool) :=
  if t.passive then [] else match t.groups with | g :: _ => t.groupBursts g | [] => []

/-- The receiver of a band (R266). -/
def bandReceiver (b : Nat) : Nat := if b = 1 then 1 else 0

/-- The nominal frequency of a band, kHz. -/
def bandKhz (b : Nat) : Nat := if b = 0 then 433920 else if b = 1 then 868300 else 315000

/-! ## Reply lengths (R230, R231, R253) -/

/-- Cycles of a reply with a payload of n bytes. -/
def State.replyCycles (s : State) (passive : Bool) (n : Nat) : Nat :=
  if passive then (36 + 8 * n) * 16 else ((56 + 8 * n) * s.reg Reg.LFA_CARRIER_FREQ + 19999) / 20000

/-- R253: the smallest S that holds a reply. -/
def State.slotUnits (s : State) (passive : Bool) (n : Nat) : Option Nat :=
  ((List.range 16).drop 4).find? (fun u => decide (s.replyCycles passive n + 64 ≤ 256 * u))

/-- S and FLAGS of a CHALLENGE of this session: REPORT_ALL when asked and when a slot can hold it. -/
def State.challengeArgs (s : State) (t : Template) (runs : Nat) : Nat × Nat :=
  let plain := ((s.slotUnits t.passive 16).getD 15, 0)
  if t.reportAll && !t.passive then
    match s.slotUnits false (16 + 1 + 6 * runs) with | some u => (u, 1) | none => plain
  else plain

/-! ## Tokens -/

/-- Handles selected: released ones have left (R260). -/
def GSess.selected (g : GSess) : Nat := (g.toks.filter (fun t => t.state != 5)).length

/-- Change a token. -/
def GSess.setTok (g : GSess) (h : Nat) (f : GTok → GTok) : GSess :=
  { g with toks := g.toks.map (fun t => if t.handle == h && t.state != 5 then f t else t) }

/-- A token by handle. -/
def GSess.tok (g : GSess) (h : Nat) : Option GTok := g.toks.find? (fun t => t.handle == h && t.state != 5)

/-- Replace the open session. -/
def State.setSess (s : State) (g : GSess) : State := { s with glt := { s.glt with sess := some g } }

/-- Count in a field of GLT_ERR and raise E_102; a saturated counter increments no more (Table 05-7). -/
def State.gltErr (s : State) (f : Field) : State := if s.reg f < 255 then (s.bump f).raise 102 else s

/-! ## Opening and completing (R262 to R267) -/

/-- Why a session cannot open (Table 05-6, cause 3, and R128 after S3). -/
def State.openRefused (s : State) (n : Nat) : Bool :=
  let t := s.template n
  let grp := s.reg Reg.GLT_GROUP_GROUP
  decide (16 ≤ n) || (s.templateBytes n).all (· == 0) || !s.flag Reg.GLT_CTRL_EN || grp == 0 || grp == 0xFFFF || t.band == 3 ||
    (t.passive && !s.flag Reg.GLT_CTRL_PASSIVE_EN) || !bit (s.reg Reg.UHF_CTRL_EN) (bandReceiver t.band) || s.flag Reg.PWR_IDLE_STAT_STORAGE || s.pwr.s3Held

/-- The frequency to which a session of a band retunes UHF_0 (R267): the band's nominal one, when UHF_0's home frequency lies in the other of its two bands. -/
def State.retune (s : State) (t : Template) : Option Nat :=
  let home := if s.regI Reg.UHF_FREQ_KHZ 0 < 374460 then 2 else 0
  if t.passive || t.band == 1 || home == t.band then none else some (bandKhz t.band)

/-- The issuer of a session learns its outcome (R263). -/
def State.gltTell (s : State) (i : GIssuer) (status cause number : Nat) : State :=
  match i with
  | .queue cmd => match s.runningSeq 1 cmd with
    | some r => s.complete r blkGLT status cause (leBytes 4 number)
    | none => s
  | _ => s

/-- Proof checks in progress outlive their session: each still makes its Q_40 entry (R283). -/
def State.keepChecks (s : State) (g : GSess) : State := { s with glt := { s.glt with late := s.glt.late ++ g.checks.map (fun c => (g, c)) } }

/-- A session completes: GLT_LAST, E_101, the SESSION record, the end of its keys and blocks, the band, and its issuer. -/
def State.gltComplete (s : State) (g : GSess) (status cause : Nat) : State :=
  let g1 := { g with toks := g.toks.map (fun t => if t.state == 1 then { t with state := 4 } else t), ends := some (status, cause) }
  let s1 : State := { s with glt := { s.glt with sess := none, last := some g1, tuned := none }, vrd := { s.vrd with endedAt := s.now }, tsu := { s.tsu with rangeGo := [], rangeWant := [] } }
  let s2 := (((s1.set Reg.GLT_SESS_CTL_ABORT 0).set Reg.GLT_LAST_STATUS status).set Reg.GLT_LAST_CAUSE cause).raise 101
  let s3 := (s2.keepChecks g).journal blkGLT 0x0070
    (leBytes 4 g.number ++ leBytes 1 g.template ++ leBytes 1 status ++ leBytes 1 cause ++ leBytes 1 g1.toks.length ++ leBytes 1 g.rounds)
  let s4 := s3.uwbSessionEnd g.number
  let s5 := if s4.mirrorsNow then s4.tsuSendSeq 0x30 0 [] else s4
  State.vrdPoll (s5.gltTell g.issuer status cause g.number)

/-- Empty the evidence rings Q_40 to Q_43 of every session but one (R148, R265: evidence belongs to one session). -/
def State.dropEvidence (s : State) : State := [40, 41, 42, 43].foldl (fun t q => t.setRing q []) s

/-- The SESSION frame to a STANDBY: the session and its proved handles (Table 16-4, R794, R795). -/
def State.sendSession (s : State) (g : GSess) : State :=
  if !s.mirrorsNow then s
  else
    let l := (g.toks.filter (fun x => x.state == 2)).flatMap (fun x => leBytes 2 x.handle ++ leBytes 4 x.nonce ++ leBytes 2 (x.verified.getD 0xFFFF))
    s.tsuSendSeq 0x30 0 (leBytes 4 g.number ++ leBytes 2 (s.reg Reg.GLT_GROUP_GROUP) ++ leBytes 1 g.tag ++ leBytes 1 (bits g.mode 1 2) ++ l)

/-- Whether CRD holds session requests now: from the quiet point until the new table is loaded (R471). -/
def State.crdSwitching (s : State) : Bool := match s.crd.learn with | some l => l.phase == .selector | none => false

/-- Open a session (R262, R265, R267), unless a switch of credentials or a drain (R835) holds requests, or RNG serves no TAG (R538): a new number and TAG, E_96; where the TAG drawn is that of the session before, the next value
modulo 256 is taken (DESIGN CHOICE, assumption 109); a cause of Table 05-6 found now completes it at once without a WAKE. -/
def State.gltOpen (s : State) (n : Nat) (i : GIssuer) (reopened : Bool) : State :=
  if s.crdSwitching || s.nor.drain.isSome || !s.rngServes then { s with glt := { s.glt with heldOpens := s.glt.heldOpens ++ [(i, n)] } } else
  match s.glt.sess with
  | some g =>
    let s1 := match i with
      | .core => (s.set Reg.GLT_LAST_STATUS stFULL).set Reg.GLT_LAST_CAUSE 7
      | _ => s
    s1.gltTell i stFULL 7 g.number
  | none =>
    let num := low 32 (s.reg Reg.GLT_SESS_NUM_NUMBER + 1)
    let d := s.random 1
    let b := ofLe d.1
    let tag := if d.2.glt.lastTag = some b then (b + 1) % 256 else b
    let t := s.template n
    let mode := ofBool t.passive + 2 * t.band + 8 * ofBool (!t.passive && t.uwb && s.uwbReady)
    let q := s.reg Reg.GLT_SESS_CFG_Q_START
    let g : GSess := { number := num, tag := tag, template := n, mode := mode, issuer := i, openedAt := s.now, reopened := reopened, q := q }
    let s1 := ((d.2.set Reg.GLT_SESS_NUM_NUMBER num).dropEvidence).raise 96
    if s.openRefused n then s1.gltComplete g stPOLICY 3
    else
      let u : State := { s1 with glt := { s1.glt with lastTag := some tag, sess := some g }, tsu := { s1.tsu with bursts := [] } }
      u.sendSession g

/-- The HALT 0xFFFF of a session that a dip aborted has been sent, or was given up: the session is opened again (R148). -/
def State.gltReopen (s : State) (g : GSess) : State :=
  let s1 : State := { s with glt := { s.glt with sess := none, last := some g, tuned := none } }
  (s1.set Reg.GLT_SESS_CTL_ABORT 0).gltOpen g.template g.issuer true

/-! ## The flow of a session (R246, R247, R260, R261, R263) -/

/-- Whether a further round may run (R247). -/
def State.roundRoom (s : State) (g : GSess) : Bool :=
  decide (g.selected < s.reg Reg.GLT_SESS_CFG_MAX_TOKENS) && decide (g.rounds < s.reg Reg.GLT_SESS_CFG_MAX_ROUNDS)

/-- Whether UWB still owes the evidence of a handle's first block (R263), the block of its key handover: it waits or runs here, or the STANDBY's block that follows it does (R796, R797). -/
def State.rangingOwed (s : State) (g : GSess) (h : Nat) : Bool :=
  s.uwb.waiting.any (fun w => w.first && w.session == g.number && w.handle == h) ||
    s.uwb.block.any (fun b => b.first && b.session == g.number && b.handle == h) ||
    s.tsu.rangeGo.any (fun r => r.first && r.session == g.number && r.handle == h) ||
    s.tsu.rangeWant.any (fun r => r.first && r.session == g.number && r.handle == h)

/-- Whether a session may announce bursts: it runs 16 at most (R258). -/
def GSess.room (g : GSess) (l : List (Nat × Nat × Nat × Bool)) : Bool := decide (g.ran + l.length ≤ 16)

/-- The next burst work of a session: a group to announce, or a report to ask for. When GLT announces a group by MEASURE, and whom it asks by REPORT, the spec leaves open: it does so
once no proof is owed, asks only tokens that have proved, and does not ask for the first group when its template leaves REPORT_ALL clear (DESIGN CHOICE, assumption 109). -/
def nextMeasure (t : Template) (g : GSess) : Option Downlink :=
  if t.passive then none
  else
    let proved := g.toks.filter (fun x => x.state == 2)
    if proved.isEmpty then none
    else
      let owes (x : GTok) (grp : Nat) := !x.groups.contains grp && (t.reportAll || t.groups.head? != some grp)
      let todo := t.groups.find? (fun grp => if g.announced.contains grp then proved.any (fun x => owes x grp) else g.room (t.groupBursts grp))
      match todo with
      | none => none
      | some grp =>
        let l := t.groupBursts grp
        if !g.announced.contains grp then some (.measure grp)
        else match proved.find? (fun x => owes x grp) with
          | some x => some (.report x.handle ((l.map (fun y => y.1)).headD 0) l.length)
          | none => none

/-- The session is cut short with OK, cause 2 (T_MAX or ABORT): what runs on LF stops at the next boundary, and HALT 0xFFFF is due. Proofs that are being checked go on; its
blocks end (R356), and ABORT reads 0 again (Table 05-8). -/
def State.gltCut (s : State) (g : GSess) : State :=
  let w := s.lfa.waiting.filter (fun q => q.issuer != 1)
  let r := s.lfa.seq.map (fun q => if q.issuer == 1 then { q with stop := true } else q)
  let s1 : State := { s with lfa := { s.lfa with waiting := w, seq := r } }
  ((s1.set Reg.GLT_SESS_CTL_ABORT 0).uwbCut 9 (· == g.number)).setSess { g with ends := some (stOK, 2), step := .due (.halt 0xFFFF), awaits := [], missed := [] }

/-- Decide what the session does next, when nothing is on the air and no reply is awaited. -/
def State.gltDecide (s : State) (g : GSess) : State :=
  let t := s.template g.template
  let endWith (st c : Nat) : State := s.setSess { g with ends := some (st, c), step := .due (.halt 0xFFFF) }
  match g.ends with
  | some _ => s.setSess { g with step := .due (.halt 0xFFFF) }
  | none =>
    if g.abort then s.gltCut g
    else match g.missed with
    | w :: rest =>
      if g.attempts < s.reg Reg.GLT_SESS_CFG_RETRY then s.setSess { g with step := .due (.again w.handle) }
      else if w.typ = 0x83 then s.setSess { g with step := .due (.release w.handle) }
      else s.setSess { g with missed := rest, attempts := 0, step := .due (.halt w.handle) }
    | [] =>
      if !g.checks.isEmpty then s.setSess { g with step := .checking }
      else match g.toks.find? GTok.haltDue with
      | some x => s.setSess { g with step := .due (.halt x.handle) }
      | none =>
        let fresh := g.toks.filter (fun x => x.state == 1 && !x.asked)
        if (decide (0 < g.coll) && fresh.length == (g.toks.filter (fun x => x.state == 1)).length || g.released) && s.roundRoom g then
          s.setSess { g with step := .due (.round (g.singles)) }
        else if !fresh.isEmpty then
          s.setSess { g with step := .due (.challenge ((fresh.take (if t.passive then 1 else 8)).map GTok.handle)) }
        else if g.toks.isEmpty then endWith stOK 1
        else match nextMeasure t g with
        | some d => s.setSess { g with step := .due d }
        | none =>
          if g.toks.any (fun x => x.state == 2 && s.rangingOwed g x.handle) then s.setSess { g with step := .ranging }
          else endWith stOK 0

/-- Decide again where the session only waited for proofs or for ranging. -/
def State.gltKick (s : State) : State :=
  match s.glt.sess with
  | none => s
  | some g => match g.step with
    | .checking => s.gltDecide g
    | .ranging => s.gltDecide g
    | _ => s

/-- Whether a Gelet reply of a token is due or in progress (R353, R796): the frame that asks for it is due or on the air, or the reply is awaited. -/
def State.replyDue (s : State) (h : Nat) : Bool :=
  let asks (d : Downlink) := match d with
    | .challenge l => l.contains h
    | .report x _ _ => x == h
    | .again x => x == h
    | _ => false
  match s.glt.sess with
  | none => false
  | some g => match g.step with
    | .due d => asks d
    | .air d => asks d
    | .replies => g.awaits.any (fun w => w.handle == h)
    | _ => false

/-- A RANGE_GO that is wanted goes out once none of the token's replies is due and no block of its own runs for the token (R359, R796): the STANDBY's block takes the indices that follow. A STANDBY with
another credential generation has no keys and is not asked (R795). None: it waits on. -/
def State.rangeSend (s : State) (w : RangeWant) : Option State :=
  if !s.mirrorsNow || s.tsu.hb.crdGen != s.crd.generation then some s
  else if s.replyDue w.handle || s.uwb.block.any (fun b => b.session == w.session && b.handle == w.handle && !b.forPeer) then none
  else match s.ukeys w.session w.handle with
  | none => some s
  | some k =>
    let ports := (List.range 4).filter (fun p => bit s.tsu.hb.ports p)
    let s1 := s.setUkeys { k with blocks := k.blocks + 1, next := low 32 (k.next + ports.length) }
    let s2 := s1.tsuSendSeq 0x33 0 (leBytes 2 w.handle ++ leBytes 1 k.blocks ++ [0] ++ leBytes 4 k.next)
    let go : List RangeGo := if ports.isEmpty then [] else [{ session := w.session, handle := w.handle, block := k.blocks, ports := ports, first := w.first }]
    some { s2 with tsu := { s2.tsu with rangeGo := s2.tsu.rangeGo ++ go } }

/-- The RANGE_GOs that are wanted go out, each when it may. -/
def State.rangePump (s : State) : State :=
  let one (t : State) (w : RangeWant) : State := match t.rangeSend w with
    | some u => { u with tsu := { u.tsu with rangeWant := u.tsu.rangeWant.erase w } }
    | none => t
  if s.tsu.rangeWant.isEmpty then s else (s.tsu.rangeWant.foldl one s).gltKick

/-- A block of this device has ended: its entries, the STANDBY's block of a pair, and the session goes on. -/
def State.blockDone (s : State) : State :=
  match s.uwb.block with
  | none => s
  | some b =>
    let t := s.blockEnd
    if !b.forPeer && t.mirrorsNow && b.cut.isNone then State.rangePump { t with tsu := { t.tsu with rangeWant := t.tsu.rangeWant ++ [{ session := b.session, handle := b.handle, first := b.first }] } }
    else t.gltKick

/-! ## Sending (R235, R254) -/

/-- The bursts announced by a frame: the first group by WAKE, and by ROUND where the template repeats it; a group by MEASURE (R254, R258). -/
def frameBursts (t : Template) (g : GSess) (d : Downlink) : List (Nat × Nat × Nat × Bool) :=
  let l := match d with
    | .wake => t.first
    | .round _ => if t.again then t.first else []
    | .measure grp => t.groupBursts grp
    | _ => []
  if g.room l then l else []

/-- The fields of a downlink frame (Table 05-2). -/
def State.frameFields (s : State) (g : GSess) (d : Downlink) (nonce sUnits flags : Nat) : List (Nat × Nat) :=
  let hs (l : List Nat) := l.map (fun h => (16, h))
  let run := frameBursts (s.template g.template) g d
  let b1 := run.length
  match d with
  | .wake => [(4, 1), (4, g.mode), (16, s.reg Reg.GLT_GROUP_GROUP), (8, g.tag), (4, g.q), (4, b1)]
  | .round l => [(4, 2), (4, g.q), (4, b1), (4, 0), (4, l.length), (4, 0)] ++ hs l
  | .challenge l => [(4, 3), (4, l.length), (4, sUnits), (4, flags), (32, nonce)] ++ hs l
  | .measure _ => [(4, 4), (4, b1), (4, (run.map (fun x => x.1)).headD 0), (4, 0)]
  | .report h first count => [(4, 5), (4, first), (4, count), (4, 0), (16, h)]
  | .halt h => [(4, 6), (4, 0), (16, h)]
  | .again h => [(4, 7), (4, 0), (16, h)]
  | .release h => [(4, 8), (4, 0), (16, h)]
  | .nextSlot => [(4, 9), (4, 0)]

/-- The keying of a frame, LSB first: bit u + 1 is on while the carrier is on in the frame's 16-cycle unit u. The SOF is three units on and one off, a 1 is on and off, a 0 off and on
(R223, R224); from E_end on the carrier is off in active mode, on in passive mode (R227). -/
def keying (bits : List Bool) (passive : Bool) (units : Nat) : Nat :=
  let u := 4 + 2 * bits.length
  let data := bits.foldr (fun b n => (if b then 1 else 2) + 4 * n) 0
  2 * (7 + 16 * data + (if passive then 2 ^ units - 2 ^ u else 0))

/-- The plan of Frets of a frame of the given bits with its CRC, and of the bursts that it announces (R224, R226, R254). A burst of the partner's aerials is IDLE here (R792). -/
def framePlan (pre : Nat) (t : Template) (wake : Bool) (run : List (Nat × Nat × Nat × Bool)) (bits : List Bool) : List FretItem :=
  let cyc := 64 + 32 * bits.length
  let nd := (cyc + 255) / 256
  let keys := keying bits t.passive (16 * nd)
  let data := (List.range nd).map (fun i => ({ desc := t.frame, kind := 1, last := i + 1 == nd, keys := keys / 2 ^ (16 * i) % 2 ^ 17 } : FretItem))
  let lead := if wake then List.replicate pre ({ desc := t.preamble } : FretItem) else []
  let gap := if !run.isEmpty ∧ 256 * nd - cyc < 32 then [({ desc := t.idle, kind := 0 } : FretItem)] else []
  let bursts := run.map (fun x =>
    if x.2.2.2 then ({ desc := t.idle, kind := 0, burst := some x.1, peer := some x.2.1 } : FretItem) else { desc := x.2.1, burst := some x.1 })
  lead ++ data ++ gap ++ bursts

/-- Send the frame that is due (R235): GLT hands its Frets to LFA. Bursts that it announces are measured anew (R258); the WAKE's preamble retunes UHF_0 (R267). -/
def State.gltSend (s : State) (g : GSess) (d : Downlink) : State :=
  let t := s.template g.template
  let c := s.challengeArgs t g.bursts.length
  let dr : List Byte × State := match d with | .challenge _ => s.random 4 | _ => ([], s)
  let nonce := ofBe dr.1
  let s0 := dr.2
  let body := packFields (s.frameFields g d nonce c.1 c.2)
  let crc := geletCrc (if d = .wake then 0 else g.tag) body
  let run := frameBursts t g d
  let wake : Bool := match d with | .wake => true | _ => false
  let plan := framePlan (s.reg Reg.GLT_SESS_CFG_PRE) t wake run (bytesBits (body ++ beBytes 2 crc))
  let g0 := { g with ran := g.ran + run.length, bursts := g.bursts.filter (fun x => !run.any (fun y => y.1 == x.index)) }
  let g1 := match d with
    | .challenge l => l.foldl (fun (x : GSess) h => x.setTok h (fun k => { k with asked := true, nonce := nonce, s := c.1, flags := c.2 })) g0
    | _ => g0
  let tail := if d.answered then some (if t.passive then (t.hold, 2) else (t.idle, 0)) else none
  let q : LfSeq := { issuer := 1, plan := plan, tail := tail, desc := (plan.map FretItem.desc).headD 0, left := 256 }
  let s1 := s0.setSess { g1 with step := .air d }
  let s2 : State := { s1 with lfa := { s1.lfa with waiting := s1.lfa.waiting ++ [q] }, glt := { s1.glt with sent := [body ++ beBytes 2 crc], tuned := if wake then s.retune t else s1.glt.tuned } }
  if !s2.flag Reg.LFA_CTRL_EN then
    { s2 with lfa := { s2.lfa with waiting := s.lfa.waiting, done := [(8, 0, 0)] } }
  else s2

/-- Whether the next frame may follow: none of GLT's sequences waits, and the running one is at its last planned Fret or behind it (R235). -/
def State.airFree (s : State) : Bool :=
  !s.gltWaits && (match s.lfa.seq with | some q => q.issuer != 1 || decide (q.plan.length ≤ 1) | none => true)

/-! ## When a frame has been sent: what follows its E_end -/

/-- The replies awaited after a CHALLENGE (Table 05-5). -/
def challengeAwaits (passive : Bool) (sUnits : Nat) (l : List Nat) : List Await :=
  ((List.range l.length).zip l).map (fun p =>
    { handle := p.2, typ := 0x83, nominal := if passive then 128 else 256 + p.1 * 256 * sUnits, span := 256 * sUnits })

/-- Open a round at E_end (R243, R244). -/
def GSess.openRound (g : GSess) : GSess :=
  { g with step := .slots, rounds := g.rounds + 1, slot := 0, slotQ := g.q, single := none, noise := false, empty := 0, coll := 0, singles := [], released := false }

/-- The first group has been announced. -/
def GSess.announceFirst (g : GSess) (t : Template) : GSess :=
  match t.groups with | x :: _ => if g.announced.contains x then g else { g with announced := g.announced ++ [x] } | [] => g

/-- E_end of the frame on the air: what GLT awaits, and what becomes of the token that the frame names. -/
def State.gltSent (s : State) (g : GSess) (d : Downlink) : State :=
  let t := s.template g.template
  let first := if t.passive then 128 else 256
  match d with
  | .wake => s.setSess ((g.openRound).announceFirst t)
  | .round _ => s.setSess (g.openRound)
  | .nextSlot => s.setSess { g with step := .slots }
  | .challenge l =>
    let u := match l with | h :: _ => (match g.tok h with | some k => k.s | none => 15) | [] => 15
    s.setSess { g with step := .replies, attempts := 0, awaits := challengeAwaits t.passive u l }
  | .measure grp => s.gltDecide { g with announced := g.announced ++ [grp] }
  | .report h f n =>
    let w : Await := { handle := h, typ := 0x85, nominal := first, span := s.replyCycles t.passive (1 + 6 * n) + 5, first := f }
    s.setSess { g with step := .replies, attempts := 0, awaits := [w] }
  | .again _ => match g.missed with
    | w :: _ => s.setSess { g with step := .replies, attempts := g.attempts + 1, awaits := [{ w with nominal := first, heard := false }] }
    | [] => s.gltDecide g
  | .release h =>
    let g1 := g.setTok h (fun k => { k with state := 5, haltDue := false })
    State.vrdPoll <| s.gltDecide { g1 with missed := g.missed.drop 1, attempts := 0, released := true, singles := g.singles.filter (· != h) }
  | .halt h =>
    if h = 0xFFFF then
      match g.ends with
      | some e => s.gltComplete g e.1 e.2
      | none => s.gltReopen g
    else
      let f (k : GTok) : GTok := if k.haltDue then { k with haltDue := false } else { k with state := 4 }
      State.vrdPoll (s.gltDecide (g.setTok h f))

/-- The session's end under Table 05-6 when one of its sequences ends with a cause of Table 04-3. -/
def seqOutcome (c : Nat) : Nat × Nat := if c = 4 then (stFULL, 4) else if c = 6 then (stPOWER, 5) else if c = 9 then (stRESET, 6) else (stPOLICY, 3)

/-- A sequence of the session has ended with a cause other than 0: the session ends. A HALT 0xFFFF that could not be sent ends it all the same, or, after a dip, reopens it (R148). -/
def State.gltSeqFailed (s : State) (g : GSess) (c : Nat) : State :=
  match g.step with
  | .aborted _ => s
  | .air (.halt 0xFFFF) => match g.ends with | some e => s.gltComplete g e.1 e.2 | none => s.gltReopen g
  | _ =>
    s.setSess { g with ends := some (seqOutcome c), step := .due (.halt 0xFFFF), awaits := [], missed := [] }

/-- GLT takes note of what the Fret boundary told it: bursts that ran, each not valid when a Fret of it was withheld or marked (R259), E_end, its sequence's completion. -/
def State.gltBoundary (s : State) : State :=
  let ended := s.lfa.ended
  let done := s.lfa.done
  let s0 : State := { s with lfa := { s.lfa with ended := [], done := [] } }
  match s0.glt.sess with
  | none => s0
  | some g =>
    let runs := ended.filterMap (fun e => e.1.burst.map (fun b => (⟨b, e.2.1, e.2.2⟩ : BurstRun)))
    let merge (l : List BurstRun) (r : BurstRun) : List BurstRun :=
      match l.find? (fun x => x.index == r.index) with
      | some x => l.filter (fun y => y.index != r.index) ++ [{ r with valid := x.valid && r.valid }]
      | none => l ++ [r]
    let g1 := { g with bursts := runs.foldl merge g.bursts }
    let s1 := s0.setSess g1
    let s2 := match g1.step with
      | .air d => if ended.any (fun e => e.1.last) then s1.gltSent g1 d else s1
      | _ => s1
    let fails (t : State) (c : Nat × Nat × Nat) : State := match t.glt.sess with
      | some h => if c.1 = 0 ∨ h.number ≠ g.number then t else t.gltSeqFailed h c.1
      | none => t
    let s3 := done.foldl fails s2
    match s3.glt.sess with
    | some g3 => if g.abort && g3.ends.isNone then s3.gltCut g3 else s3
    | none => s3

/-! ## Slots and replies (R245 to R252) -/

/-- The allowance of a start N cycles after E_end (R249). -/
def startWindow (passive : Bool) (n : Nat) : Nat := if passive then 1 else 4 + (n + 19999) / 20000

/-- Whether a start lies in the window of a nominal one. -/
def inWindowOf (passive : Bool) (nominal start : Nat) : Bool :=
  decide (nominal ≤ start + startWindow passive nominal) && decide (start ≤ nominal + startWindow passive nominal)

/-- A frame as received, accepted by its head (R230, R268): from LEN on, behind at least 4 bits of PREAMBLE, which end in 1010, and the whole SYNC; in passive mode behind the 4 bits 1110,
the low half of the first byte. -/
def airFrame (passive : Bool) (b : List Byte) : Option (List Byte) :=
  if passive then (match b with | p :: l => if p.toNat % 16 = 0xE then some l else none | [] => none)
  else match b with
    | p :: x :: y :: l => if p.toNat % 16 = 0xA ∧ x = 0xB3 ∧ y = 0x8E then some l else none
    | _ => none

/-- The parts of an uplink frame from LEN on: whether its LEN and CRC hold, its TYPE, its payload (Table 05-1). -/
def uplink (prefix_ : Nat) (b : List Byte) : Bool × Nat × List Byte :=
  let n := b.length
  let body := b.take (n - 2)
  (decide (4 ≤ n) && ofLe (slice b 0 1) + 1 == n - 2 && geletCrc prefix_ body == ofBe (b.drop (n - 2)), ofLe (slice b 1 1), body.drop 2)

/-- Select handles from a round (R247, R248): each is listed as selected with E_98. -/
def State.selectOne (max : Nat) (p : State × GSess) (h : Nat) : State × GSess :=
  if p.2.selected < max then (p.1.raise 98, { p.2 with toks := p.2.toks ++ [{ handle := h }] }) else p

/-- A round has ended (R246, R247): Q adapts, its SINGLE handles are selected, E_97. They are selected here and not at their slot, which the spec leaves open: a handle heard SINGLE in two
slots of one round is selected twice (DESIGN CHOICE, assumption 109). -/
def State.roundEnd (s : State) (g : GSess) : State :=
  let q := if g.empty < g.coll then min 10 (g.q + 1) else if 2 * g.coll < g.empty then g.q - 1 else g.q
  let p := g.singles.foldl (State.selectOne (s.reg Reg.GLT_SESS_CFG_MAX_TOKENS)) (s.raise 97, { g with q := q })
  let kept := g.singles.filter (fun h => (p.2.tok h).isSome)
  p.1.gltDecide { p.2 with singles := kept }

/-- A slot has ended (R245). -/
def State.slotEnd (s : State) (g : GSess) (energy : Bool) : State :=
  let t := s.template g.template
  let isSingle := g.single.isSome && !g.noise
  let isEmpty := g.single.isNone && !g.noise && !energy
  let g1 := { g with
    slot := g.slot + 1, single := none, noise := false
    empty := g.empty + ofBool isEmpty, coll := g.coll + ofBool (!isSingle && !isEmpty)
    singles := if isSingle then g.singles ++ [g.single.getD 0] else g.singles
    quiet := if t.passive && isEmpty then g.quiet else some s.now }
  let s1 := if !isSingle && !isEmpty then s.gltErr Reg.GLT_ERR_COLLISION else s
  if g1.slot < 2 ^ g.slotQ then s1.setSess (if t.passive then { g1 with step := .due .nextSlot } else g1)
  else s1.roundEnd g1

/-- An awaited reply has not come as it should: it will be asked for again when all of the others have been dealt with (R260). -/
def State.replyMissed (s : State) (g : GSess) (w : Await) : State :=
  let left := g.awaits.filter (fun x => x != w)
  let missed := if g.missed.any (fun x => x.handle == w.handle) then g.missed else g.missed ++ [w]
  let g1 := { g with awaits := left, missed := missed, quiet := some s.now }
  if left.isEmpty then s.gltDecide g1 else s.setSess g1

/-- An awaited reply has come. -/
def State.replyTaken (s : State) (g : GSess) (w : Await) : State :=
  let left := g.awaits.filter (fun x => x != w)
  let again := g.missed.any (fun x => x.handle == w.handle)
  let g1 := { g with awaits := left, missed := g.missed.filter (fun x => x.handle != w.handle), attempts := if again then 0 else g.attempts, quiet := some s.now }
  if left.isEmpty then s.gltDecide g1 else s.setSess g1

/-- The awaited reply that a start belongs to: the one whose slot holds it. -/
def GSess.awaitAt (g : GSess) (start : Nat) : Option Await :=
  match g.awaits.find? (fun w => decide (w.nominal ≤ start + 128) && decide (start + 128 < w.nominal + 128 + w.span)) with
  | some w => some w
  | none => if g.awaits.length = 1 then g.awaits.head? else none

/-! ## Field vectors on Q_42 (R242, R259) -/

/-- The channels of a burst's enabled slots, as a mask of aerials 0 to 31. -/
def State.burstAerials (s : State) (t : Template) (b : Nat) : Nat :=
  match t.bursts.find? (fun x => x.1 == b) with
  | none => 0
  | some x => maskOf (((s.descriptorAt x.2.1).enabled).map (fun y => y.ch + (if x.2.2.2 then 16 else 0)))

/-- A Q_42 entry (payload layout: assumption 16): session, handle, burst, valid, aerials, three axes in µA/m, time. -/
def q42Payload (session handle burst : Nat) (valid : Bool) (aerials : Nat) (axes : List Int) (time : Nat) : List Byte :=
  leBytes 4 session ++ leBytes 2 handle ++ leBytes 1 burst ++ leBytes 1 (ofBool valid) ++ leBytes 4 aerials ++
    axes.flatMap (fun v => leBytes 4 (unsigned 32 v)) ++ leBytes 6 time

/-- Enter one reported burst. An exponent above 15, which R242 excludes, is taken modulo 16 (DESIGN CHOICE, assumption 97). -/
def State.enterBurst (s : State) (g : GSess) (h e b : Nat) (raw : List Byte) : State :=
  let t := s.template g.template
  let ax := (List.range 3).map (fun i => ofBe (slice raw (2 * i) 2))
  let peer := match t.bursts.find? (fun x => x.1 == b) with | some x => x.2.2.2 | none => false
  let run := g.bursts.find? (fun r => r.index == b)
  let ok := match run with
    | none => false
    | some r => if peer then s.tsu.bursts.any (fun x => x.index == b && x.valid == some true) else r.valid
  let valid := ok && !ax.any (fun v => v == 0x8000 || v == 0x7FFF)
  let time := match run with | some r => low 48 (r.time - s.tim.mainUp) | none => s.timebase
  s.emit 42 (if peer then blkTSU else blkGLT)
    (q42Payload g.number h b valid (s.burstAerials t b) (ax.map (fun v => signed 16 v * 2 ^ (e % 16))) time)

/-- Enter a REPORT payload for bursts from `first` (R241, R242): E_100. -/
def State.enterReport (s : State) (g : GSess) (h first : Nat) (rep : List Byte) : State :=
  if rep.isEmpty then s
  else
    let e := ofLe (slice rep 0 1)
    let n := min 16 ((rep.length - 1) / 6)
    ((List.range n).foldl (fun u i => u.enterBurst g h e (first + i) (slice rep (1 + 6 * i) 6)) s).raise 100

/-- The burst groups that a report of `n` bursts from `first` covers for a token. -/
def coveredGroups (t : Template) (first n : Nat) : List Nat :=
  t.groups.filter (fun grp => (t.groupBursts grp).all (fun x => decide (first ≤ x.1) && decide (x.1 < first + n)))

/-! ## Aborts (R110, R148, R264) -/

/-- A dip or a thermal stop aborts the open session: its evidence is void and its blocks end under order 1 of Table 07-4 (R346, R355). A session aborted before it has been reopened is not
aborted a second time: a thermal stop while its HALT 0xFFFF is still due leaves it the reopening that R148 prescribes. One that a thermal stop or a second dip has ended is not reopened
(R264). -/
def State.gltAbort (s : State) (thermal : Bool) : State :=
  match s.glt.sess with
  | none => s
  | some g =>
    match g.step with
    | .aborted _ => s
    | _ =>
    let halting : Bool := match g.step with | .due (.halt 0xFFFF) | .air (.halt 0xFFFF) => true | _ => false
    let again := halting && g.ends.isNone
    let before := g.ends == some (stPOWER, 5) || again
    let final := !again && (thermal || g.reopened || g.ends == some (stPOWER, 5))
    let g1 := { g with step := .aborted s.now, awaits := [], missed := [], checks := [], ends := if final then some (stPOWER, 5) else none }
    let w := s.lfa.waiting.filter (fun q => q.issuer != 1)
    let s1 := ((s.keepChecks g).setSess g1).dropEvidence
    let s2 : State := { s1 with lfa := { s1.lfa with waiting := w, ended := [], done := [] } }
    let s3 := (s2.uwbCut 7 (fun _ => true)).uwbSessionEnd g.number
    if thermal || before then s3 else { s3 with pwr := { s3.pwr with dipSessions := s3.pwr.dipSessions + 1 } }

/-- LF is allowed again: the HALT 0xFFFF of an aborted session is due. -/
def State.gltResume (s : State) : State :=
  match s.glt.sess with
  | none => s
  | some g => match g.step with
    | .aborted t =>
      if !s.since t 2000001 then s.setSess { g with step := .due (.halt 0xFFFF) }
      else match g.ends with
        | some e => s.gltComplete g e.1 e.2
        | none => s.gltReopen g
    | _ => s

end Sys2Proof.Machine
end

