-- ==== Sys2Proof/Machine/AuthOps.lean ====
section
/-! DEFINITION. Proof checks and button telegrams as operations (chapter 06). -/
namespace Sys2Proof.Machine

/-- The name of a proof check among AEA's operations: session and handle. -/
def checkId (g : GSess) (handle : Nat) : Nat := g.number * 65536 + handle

/-! ## Keys of a proof (Table 06-2, R288) -/

/-- The blocks C (0x01), D(L), and the nonce N_P of a token of the session. -/
def State.proofBlock (s : State) (g : GSess) (k : GTok) (l : Nat) (tail : List Byte) : List Byte :=
  leBytes 1 l ++ beBytes 2 (s.reg Reg.GLT_GROUP_GROUP) ++ leBytes 1 g.tag ++ beBytes 4 k.nonce ++ beBytes 2 k.handle ++ tail

/-- The session keys of an accepted proof. -/
def State.sessionKeys (s : State) (g : GSess) (k : GTok) (kt : List Byte) : UKeys :=
  let d (l : Nat) := aesEncrypt kt (s.proofBlock g k l (List.replicate 6 0))
  { session := g.number, handle := k.handle, tag := g.tag, kSes := d 0x10, kSts := d 0x11, vSts := d 0x12 }

/-! ## Checking a proof (R282 to R289) -/

/-- Why slot n refuses a check, as a cause of Table 06-3 (rows 1, 2 and 4): one that KEY accepted before the slot drained goes on under the old key (R499). -/
def State.checkRefusal (s : State) (n use from_ : Nat) : Nat :=
  let x := s.slot n
  if x.state = .spent then 7
  else if s.signetOnly n from_ then 10
  else if x.state = .empty ∨ !bit x.uses use ∨ x.type ≠ 1 ∨ (x.bound ≠ 0 ∧ x.bound ≠ from_) then 10
  else if s.damagedRange (ceilingAddr n) 4 || !(s.raiseCeiling n x).1 then 9
  else 0

/-- One use of a slot that refuses nothing (R482, R484). -/
def State.spendUse (s : State) (n : Nat) : State :=
  let r := s.raiseCeiling n (s.slot n)
  r.2.1.countUse n r.2.2

/-- Why a check ends before its token is looked up (Table 06-3, rows 1 to 4), over both slots; 0: it goes on. `busy`: one of them was DRAINING when it was asked for. -/
def State.checkStops (s : State) (slot : Nat) (zeroized busy : Bool) : Nat :=
  let l := [s.checkRefusal slot useDERIVE 1, s.checkRefusal 255 useWRAP 5]
  if s.lktRefuses || l.contains 9 then 9 else if l.contains 7 then 7 else if zeroized then 8 else if busy || l.contains 10 then 10 else 0

/-- Status of Table 06-3; 0xF5: the check was ended by a class L reset of AEA (R856). -/
def proofStatus (c : Nat) : Nat :=
  if c = 0 then stOK else if c = 9 then stNV else if c = 7 then stSPENT else if c = 8 then stZEROIZE else if c = 10 ∨ c = 6 then stPOLICY
  else if c = 4 ∨ c = 5 then stLOCKOUT else if c = 0xF5 then stRESET else stAUTH

/-- What a proof check finds: cause, credential (0xFFFF none), K_T when it was unwrapped, whether its tag verified. -/
structure Proof where
  cause : Nat
  cred : Nat
  kt : List Byte := []
  verified : Bool := false
  deriving DecidableEq, Repr

/-- The check of a proof, in the order of Table 06-3. -/
def State.checkProof (s : State) (g : GSess) (k : GTok) (c : ProofCheck) (zeroized : Bool) : Proof × State :=
  let stop := s.checkStops c.slot zeroized c.busy
  if stop ≠ 0 then ({ cause := stop, cred := 0xFFFF }, s)
  else
    let s1 := s.spendUse c.slot
    let ct := c.payload.take 8
    let ks := aesEncrypt (s1.slotRaw c.slot).key (s1.proofBlock g k 1 (List.replicate 6 0))
    let tid := ofBe (List.zipWith (fun a b => a ^^^ b) ct (ks.take 8))
    match s1.findTid tid with
    | none => ({ cause := 1, cred := 0xFFFF }, s1)
    | some i =>
      let s2 := s1.spendUse 255
      match s2.unwrapKt i with
      | none => ({ cause := 11, cred := i }, s2)
      | some kt =>
        let n := s1.proofBlock g k 2 [BitVec.ofNat 8 (g.mode * 16 + k.flags), BitVec.ofNat 8 k.s, 0]
        let h := ct ++ c.payload.drop 16
        let tag := (ccmSeal kt 8 n h []).2
        if tag != slice c.payload 8 8 then ({ cause := 2, cred := i, kt := kt }, s2.raise 152)
        else
          let dup := g.toks.any (fun x => x.handle != k.handle && x.verified == some i)
          let cause := if dup then 3 else if s2.deviceLocked then 4 else if s2.credLocked i then 5 else if !s2.inValidity i then 6 else 0
          ({ cause := cause, cred := i, kt := kt, verified := true }, s2)

/-- The Q_40 payload (assumption 16): session, handle, credential, privilege mask, status, cause, one zero byte, time. -/
def q40Payload (session handle cred priv cause time : Nat) : List Byte :=
  leBytes 4 session ++ leBytes 2 handle ++ leBytes 2 cred ++ leBytes 1 priv ++ leBytes 1 (proofStatus cause) ++ leBytes 1 cause ++ [0] ++ leBytes 6 time

/-- A proof check makes its Q_40 entry, stamped with the time of the PROOF, its failure and its counts (R50, R283, R285, R305). -/
def State.proofEntry (s : State) (g : GSess) (k : GTok) (p : Proof) (time : Nat) : State :=
  let priv := if p.cause = 0 then s.crdMask p.cred else 0
  let s1 := s.emit 40 blkGLT (q40Payload g.number k.handle p.cred priv p.cause time)
  if p.cause = 0 then
    let keep := s1.priv.proofs.filter (fun x => !s1.since x.2.2.2 60000000)
    let stamp := if bit priv 3 then (match s1.rtcMs with | some n => some (n / 1000) | none => s1.tim.service) else s1.tim.service
    let t := State.bump { s1 with tim := { s1.tim with service := stamp } } Reg.GLT_AUTH_STAT_PROOF_OK
    State.tokenAuthenticated { t with priv := { t.priv with proofs := keep ++ [(g.number, k.handle, p.cred, s1.now)] } }
  else if p.cause = 2 ∨ p.cause = 3 then (s1.bump Reg.GLT_AUTH_STAT_PROOF_FAIL).countFailure p.cred 1 p.cause
  else if p.cause = 1 then s1.bump Reg.GLT_AUTH_STAT_UNKNOWN
  else s1

/-- What a proof leaves of its token: proved, or failed with a HALT owed (R261). -/
def GSess.proved (g : GSess) (k : GTok) (p : Proof) : GSess :=
  let ver := if p.verified then some p.cred else none
  g.setTok k.handle (fun x => { x with state := if p.cause = 0 then 2 else 3, haltDue := p.cause != 0, verified := ver })

/-- A proof check of the open session has completed: its entry, its token, its keys (R283, R285, R289). -/
def State.proofDone (s : State) (g : GSess) (k : GTok) (p : Proof) (time : Nat) : State :=
  let g1 := g.proved k p
  let s3 := (s.proofEntry g k p time).setSess g1
  let s4 : State :=
    if p.cause = 0 ∧ bit g.mode 3 then
      let h := s3.uwbHandover (s3.sessionKeys g k p.kt)
      let t := (if g.ends.isSome then h.2.uwbCut 9 (· == g.number) else h.2).sendSession g1
      if h.1 then t else t.solveDue g.number k.handle none
    else s3.solveDue g.number k.handle none
  s4.gltKick.vrdPoll

/-- A proof check that its session did not wait for has completed: its entry (R283), and a solve from Q_42 alone where its cause or its session's MODE lets no handover follow (R368). -/
def State.proofLate (s : State) (g : GSess) (k : GTok) (p : Proof) (time : Nat) : State :=
  let u := s.proofEntry g k p time
  let t := if p.cause = 0 ∧ bit g.mode 3 then u else u.solveDue g.number k.handle none
  { t with glt := { t.glt with late := t.glt.late.map (fun e => if e.1.number == g.number then (e.1.proved k p, e.2) else e) } }

/-- A proof check is over: of the open session, or of one that has not waited for it; `judge` gives what it finds. -/
def State.finishCheck (s : State) (id : Nat) (judge : State → GSess → GTok → ProofCheck → Proof × State) : State :=
  let here : Option (GSess × ProofCheck) := s.glt.sess.bind (fun g => (g.checks.find? (fun c => checkId g c.handle == id)).map (fun c => (g, c)))
  match here with
  | some (g, c) =>
    let g1 := { g with checks := g.checks.erase c }
    match g.tok c.handle with
    | some k => let p := judge s g1 k c; p.2.proofDone g1 k p.1 c.time
    | none => s.setSess g1
  | none => match s.glt.late.find? (fun e => checkId e.1 e.2.handle == id) with
    | some (g, c) =>
      let t : State := { s with glt := { s.glt with late := s.glt.late.erase (g, c) } }
      match g.tok c.handle with
      | some k => let p := judge t g k c; p.2.proofLate g k p.1 c.time
      | none => t
    | none => s

/-! ## Button telegrams (R291 to R300, R877) -/

/-- The tag of a telegram (R292). -/
def telegramTag (kt b : List Byte) : List Byte :=
  let kb := aesEncrypt kt (0x0B :: List.replicate 15 0)
  let h := slice b 0 9
  ((ccmSeal kb 4 (0x0B :: h ++ [0, 0, 0]) h []).2).take 3

/-- The credential with an SID: the low 32 bits of its TID (R291). -/
def State.findSid (s : State) (sid : Nat) : Option Nat :=
  if !s.crdServes then none else (List.range 4096).find? (fun i => s.crdTid i != 0 && low 32 (s.crdTid i) == sid)

/-- The items that write a counter cell. -/
def State.cellItems (s : State) (cell v : Nat) : List LktItem := s.runItems (0x2000 + 4 * cell) (leBytes 4 v)

/-- Hold a telegram as pending (R295, R296). -/
def State.holdPending (s : State) (cred ctr at_ : Nat) : State :=
  let l := s.glt.pending.filter (fun p => p.cred != cred)
  let l1 := if 8 ≤ l.length then l.drop 1 else l
  { s with glt := { s.glt with pending := l1 ++ [{ cred := cred, ctr := ctr, at_ := at_ }] } }

/-- A telegram that counts as a failure: row 3 or 5. -/
def State.telegramFails (s : State) (cred row : Nat) : State := (s.bump Reg.GLT_BTN_STAT_REJECTED).countFailure cred 2 row

/-- Write the counter of a telegram and wait for the Locket (R297). -/
def State.telegramWrite (s : State) (h : HeldTelegram) : State :=
  let t : State := { s with glt := { s.glt with held := some h } }
  t.lktSubmit .telegram (t.cellItems (t.crdCell h.cred) h.ctr)

/-- The check of a telegram, row by row (Table 06-5, R877). -/
def State.checkTelegram (s : State) (x : Telegram) : State :=
  let b := x.bytes
  let ctr := ofBe (slice b 4 4)
  if s.lktRefuses then s
  else match s.findSid (ofBe (slice b 0 4)) with
  | none => s.bump Reg.GLT_BTN_STAT_UNKNOWN
  | some i =>
    let v := (s.aeaCount .timed 2).useSlot 255 useWRAP [1] 5
    if v.1 ≠ 0 then v.2
    else match v.2.unwrapKt i with
    | none => v.2
    | some kt =>
      let t := v.2
      if telegramTag kt b != slice b 9 3 then t.telegramFails i 3
      else if !t.inValidity i then t
      else if t.damagedRange (0x2000 + 4 * t.crdCell i) 4 then t
      else
        let last := t.cell (t.crdCell i)
        let d := low 32 (ctr + 2 ^ 32 - last)
        let locked := t.deviceLocked || t.credLocked i
        let h : HeldTelegram := { cred := i, ctr := ctr, btn := ofLe (slice b 8 1), old := last, accepted := !locked, resync := false }
        let pend := t.glt.pending.any (fun p => p.cred == i && low 32 (p.ctr + 1) == ctr && !t.since p.at_ 5100001)
        if d = 0 ∨ 32768 < d then t.telegramFails i 5
        else if locked then (if d ≤ 64 then t.telegramWrite h else t)
        else if d ≤ 64 then t.telegramWrite h
        else if pend then t.telegramWrite { h with resync := true }
        else t.holdPending i ctr x.at_

/-- Check the waiting telegrams in order, while none waits for its counter write (R293), the engines get their masks (R515) and one of them is free (R517); engines that have failed their
test refuse them (R541), which drops them; at most `n`. -/
def State.telegramSteps : Nat → State → State
  | 0, s => s
  | n + 1, s =>
    if s.glt.held.isSome || (!s.enginesFailed && (!s.masksFlow || (s.freeEngine .timed).isNone)) then s
    else match s.glt.queue with
      | [] => s
      | x :: rest =>
        let t : State := { s with glt := { s.glt with queue := rest } }
        State.telegramSteps n (if s.enginesFailed then t else t.checkTelegram x)

/-- Check every waiting telegram that no counter write holds up. -/
def State.telegramPump (s : State) : State := State.telegramSteps s.glt.queue.length s

/-- An accepted telegram (R299, R298): E_103, its records, the idle days, its session. -/
def State.telegramAccepted (s : State) (h : HeldTelegram) (degraded : Bool) : State :=
  let p := s.glt.pending.filter (fun x => x.cred != h.cred)
  let s1 := ((State.raise { s with glt := { s.glt with pending := p } } 103).bump Reg.GLT_BTN_STAT_ACCEPTED).buttonAuthenticated
  let ref := s1.refOf h.cred
  let s2 := if h.resync then s1.journal blkGLT 0x0033 (ref ++ leBytes 2 h.cred ++ leBytes 4 h.old ++ leBytes 4 h.ctr) else s1
  let s3 := s2.journal blkGLT 0x0032 (ref ++ leBytes 2 h.cred ++ leBytes 4 h.ctr ++ leBytes 1 h.btn ++ leBytes 1 (ofBool degraded))
  match (List.range 8).find? (fun k => s3.regI Reg.GLT_BTN_MAP_EN k == 1 && s3.regI Reg.GLT_BTN_MAP_CODE k == h.btn) with
  | some k => if s3.regI Reg.GLT_BTN_MAP_OPEN k = 1 then s3.gltOpen (s3.regI Reg.GLT_BTN_MAP_TEMPLATE k) .button false else s3
  | none => s3

/-- The link layer passes on a telegram (R270): copies identical to one passed on within the last 1,200 ms, that time included, are discarded. -/
def State.passTelegram (s : State) (b : List Byte) : State :=
  let l := s.glt.trains.filter (fun x => !s.since x.at_ 1200001)
  if l.any (fun x => x.bytes == b) then s
  else
    let x : Telegram := { bytes := b, at_ := s.now }
    if 0 < s.sleeping then { s with glt := { s.glt with trains := l ++ [x], heldFrame := some x } }
    else
      let stalls := !s.masksFlow && s.glt.queue.isEmpty && s.glt.held.isNone
      State.telegramPump { (if stalls then s.bump Reg.AEA_MASK_STALLS else s) with glt := { s.glt with trains := l ++ [x], queue := s.glt.queue ++ [x] } }

end Sys2Proof.Machine
end

