-- ==== Sys2Proof/Machine/LearnOps.lean ====
section
/-! DEFINITION. Learning a credential set (R466 to R475, R811): the checks, the stored bank, the switch, the load at boot. -/
namespace Sys2Proof.Machine

/-! ## The issued set (Tables 10-3 and 10-4) -/

/-- A field of an issued set. -/
def setNum (b : List Byte) (o n : Nat) : Nat := ofLe (slice b o n)

/-- Entry i of a set or of a stored bank. -/
def setEntry (b : List Byte) (i : Nat) : List Byte := slice b (192 + 128 * i) 128

/-- COUNT and GENERATION. -/
def setCount (b : List Byte) : Nat := setNum b 6 2
def setGen (b : List Byte) : Nat := setNum b 8 4

/-- Whether the set has the format of Table 10-4. -/
def setFormat (b : List Byte) : Bool :=
  let n := setCount b
  let entryOk (i : Nat) := let e := setEntry b i
    decide (setNum e 48 1 < 16) && decide (setNum e 49 1 < 2) && (e.drop 80).all (· == 0)
  setNum b 0 4 == 0x53445243 && setNum b 4 1 == 1 && decide (setNum b 5 1 ≤ 4) && decide (1 ≤ n ∧ n ≤ 4096) && b.length == 192 + 128 * n + 64 &&
    (slice b 176 16).all (· == 0) && (setNum b 24 8 != 0 || (slice b 136 40).all (· == 0)) && (List.range n).all entryOk

/-- The key that unwraps WRAP_d (R467). -/
def setWrapKey (x : List Byte) (gen dev : Nat) : List Byte := sha256 (0x43 :: x ++ leBytes 4 gen ++ leBytes 8 dev)

/-- The second of two used entries that share a TID, an SID or a CELL, or an entry whose CELL exceeds 4,095 (cause 7). -/
def setClash (b : List Byte) : Option Nat :=
  let l := (List.range (setCount b)).map (fun i => (setNum (setEntry b i) 0 8, setNum (setEntry b i) 50 2))
  (List.range (setCount b)).find? (fun i =>
    let e := l.getD i (0, 0)
    e.1 != 0 && (decide (4095 < e.2) || (l.take i).any (fun f => f.1 != 0 && (low 32 f.1 == low 32 e.1 || f.2 == e.2))))

/-- The entry with its K_T rewrapped. -/
def withKey (e wrapped : List Byte) : List Byte := e.take 8 ++ fit 40 wrapped ++ e.drop 48

/-- Whether a used entry's KEY fails its integrity check under the set key. -/
def badKey (kset e : List Byte) : Bool := setNum e 0 8 != 0 && (aesUnwrap kset (slice e 8 40)).isNone

/-- Stands for an end that no cause of Table 10-5 names: REFUSED_POLICY with CAUSE 0, for a key that is EMPTY, not to be used so or DRAINING (assumption 101). -/
def causeUnnamed : Nat := 255

/-- The cause of Table 10-5 for KEY's refusal of a use: the Locket refuses the ceiling (10), the key is SPENT (8), or it cannot serve. -/
def slotLearnCause (c : Nat) : Nat := if c = 13 then 10 else if c = 10 then 8 else causeUnnamed

/-- Rewrap every K_T from the set key under the KEK (R470), one use of slot 255 each: the stored entries, or KEY's cause when it refuses a use. -/
def State.rewrap (kset : List Byte) : List (List Byte) → State → Except Nat (List Byte) × State
  | [], s => (.ok [], s)
  | e :: rest, s =>
    if setNum e 0 8 = 0 then
      let t := State.rewrap kset rest s
      (t.1.map (fun l => e ++ l), t.2)
    else
      let u := s.useSlot 255 useWRAP [1] 5
      if u.1 ≠ 0 then (.error u.1, u.2)
      else
        let x := withKey e (aesWrap (u.2.slotRaw 255).key ((aesUnwrap kset (slice e 8 40)).getD []))
        let t := State.rewrap kset rest u.2
        (t.1.map (fun l => x ++ l), t.2)

/-- What the checks of Table 10-5 find: cause 0 with the stored bank, or a cause with the entry that it names. -/
structure LearnCheck where
  cause : Nat
  index : Nat := 0
  bank : List Byte := []
  deriving DecidableEq, Repr

/-- Whether the set names this device and, in a pair, its partner: as DEVICE_0 and DEVICE_1 on the device that learns, the other way round on a STANDBY (R469, R474). -/
def State.setNames (s : State) (b : List Byte) (standby : Bool) : Bool :=
  let peer := s.reg Reg.TSU_PEER_DEV_LO_LO + 2 ^ 32 * s.reg Reg.TSU_PEER_DEV_HI_HI
  if standby then setNum b 24 8 == s.devnum && setNum b 16 8 == peer
  else setNum b 16 8 == s.devnum && (!s.paired || setNum b 24 8 == peer)

/-- What the checks after cause 5 find where the transport key cannot serve, for KEY's cause c: no wrap can be judged, and the others are judged in their order. -/
def State.learnBlocked (s : State) (b : List Byte) (c : Nat) : LearnCheck :=
  match setClash b with
  | some i => { cause := 7, index := i }
  | none =>
    if c = 10 ∨ (s.slot 255).state = .spent then { cause := 8 }
    else if s.crd.learn.isSome then { cause := 9 }
    else if s.lktRefuses then { cause := 10 }
    else { cause := slotLearnCause c }

/-- The checks of R469 in their order, and R470's stored bank. -/
def State.learnCheck (s : State) (b : List Byte) (standby : Bool) : LearnCheck × State :=
  let signer := setNum b 5 1
  if !setFormat b then ({ cause := 1 }, s)
  else if 0 < signer ∧ !bit (s.reg Reg.CRD_CFG_OP_DELEG) (signer - 1) then ({ cause := 2 }, s)
  else
    let v := s.pkeVerify (s.signerKey signer) (b.take (b.length - 64)) (b.drop (b.length - 64))
    if !v.1 then ({ cause := 3 }, v.2)
    else if setGen b ≤ s.crd.generation then ({ cause := 4 }, v.2)
    else if !s.setNames b standby then ({ cause := 5 }, v.2)
    else
      let u := v.2.useSlot 253 useECDH [2] 0
      if u.1 ≠ 0 then (v.2.learnBlocked b u.1, u.2)
      else
        let u := (u.1, u.2.pkeBlind (mulsEcdh (slice b 32 64)))
        let wrap := if standby then slice b 136 40 else slice b 96 40
        let key := match ecdh (ofBe (u.2.slotRaw 253).key) (slice b 32 64) with
          | some x => aesUnwrap (setWrapKey x (setGen b) s.devnum) wrap
          | none => none
        let used := ((List.range (setCount b)).filter (fun i => setNum (setEntry b i) 0 8 != 0)).length
        let w := ((u.2.pkeCount (pointOf (slice b 32 64)).isNone true).hashed [44]).aeaCount .bulk (if key.isSome then 1 + 2 * used else 1)
        match key with
        | none => ({ cause := 6 }, w)
        | some kset =>
          match (List.range (setCount b)).find? (fun i => badKey kset (setEntry b i)), setClash b with
          | some i, _ => ({ cause := 6, index := i }, w)
          | none, some i => ({ cause := 7, index := i }, w)
          | none, none =>
            if (w.slot 255).state = .spent then ({ cause := 8 }, w)
            else if s.crd.learn.isSome then ({ cause := 9 }, w)
            else if s.lktRefuses then ({ cause := 10 }, w)
            else
              let r := State.rewrap kset ((List.range (setCount b)).map (setEntry b)) w
              match r.1 with
              | .error c => ({ cause := slotLearnCause c }, r.2)
              | .ok l => ({ cause := 0, bank := b.take 96 ++ List.replicate 80 0 ++ slice b 176 16 ++ l ++ b.drop (b.length - 64) }, r.2)

/-- Status of a cause of Table 10-5. -/
def learnStatus (c : Nat) : Nat :=
  if c = 0 then stOK else if c = 3 ∨ c = 6 then stAUTH else if c = 8 then stSPENT else if c = 9 ∨ c = 11 then stFULL else if c = 10 then stNV
  else if c = 12 then stRESET else stPOLICY

/-! ## The selector (R472): one 32-byte selector per device, the PRIMARY's first -/

/-- Logical address of this device's selector. -/
def State.selectorAt (s : State) : Nat := if s.tsu.secondary then 32 else 0

/-- A selector's bytes. -/
def selectorBytes (gen count bank kek : Nat) (hash : List Byte) : List Byte :=
  leBytes 4 gen ++ leBytes 2 count ++ leBytes 1 bank ++ leBytes 1 kek ++ fit 24 hash

/-- A credential bank of the NOR. -/
def State.credBank (s : State) (b : Nat) : List Byte := if b = 0 then s.nor.credA else s.nor.credB

/-! ## Loading the table -/

/-- The credential RAM with the entries of a stored bank, and nothing else (R28). -/
def State.crdFill (s : State) (bank : List Byte) : State :=
  let clear : State := { s with mem := s.mem.filter (fun c => decide (c.1 < crdBase) || decide (crdBase + 0x80000 ≤ c.1)) }
  clear.setBytes crdBase (slice bank 192 (128 * setCount bank))

/-- A bank comes into force. -/
def State.crdLoad (s : State) (b : Nat) (bank : List Byte) : State :=
  let t := s.crdFill bank
  { t with crd := { t.crd with tableValid := true, bank := b, count := setCount bank, generation := setGen bank } }

/-- CRED_SWITCH (Table 13-5). -/
def State.credSwitchRec (s : State) (gen count bank flags moved dropped reason : Nat) : State :=
  s.journal blkCRD 0x0040 (leBytes 4 gen ++ leBytes 2 count ++ leBytes 1 bank ++ leBytes 1 flags ++ leBytes 2 moved ++ leBytes 2 dropped ++ leBytes 1 reason)

/-- The load at boot (R475). -/
def State.crdBoot (s : State) : State :=
  let a := s.selectorAt
  let gen := s.lktWord a 4
  let b := s.lktWord (a + 6) 1
  let bank := s.credBank b
  let none_ := s.damagedRange a 32 || (s.lktBytes a 32).all (· == 0)
  let reason := if none_ then some 0 else if (sha256 bank).take 24 != s.lktBytes (a + 8) 24 then some 1
    else if s.lktWord (a + 7) 1 ≠ s.key.kekGen then some 2 else none
  match reason with
  | none => s.crdLoad b bank
  | some r =>
    let t := s.crdFill []
    let e : State := { t with crd := { t.crd with tableValid := false, count := 0, bank := if none_ then 0 else b, generation := if none_ then 0 else gen } }
    (e.raise 149).credSwitchRec (if none_ then 0 else gen) 0 (if none_ then 0 else b) 2 0 0 r

/-! ## A learning's progress -/

/-- A learning ends: CRD_LAST, E_149 when it failed, the completion of its command. -/
def State.learnEnd (s : State) (l : Learn) (status c index : Nat) : State :=
  let cause := if c = causeUnnamed then 0 else c
  let s1 : State := { s with crd := { s.crd with learn := none } }
  let s2 := ((s1.set Reg.CRD_LAST_STATUS status).set Reg.CRD_LAST_CAUSE cause).set Reg.CRD_LAST_INDEX index
  let s3 := if status = stOK ∨ status = stDEGRADED then s2 else s2.raise 149
  match l.cmd.bind (fun c => s3.runningSeq 9 c) with
  | some r => s3.complete r blkCRD status cause (leBytes 2 index)
  | none => s3

/-- A STANDBY's learning ends, or has made its switch: its mirror item is acknowledged with a status, E_149 when it failed (R474, R505). -/
def State.learnMacked (s : State) (mseq status : Nat) : State :=
  let t : State := { s with crd := { s.crd with learn := none } }
  (if status = stOK then t else t.raise 149).sendMack mseq status

/-- The set is checked and its bank handed to CFG (R469, R470); in a pair the issued set goes to the partner, its last part to be acknowledged once the partner's bank is written
(R474). -/
def State.learnBegin (s : State) (b : List Byte) (cmd mack : Option Nat) (standby : Bool) : LearnCheck × State :=
  let c := s.learnCheck b standby
  if c.1.cause ≠ 0 then c
  else
    let bank := 1 - c.2.crd.bank
    let c := (c.1, c.2.hashed [c.1.bank.length, c.1.bank.length])
    let l : Learn := { cmd := cmd, bank := c.1.bank, issued := b, generation := setGen b, count := setCount b, phase := .writing, since := s.now, mack := mack }
    (c.1, { c.2 with crd := { c.2.crd with learn := some l }, nor := { c.2.nor with jobs := c.2.nor.jobs ++ [{ area := .cred bank, data := c.1.bank }] } })

/-- Send an issued set to the partner in parts of at most 1,000 bytes (Table 16-4); the MSEQ of the last one. -/
def State.sendSet (s : State) (flags : Nat) : Nat → Nat → List Byte → State
  | 0, _, _ => s
  | n + 1, o, b =>
    if b.isEmpty then s else (s.mirror 34 0x12 flags 5000000 (leBytes 4 o ++ b.take 1000)).sendSet flags n (o + 1000) (b.drop 1000)

/-- The SWITCH item (assumption 22): OFFSET all ones and the generation. -/
def State.sendSwitch (s : State) (gen : Nat) : State := s.mirror 34 0x12 0 5000000 (leBytes 4 0xFFFFFFFF ++ leBytes 4 gen)

/-- Whether a learning is this device's own, and not one that a STANDBY makes for its partner (R474). -/
def State.ownLearn (s : State) (l : Learn) : Bool := l.cmd.isSome || (l.mack.isNone && !s.isStandby)

/-- Whether a learning may switch: no session, no proposal, no proof check (R471). -/
def State.quietPoint (s : State) : Bool := s.glt.sess.isNone && s.vrd.pending.isEmpty && s.glt.held.isNone && s.glt.late.isEmpty

/-- The selector write of a learning (R472). -/
def State.learnSelect (s : State) (l : Learn) : State :=
  let x := selectorBytes l.generation l.count (1 - s.crd.bank) s.key.kekGen ((sha256 l.bank).take 24)
  let t : State := { s with crd := { s.crd with learn := some { l with phase := .selector } } }
  State.lktSubmit (t.hashed [l.bank.length]) .selector (t.runItems t.selectorAt x)

/-- The index that a credential index has in a new bank: that of its TID. -/
def State.movedIndex (s : State) (bank : List Byte) (c : Nat) : Option Nat :=
  let tid := s.crdTid c
  if tid = 0 then none else (List.range (setCount bank)).find? (fun i => setNum (setEntry bank i) 0 8 == tid)

/-- R473: the lockouts and the failure log entries move with their TIDs or are dropped: how many moved, how many dropped. -/
def State.moveLocks (s : State) (bank : List Byte) : Nat × Nat × State :=
  let places := (List.range 128).filter s.lockRecorded
  let entries := (List.range 20).filter (fun i => bit (failFlags (s.failEntry i)) 0 && decide (failCred (s.failEntry i) < 4096))
  let put (g e : Nat) : LktItem × Bool := match s.movedIndex bank (failCred e) with
    | some i => (.group g (e - failCred e * 2 ^ 32 + i * 2 ^ 32), true)
    | none => (.group g 0, false)
  let l := places.map (fun p => put (lockAddr p / 8) (s.lockEntry p)) ++ entries.map (fun i => put ((0x600 + 8 * i) / 8) (s.failEntry i))
  ((l.filter Prod.snd).length, (l.filter (fun x => !x.2)).length, l.foldl (fun t x => (t.lktNow [x.1]).2) s)

/-- CTR_BASE goes to CELL for every entry with CELL_RESET (R473). -/
def State.resetCells (s : State) (bank : List Byte) : State :=
  ((List.range (setCount bank)).map (setEntry bank)).foldl (fun t e =>
    if setNum e 0 8 != 0 && bit (setNum e 49 1) 0 then (t.lktNow (t.runItems (0x2000 + 4 * setNum e 50 2) (leBytes 4 (setNum e 60 4)))).2 else t) s

/-- Session requests that CRD held are taken up. -/
def State.releaseHeld (s : State) : State :=
  let l := s.glt.heldOpens
  l.foldl (fun t p => t.gltOpen p.2 p.1 false) { s with glt := { s.glt with heldOpens := [] } }

/-- The selector has been accepted: the new set is in force, with all that R473 lists; CFG writes the issued-set copy (R811). -/
def State.learnSwitched (s : State) (l : Learn) (degraded : Bool) : State :=
  let m := s.moveLocks l.bank
  let s1 := m.2.2.resetCells l.bank
  let s2 : State := { s1 with glt := { s1.glt with pending := [] } }
  let s3 := s2.dropEvidence.crdLoad (1 - s.crd.bank) l.bank
  let s4 := (s3.raise 148).credSwitchRec l.generation l.count (1 - s.crd.bank) (ofBool degraded) m.1 m.2.1 0
  { s4 with crd := { s4.crd with degraded := s4.crd.degraded && degraded }, nor := { s4.nor with jobs := s4.nor.jobs ++ [{ area := .setCopy, data := l.issued }] } }

/-- CFG_STAT.SET_COPY (R811): the copy holds the set in force and nothing is still to be written to it. -/
def State.setCopyReady (s : State) : Bool :=
  !s.nor.setCopy.isEmpty && setGen s.nor.setCopy == s.crd.generation && !s.nor.jobs.any (fun j => j.area == .setCopy)

/-- The learning on the device that issued it completes: OK, or DEGRADED when it switched alone (R474). -/
def State.learnDone (s : State) (l : Learn) (alone : Bool) : State :=
  let t : State := if alone && s.paired then { s with crd := { s.crd with degraded := true } } else s
  t.learnEnd l (if alone && s.paired then stDEGRADED else stOK) 0 0

/-- The selector write of a learning has been settled (R472 to R474): the ACTIVE of a pair then has the partner switch; a STANDBY acknowledges the SWITCH. -/
def State.learnSettled (s : State) (x : LktWrite) : State :=
  match s.crd.learn with
  | none => s
  | some l =>
    if !x.state.ok then
      match l.mack with
      | some m => s.learnMacked m stNV
      | none => (s.learnEnd l stNV 10 0).releaseHeld
    else
      let alone := s.paired && (l.degraded || !s.mirrorsNow)
      let t := s.learnSwitched l alone
      match l.mack with
      | some m => t.learnMacked m stOK
      | none =>
        if !t.paired || alone then ({ t with crd := { t.crd with learn := some { l with phase := .switching } } } : State).releaseHeld.learnDone l alone
        else
          let w : Learn := { l with phase := .switching, mseq := some t.tsu.mseqNext }
          (({ t with crd := { t.crd with learn := some w } } : State).sendSwitch l.generation).releaseHeld

/-- What the partner reports of a learning's mirror item, or its loss: its bank is written, or it does not take part; its switch is made, or is not. -/
def State.learnMirror (s : State) (mseq : Nat) (ok : Bool) : State :=
  match s.crd.learn with
  | none => s
  | some l =>
    if l.mseq ≠ some mseq then s
    else if l.phase = .switching then s.learnDone l (!ok)
    else
      let w : Learn := { l with mseq := none, degraded := l.degraded || !ok }
      { s with crd := { s.crd with learn := some (if l.phase = .partner then { w with phase := .quiet, since := s.now } else w) } }

/-- CFG has written and compared the inactive bank (R470), or that failed (cause 10). -/
def State.learnBanked (s : State) (data : List Byte) (ok : Bool) : State :=
  match s.crd.learn with
  | none => s
  | some l =>
    if l.phase ≠ .writing ∨ l.bank ≠ data then s
    else if !ok then
      match l.mack with
      | some m => s.learnMacked m stNV
      | none => s.learnEnd l stNV 10 0
    else match l.mack with
      | some m => State.sendMack { s with crd := { s.crd with learn := some { l with phase := .partner, mack := none } } } m stOK
      | none =>
        let w : Learn := if l.mseq.isSome then { l with phase := .partner } else { l with phase := .quiet, since := s.now }
        { s with crd := { s.crd with learn := some w } }

end Sys2Proof.Machine
end

