-- ==== Sys2Proof/Machine/BusOps.lean ====
section
/-! DEFINITION. Bus errors and the Locket window (R20, R25, R559 to R573, R687, R688, R852, R853). -/
namespace Sys2Proof.Machine

/-- Whether an access of `width` bits is naturally aligned and of a width that memory takes (R560, R874). -/
def naturally (addr width : Nat) : Bool := (width == 8 || width == 16 || width == 32) && addr % (width / 8) == 0

/-! ## Field Memory while the field works (R687, R688) -/

/-- Whether a field operation keeps masters from Field Memory. -/
def State.fieldBusy (s : State) : Bool := s.hft.waits == .write

/-- Whether a logical range touches Field Memory. -/
def touchesField (a n : Nat) : Bool := decide (0x6000 < a + n) && decide (a < 0x8000)

/-- An access joins the stalled ones; one stalled before keeps its first time. -/
def State.stall (s : State) (x : Stall) : State :=
  if s.hft.stalls.any (fun y => { y with since := x.since } == x) then s else { s with hft := { s.hft with stalls := s.hft.stalls ++ [x] } }

/-- A Q_6 command stalled under R687, held by its CMD_SEQ. -/
def Running.stallOf (r : Running) (now : Nat) : Stall := { master := r.entry.master, write := r.entry.code == 2, addr := r.entry.seq, width := 0, value := 0, since := now }

/-! ## Writes through the window -/

/-- A write of a master through the Locket window: its status on the bus (none: stalled), and the state. -/
def State.windowWrite (s : State) (m addr width value : Nat) : Option Nat × State :=
  let a := addr - lktBase
  let n := width / 8
  let policy (t : State) : Option Nat × State := (some stPOLICY, t.busFault kindPolicy m addr true)
  if !naturally addr width || addr < lktBase || lktBase + 0x8000 ≤ addr then policy s
  else if !(List.range n).all (fun i => s.mayWriteLkt m (a + i)) || s.isStandby then policy s
  else if touchesField a n && s.fieldBusy then
    (none, s.stall { master := m, write := true, addr := addr, width := width, value := value, since := s.now })
  else if s.pins.wpLow then policy ((s.raise 167).bump Reg.LKT_ERR_REFUSED_WP)
  else if s.lkt.worn then policy s
  else (some stOK, s.lktSubmit (.bus m) (s.runItems a (leBytes n value)))

/-- A read of a master through the Locket window: status, data, state. A DAMAGED group ends in a bus error without a record (R588). -/
def State.windowRead (s : State) (m addr width : Nat) : Nat × Nat × State :=
  let a := addr - lktBase
  let n := width / 8
  if !naturally addr width || addr < lktBase || lktBase + 0x8000 ≤ addr || !(List.range n).all (fun i => s.mayReadLkt m (a + i)) then
    (stPOLICY, 0xDEAD0FF5, s.busFault kindPolicy m addr false)
  else if s.damagedRange a n then (stNV, 0xDEAD0FF5, s)
  else (stOK, s.lktWord a n, s)

/-- The status that a frame of the host shows for an outcome: DELAYED_OK for a success that came more than 2 µs after its last byte (R706). -/
def State.hostStatus (s : State) (st since : Nat) : Nat := if st = stOK ∧ since + 2 < s.now then stDELAYED else st

/-- A REG_WRITE frame has its outcome (R705 to R707): HIF_STAT, HIF_DELAY, and the status byte unless the host has ended the frame. -/
def State.hifWriteDone (s : State) (st since : Nat) (abandoned : Bool) : State :=
  let r := s.hostStatus st since
  let t := s.set Reg.HIF_STAT_LAST_STATUS r
  let u := if r = stDELAYED then t.set Reg.HIF_DELAY_US (min 0xFFFFFFFF (s.now - since)) else t
  { u with hif := { u.hif with out := if abandoned then [] else [BitVec.ofNat 8 r], highZ := abandoned } }

/-- Write words of a frame through the Locket window one after another (R38, R709): each is done before the next begins, and one that has to wait holds the frame. -/
def State.windowWords (since : Nat) (abandoned : Bool) : Nat → List Nat → State → State
  | _, [], s => s.hifWriteDone stOK since abandoned
  | a, w :: t, s =>
    let hold (u : State) (stalled : Bool) : State :=
      let h : HifWait := { addr := a + 4, words := t, since := since, abandoned := abandoned, stalled := stalled }
      { u with hif := { u.hif with waits := u.hif.waits ++ [h], out := [], highZ := abandoned } }
    if lktBase + 0x8000 ≤ a then (s.busFault kindDecode 3 a true).hifWriteDone stPOLICY since abandoned
    else match s.windowWrite 3 a 32 w with
    | (none, u) => hold u true
    | (some st, u) =>
      if st ≠ stOK then u.hifWriteDone st since abandoned
      else if s.lkt.writes.any (fun x => x.writer == .bus 3) then hold u false
      else match u.settle (.bus 3) with
      | (none, v) => hold v false
      | (some x, v) =>
        if x.state.ok then State.windowWords since abandoned (a + 4) t (v.bumpI Reg.HIF_STAT_WORDS 0)
        else (v.busFault kindPolicy 3 a true).hifWriteDone stPOLICY since abandoned

/-- The oldest frame that waits for the Locket (or for the field), taken off the list. -/
def State.hifHeld (s : State) (stalled : Bool) : Option (HifWait × State) :=
  match s.hif.waits.find? (fun h => h.stalled == stalled) with
  | none => none
  | some h => some (h, { s with hif := { s.hif with waits := s.hif.waits.erase h } })

/-- A master's write through the window has been settled: the host's frame goes on or ends, and a write that is refused is a policy error. -/
def State.busSettled (s : State) (m : Nat) (ok : Bool) (addr : Nat) : State :=
  let t := if ok then s else s.busFault kindPolicy m addr true
  if m ≠ 3 then t
  else match t.hifHeld false with
  | none => t
  | some (h, u) => if ok then State.windowWords h.since h.abandoned h.addr h.words (u.bumpI Reg.HIF_STAT_WORDS 0) else u.hifWriteDone stPOLICY h.since h.abandoned

/-- The outcome of an access that the host's frame waited for (R706): its status in HIF_STAT, the wait in HIF_DELAY. -/
def State.hostServed (s : State) (st since : Nat) : State :=
  let t := ((s.set Reg.HIF_STAT_LAST_STATUS (if st = stOK then stDELAYED else st)).set Reg.HIF_DELAY_US (min 0xFFFFFFFF (s.now - since)))
  if st = stOK then t.bump Reg.HIF_STAT_WORDS else t

/-- A stalled word of the host's REG_READ proceeds: the frame's status is DELAYED_OK while its words are read, and that of the first that fails, from which on they read as
0xDEAD_0FF5 (R706, R709). Past the window there is nothing. -/
def State.hostReads (s : State) (x : Stall) : State :=
  let more (t : State) (b : List Byte) : State := { t with hif := { t.hif with out := b } }
  if s.hif.out.headD 0 ≠ BitVec.ofNat 8 stDELAYED then more s (s.hif.out ++ leBytes 4 0xDEAD0FF5)
  else
    let p := if lktBase + 0x8000 ≤ x.addr then (stPOLICY, 0xDEAD0FF5, s.busFault kindDecode 3 x.addr false) else s.windowRead 3 x.addr x.width
    let t := p.2.2.hostServed p.1 x.since
    if p.1 = stOK then more t (t.hif.out ++ leBytes 4 p.2.1) else more t (BitVec.ofNat 8 p.1 :: t.hif.out.drop 1 ++ leBytes 4 0xDEAD0FF5)

/-- One stalled access proceeds: a window write, a word of the host's REG_READ, an EEPROM page write. A Q_6 command that was stalled is served again by its own row, and what a core
reads changes nothing here. -/
def State.unstallOne (s : State) (x : Stall) : State :=
  if x.width = 0 then s
  else if x.eeprom then s.lktSubmit .eeprom (s.byteItems (pageWrite x.addr (leBytes (x.width / 8) x.value)))
  else if x.write then
    match (if x.master = 3 then s.hifHeld true else none) with
    | some (h, t) => State.windowWords h.since h.abandoned x.addr (x.value :: h.words) t
    | none => (s.windowWrite x.master x.addr x.width x.value).2
  else if x.master = 3 then s.hostReads x
  else s

/-- The field operation has ended: what was stalled proceeds. -/
def State.unstall (s : State) : State := s.hft.stalls.foldl State.unstallOne { s with hft := { s.hft with stalls := [] } }

end Sys2Proof.Machine
end

