-- ==== Sys2Proof/Machine/HftOps.lean ====
section
/-! DEFINITION. The tag as operations (chapter 14): frames and blocks of ISO/IEC 14443, secure messaging, answers, the field-powered write. -/
namespace Sys2Proof.Machine

/-! ## CRC_A and frames (ISO/IEC 14443-3) -/

/-- CRC_A: reflected, polynomial 0x1021, initial value 0x6363; low byte first. -/
def crcA (l : List Byte) : List Byte :=
  let step (c : Nat) (b : Bool) : Nat := if xor (c % 2 == 1) b then (c / 2) ^^^ 0x8408 else c / 2
  leBytes 2 (foldNat (fun c b => (byteBits b).reverse.foldl step c) 0x6363 l)

/-- A frame's content when its CRC_A passes. -/
def openTagFrame (f : List Byte) : Option (List Byte) :=
  let n := f.length
  if n < 3 ∨ crcA (f.take (n - 2)) != f.drop (n - 2) then none else some (f.take (n - 2))

/-- Whether the tag answers at all: a field is present and, in RUN and SLEEP, HFT is enabled and not in a reset (Table 14-10). -/
def State.tagOn (s : State) : Bool :=
  s.hft.field && (s.hft.mode == 2 || (s.flag Reg.HFT_CTRL_EN && !s.fences.inReset.contains blkHFT))

/-- A new command of the reader: nothing has been sent for it yet. -/
def State.tagNew (s : State) : State := { s with hft := { s.hft with sent := [] } }

/-- Send a part 3 answer. -/
def State.tagSend (s : State) (b : List Byte) : State := { s with hft := { s.hft with sent := s.hft.sent ++ [b] } }

/-- Send a part 4 block: PCB ‖ INF ‖ CRC_A, kept for R(NAK) (R663). -/
def State.tagBlock (s : State) (pcb : Nat) (inf : List Byte) : State :=
  let b := BitVec.ofNat 8 pcb :: inf
  let f := b ++ crcA b
  { s with hft := { s.hft with sent := s.hft.sent ++ [f], last := f } }

/-- Send the next block of a response, with chaining when more is left. -/
def State.tagMore (s : State) : State :=
  let n := s.hft.fsd - 3
  let l := s.hft.rest
  let bn := ofBool s.hft.bn
  if l.length ≤ n then State.tagBlock { s with hft := { s.hft with rest := [] } } (2 + bn) l
  else State.tagBlock { s with hft := { s.hft with rest := l.drop n } } (0x12 + bn) (l.take n)

/-- Send a response APDU; one that is ready before the reader has answered S(WTX) waits for that answer. -/
def State.tagAnswer (s : State) (b : List Byte) : State :=
  let t : State := { s with hft := { s.hft with rest := b } }
  if s.hft.wtx then t else t.tagMore

/-- A status word. -/
def swBytes (sw : Nat) : List Byte := beBytes 2 sw

/-! ## Events, failures (R666, R675, R700) -/

/-- An event of HFT: raised in RUN; held for the wake in SLEEP; none in FIELD (R700). -/
def State.tagEvent (s : State) (e : Nat) : State :=
  if s.hft.mode = 0 then s.raise e else if s.hft.mode = 1 then { s with hft := { s.hft with events := s.hft.events ++ [e] } } else s

/-- A failed authentication. The record's CAUSE byte is not given: a free value. -/
def State.tagFail (s : State) : State :=
  let s1 := State.bump { s with hft := { s.hft with fails := s.hft.fails + 1 } } Reg.HFT_ERR_AUTH_FAIL
  let s2 := s1.tagEvent 178
  if s2.hft.mode ≠ 0 then s2
  else
    let d := s2.draw 1
    d.2.journal blkHFT 0x0030 (noRef ++ leBytes 2 0xFFFF ++ leBytes 1 3 ++ d.1 ++ leBytes 1 5)

/-- The tag leaves SECURED or OPEN work behind: keys and chains go, the state is `st`. -/
def State.tagState (s : State) (st : TagState) : State :=
  { s with hft := { s.hft with st := st, key := [], ssc := 0, method := 0, mayWrite := false, subject := 0, certs := [], enf := none, parts := [], waits := .none } }

/-- The tag enters IDLE (Table 14-3). -/
def State.tagIdle (s : State) : State :=
  let t := s.tagState .idle
  { t with hft := { t.hft with part3 := 0, last := [], rest := [], chain := [], wtx := false, nT := none } }

/-! ## APDUs (Table 14-5) -/

/-- A command APDU, parsed; `ok` is false when its length bytes do not fit. -/
structure Apdu where
  cla : Nat
  ins : Nat
  p1 : Nat
  p2 : Nat
  data : List Byte
  le : Nat
  ok : Bool
  deriving DecidableEq, Repr

/-- Parse a short APDU. Le of 0x00 is 256; none: 0. -/
def parseApdu (b : List Byte) : Apdu :=
  let h (i : Nat) := ofLe (slice b i 1)
  let t := b.drop 4
  let le (x : Nat) := if x = 0 then 256 else x
  let base : Apdu := { cla := h 0, ins := h 1, p1 := h 2, p2 := h 3, data := [], le := 0, ok := decide (4 ≤ b.length) }
  if t.isEmpty then base
  else if t.length = 1 then { base with le := le (h 4) }
  else
    let n := h 4
    let d := (t.drop 1).take n
    let r := (t.drop 1).drop n
    { base with data := d, le := if r.length = 1 then le (ofLe r) else 0, ok := decide (0 < n) && d.length == n && decide (r.length ≤ 1) }

/-- Instruction bytes of Table 14-5: INS and CLA. -/
def tagCommands : List (Nat × Nat) :=
  [(0xA4, 0), (0x30, 0), (0x84, 0), (0x32, 0), (0x34, 0), (0x38, 0), (0x3A, 0), (0xB0, 0x0C), (0xD6, 0x0C), (0x3C, 0x0C), (0x36, 0x0C), (0x42, 0x0C), (0x3E, 0x0C)]

/-- Take a final I-block (ISO/IEC 14443-4): its APDU, with what chaining has brought; the block number toggles. -/
def State.tagTake (s : State) (frame : List Byte) : Option (Apdu × State) :=
  match openTagFrame frame with
  | some (pcb :: inf) =>
    if !s.tagOn || s.hft.st == .idle || s.hft.waits != .none || !(pcb.toNat == 2 || pcb.toNat == 3) then none
    else
      let t := s.tagNew
      some (parseApdu (s.hft.chain ++ inf), { t with hft := { t.hft with bn := !t.hft.bn, chain := [], fresh := false } })
  | _ => none

/-- Run `k` on the APDU of a frame whose INS is the command's; a frame that is no such block changes nothing. -/
def State.tagCommand (s : State) (ins : Nat) (frame : List Byte) (k : State → Apdu → State) : State :=
  match s.tagTake frame with
  | some (a, t) => if a.ins = ins ∧ (a.cla = 0 ∨ a.cla = 0x0C) then k t a else s
  | none => s

/-- A plain answer: data and status word. -/
def State.tagPlain (s : State) (data : List Byte) (sw : Nat) : State := s.tagAnswer (data ++ swBytes sw)

/-! ## Secure messaging (R676 to R678) -/

/-- A nonce of R677. -/
def smNonce (dir ssc : Nat) : List Byte := leBytes 1 dir ++ beBytes 8 ssc ++ [0, 0, 0, 0]

/-- A protected answer: C ‖ T ‖ SW; SSC rises. -/
def State.tagSealed (s : State) (data : List Byte) (sw : Nat) : State :=
  let c := ccmSeal s.hft.key 8 (smNonce 2 s.hft.ssc) (swBytes sw) data
  State.tagAnswer { s with hft := { s.hft with ssc := s.hft.ssc + 1 } } (c.1 ++ c.2 ++ swBytes sw)

/-- The answer of a command in the state that it found: protected in SECURED. -/
def State.tagReply (s : State) (data : List Byte) (sw : Nat) : State := if s.hft.st = .secured then s.tagSealed data sw else s.tagPlain data sw

/-- Open a command of the SECURED state (R676 to R678, R680): `k` runs on its plaintext. A command with CLA 0x00, a spent SSC or a tag that fails is answered here. -/
def State.tagSecured (s : State) (a : Apdu) (k : State → List Byte → State) : State :=
  if s.hft.st ≠ .secured ∨ a.cla ≠ 0x0C then s.tagPlain [] 0x6982
  else if 2 ^ 32 ≤ s.hft.ssc then (s.tagState .open_).tagPlain [] 0x6985
  else
    let n := a.data.length
    match (if n < 8 then none else ccmOpen s.hft.key 8 (smNonce 1 s.hft.ssc) [BitVec.ofNat 8 a.cla, BitVec.ofNat 8 a.ins, BitVec.ofNat 8 a.p1, BitVec.ofNat 8 a.p2]
        (a.data.take (n - 8)) (a.data.drop (n - 8))) with
    | some p => k s p
    | none => (State.tagState ((s.bump Reg.HFT_ERR_SM_FAIL).tagEvent 178) .open_).tagPlain [] 0x6988

/-- The offset of P1 and P2. -/
def Apdu.offset (a : Apdu) : Nat := 256 * a.p1 + a.p2

/-! ## Methods (R666, R670, R673) -/

/-- Whether the enforcement method is available (R670). -/
def State.enfAvailable (s : State) : Bool :=
  s.flag Reg.HFT_TAG_CFG_ENF_EN && !s.isStandby &&
    (s.hft.mode == 0 || (s.hft.mode == 1 && s.flag Reg.PWR_WAKE_EN_FD && decide (1 ≤ s.sleeping ∧ s.sleeping ≤ 3)))

/-- Whether the workshop method is available (R673, R674). -/
def State.wsAvailable (s : State) : Bool :=
  s.flag Reg.HFT_TAG_CFG_WS_EN &&
    (!s.flag Reg.HFT_TAG_CFG_WS_TOKEN || (s.hft.mode != 2 &&
      (match s.tim.service, s.rtcMs with | some t, some n => decide (t ≤ n / 1000 ∧ n / 1000 - t ≤ 600) | _, _ => false)))

/-- K_WS. -/
def State.kWs (s : State) : List Byte := (List.range 4).flatMap (fun w => leBytes 4 (s.regI Reg.HFT_WS_KEY_KEY w))

/-- The write range of the method by which the tag is SECURED, as byte offsets (R685). -/
def State.tagRange (s : State) : Nat × Nat :=
  let b := if s.hft.method = 1 then s.reg Reg.HFT_WR_RANGE_ENF_BASE else s.reg Reg.HFT_WR_RANGE_WS_BASE
  let n := if s.hft.method = 1 then s.reg Reg.HFT_WR_RANGE_ENF_PAGES else s.reg Reg.HFT_WR_RANGE_WS_PAGES
  (64 * b, 64 * min (b + n) 127)

/-- HFT_STAT.WRITE_OK: the state allows writes. -/
def State.tagWriteOk (s : State) : Bool :=
  s.hft.st == .secured && (s.hft.method == 2 || s.hft.mayWrite) && decide (s.tagRange.1 < s.tagRange.2) && !s.hft.noWrite && !s.isStandby

/-- A record of firmware for the tag, in RUN mode alone (R695). -/
def State.tagRecord (s : State) (typ : Nat) (payload : List Byte) : State := if s.hft.mode = 0 then s.firmwareRecord typ payload else s

/-- Enter SECURED with a session key (E_177), and its record 0x4010: METHOD 1, SUBJECT 8, FLAGS 1, UID 4, the subject and FLAGS.WRITE 0 for the workshop method (R695, assumption 68). -/
def State.tagSecure (s : State) (method : Nat) (key : List Byte) (mayWrite : Bool) (subject : Nat) : State :=
  let h := { s.hft with st := .secured, method := method, key := key, ssc := 0, mayWrite := mayWrite, subject := subject, nT := none, enf := none }
  let t := State.tagEvent { s with hft := h } 177
  t.tagRecord 0x4010 (leBytes 1 method ++ leBytes 8 subject ++ leBytes 1 (ofBool (mayWrite && method == 1)) ++ s.hft.uid)

/-- The certificate at hand (Table 14-4). -/
def certRole (c : List Byte) : Nat := ofLe (slice c 1 1)
def certNotAfter (c : List Byte) : Nat := ofBe (slice c 4 4)
def certSubject (c : List Byte) : Nat := ofBe (slice c 8 8)
def certIssuer (c : List Byte) : Nat := ofBe (slice c 16 8)
def certKey (c : List Byte) : List Byte := slice c 24 64

/-- Whether NOT_AFTER still stands, judged as R286 judges a window's end. -/
def State.certInTime (s : State) (c : List Byte) : Bool :=
  let e := certNotAfter c
  match s.windowTime with
  | some t => e == 0 || decide (t ≤ e)
  | none => match s.newestRtc with | some t => e == 0 || decide (t ≤ e) | none => e == 0

/-! ## Field Memory (R600 to R602, R685 to R692) -/

/-- The highest SEQ of an INDEX record in the field streams (R692). -/
def State.fieldLastSeq (s : State) : Nat :=
  ((s.lkt.fieldA.recs ++ s.lkt.fieldB.recs).filter (fun x => x.1.valid && x.1.kind == 2)).foldl (fun m x => max m x.1.seq) 0

/-- Fill the field buffer (R600): the values of the 1,024 groups of the field streams, and those that are DAMAGED. -/
def State.fillBuffer (s : State) : State :=
  let a := s.lkt.fieldA.recs
  let b := s.lkt.fieldB.recs
  let ms := (List.range 0x400).map (fun i => (0xC00 + i, mountGroup a b (0xC00 + i)))
  { s with hft := { s.hft with buffer := ms.flatMap (fun m => leBytes 8 m.2.value), damaged := (ms.filter (fun m => m.2.damaged)).map (·.1) } }

/-- `n` bytes of Field Memory at an offset: from the buffer in FIELD mode, else from the shadow. -/
def State.fieldBytes (s : State) (o n : Nat) : List Byte := if s.hft.mode = 2 then slice s.hft.buffer o n else s.lktBytes (0x6000 + o) n

/-- Whether any byte of a range of Field Memory is DAMAGED, or the region is closed (R871). -/
def State.fieldDamaged (s : State) (o n : Nat) : Bool :=
  if s.hft.mode = 2 then s.hft.damaged.any (fun g => decide (8 * g < 0x6000 + o + n) && decide (0x6000 + o < 8 * g + 8))
  else s.damagedRange (0x6000 + o) n || s.regionTableDamaged

/-- The buffer with bytes put in. -/
def putBytes (b : List Byte) (o : Nat) (d : List Byte) : List Byte := b.take o ++ d ++ b.drop (o + d.length)

/-- The records of a field-powered write (R601, R692): per group, or per group of each page touched when PAGE_ATOMIC is set, one record for stream A and one for B. -/
def State.fieldRecords (s : State) (o : Nat) (d : List Byte) : List (Bool × StreamRec) :=
  let paged := s.regI Reg.LKT_RGN_PAGE_ATOMIC 7 == 1
  let new := putBytes s.hft.buffer o d
  let first := o / 8
  let last := (o + d.length - 1) / 8
  let gs := if paged then (List.range (8 * (last / 8 + 1 - first / 8))).map (· + 8 * (first / 8)) else (List.range (last + 1 - first)).map (· + first)
  let top := ((s.lkt.fieldA.recs ++ s.lkt.fieldB.recs).filter (fun x => x.1.valid)).foldl (fun m x => max m x.1.seq) 0
  let seqOf (i g : Nat) := if paged then top + 1 + (g / 8 - first / 8) else top + 1 + i
  let mk (i g : Nat) : StreamRec :=
    let v := ofLe (slice new (8 * g) 8)
    { index := 0xC00 + g, kind := ofBool paged, last := paged && g % 8 == 7, seq := seqOf i g, data := v, ecc := eccCheck v, valid := true }
  let groups := gs.zipIdx.flatMap (fun p => [(true, mk p.2 p.1), (false, mk p.2 p.1)])
  let end_ := groups.foldl (fun m r => max m r.2.seq) top
  groups ++ [(true, { index := 0xFFF, kind := 2, last := false, seq := end_ + 1, data := end_, ecc := eccCheck end_, valid := true })]

/-- Whether the field streams have room (R602). -/
def State.fieldRoom (s : State) (l : List (Bool × StreamRec)) : Bool :=
  decide (64 + (l.filter (·.1)).length ≤ s.lkt.fieldA.free) && decide (64 + (l.filter (fun r => !r.1)).length ≤ s.lkt.fieldB.free)

/-- Append a record to field stream A or B. -/
def State.fieldAppend (s : State) (r : Bool × StreamRec) : State :=
  if r.1 then { s with lkt := { s.lkt with fieldA := s.lkt.fieldA.append r.2 } } else { s with lkt := { s.lkt with fieldB := s.lkt.fieldB.append r.2 } }

/-- Load the configuration registers from the tag key page's 64 bytes (R684, Table 14-7). -/
def State.loadTagPage (s : State) (p : List Byte) : State :=
  let b (i : Nat) := ofLe (slice p i 1)
  let s1 := (List.range 4).foldl (fun t w => t.setI Reg.HFT_WS_KEY_KEY w (ofLe (slice p (4 * w) 4))) s
  let s2 := ((s1.set Reg.HFT_TAG_CFG_WS_EN (b 16)).set Reg.HFT_TAG_CFG_WS_TOKEN (b 16 / 2)).set Reg.HFT_TAG_CFG_ENF_EN (b 16 / 4)
  (((s2.set Reg.HFT_WR_RANGE_ENF_BASE (b 17)).set Reg.HFT_WR_RANGE_ENF_PAGES (b 18)).set Reg.HFT_WR_RANGE_WS_BASE (b 19)).set Reg.HFT_WR_RANGE_WS_PAGES (b 20)

/-- S(WTX) asks for the smallest WTXM that covers the wait (R662); the manual gives no time for the wait of a deferred answer, so WTXM is free in 1 to 59. -/
def State.askWtx (s : State) (w : TagWait) : State :=
  let d := s.draw 1
  let m := 1 + ofLe d.1 % 59
  let t := d.2.tagBlock 0xF2 (leBytes 1 m)
  { t with hft := { t.hft with waits := w, wtx := true } }

/-- A deferred command is answered: what it waited for has come, and a field operation ends (R687). -/
def State.tagLate (s : State) (data : List Byte) (sw : Nat) : State :=
  let w := s.hft.waits
  let t := (State.tagReply { s.tagNew with hft := { s.tagNew.hft with waits := .none } } data sw)
  if w = .write then t.unstall else t

/-- An FM_WRITE has been settled by the Locket (R690), and its record 0x4011 appended: OFFSET 2, LENGTH 2, SEQ 4 (0 in RUN), DEGRADED 1 (R695, assumption 68). -/
def State.fmWriteDone (s : State) (w : LktWrite) (deferred : Bool) : State :=
  let ok := w.state.ok
  let note := leBytes 2 s.hft.span.1 ++ leBytes 2 s.hft.span.2 ++ leBytes 4 0 ++ leBytes 1 (ofBool (w.state == .degraded))
  let s1 := if ok then (s.wrapUp Reg.HFT_COUNT_WRITES).tagRecord 0x4011 note else s
  let sw := if !ok then 0x6F50 else if w.state == .degraded then 0x6351 else 0x9000
  let data := if ok then [0, 0, 0, 0] else []
  if deferred then s1.tagLate data sw else s1.tagReply data sw

/-- The tag leaves its session: what was stalled proceeds. -/
def State.tagLeave (s : State) : State := s.tagIdle.unstall

/-- Leave the field (R654, Table 14-3): the tag is IDLE, what it held for the presence goes. Without VIO the HF domain loses its registers. -/
def State.leaveField (s : State) : State :=
  let t := s.tagIdle
  let h : Hft := { events := t.hft.events, stalls := t.hft.stalls }
  let u := State.unstall { t with hft := h, lkt := { t.lkt with writes := t.lkt.writes.filter (fun w => w.writer != .field) } }
  let v := if u.pins.vio then u else u.dropBlockFields blkHFT
  (v.que.running.filter (fun r => r.ring == 11 && r.entry.code == 3 && r.started)).foldl (fun x r => x.complete r blkHFT stOK 0 []) v

/-- The AON domain comes up (R656): during a FIELD presence the write in progress is finished and no further one of that presence is made. -/
def Hft.aonRises (h : Hft) : Hft := if h.field && h.mode == 2 then { h with noWrite := true } else h

/-- A wake or a power-up during a presence (R655, R656, R700): SLEEP becomes RUN, and its events are raised; a FIELD presence writes no more. -/
def State.tagWake (s : State) : State :=
  if !s.hft.field then
    let l := s.hft.events
    l.foldl State.raise { s with hft := { s.hft with events := [] } }
  else if s.hft.mode = 1 then
    let l := s.hft.events
    l.foldl State.raise { s with hft := { s.hft with mode := 0, events := [] } }
  else if s.hft.mode = 2 then { s with hft := { s.hft with noWrite := true } }
  else s

end Sys2Proof.Machine
end

