-- ==== Sys2Proof/Machine/AuthorityOps.lean ====
section
/-! DEFINITION. The authority command: its check, the counter, the window, its end (R29 to R32, R459 to R462, R681). -/
namespace Sys2Proof.Machine

/-- Whether an authority command has the format of Table 10-2. -/
def authFormat (b : List Byte) : Bool :=
  let v := ofLe (slice b 0 1)
  let n := ofLe (slice b 1 1)
  decide (80 ≤ b.length) && ofLe (slice b 2 2) == 0 &&
    ((v == 1 && decide (1 ≤ n ∧ n ≤ 16) && b.length == 80 + 12 * n) || (v == 2 && n == 0 && b.length == 208))

/-- The write records of the body. -/
def authWrites (b : List Byte) : List AuthWrite :=
  if ofLe (slice b 0 1) = 1 then
    (List.range (ofLe (slice b 1 1))).map (fun i => { addr := ofLe (slice b (16 + 12 * i) 4), mask := ofLe (slice b (20 + 12 * i) 4), value := ofLe (slice b (24 + 12 * i) 4) })
  else []

/-- R460: status and cause of the check, in its order, and the state with the verification counted. -/
def State.authCheck (s : State) (b : List Byte) : (Nat × Nat) × State :=
  if !authFormat b || ofLe (slice b 4 8) != s.devnum || decide (ofLe (slice b 12 4) ≤ s.authCounter) then ((stPOLICY, 0), s)
  else if s.flag Reg.PKE_STAT_KAT_FAIL then ((stPOLICY, 6), s)
  else
    let n := b.length
    let v := s.pkeVerify (if s.areaDamaged 0 then [] else s.authorityKey) (b.take (n - 64)) (b.drop (n - 64))
    ((if v.1 then stOK else stAUTH, 0), v.2)

/-- The new keys of an anchor rotation; a key of zeros is left unchanged. -/
def rotated (new old : List Byte) : List Byte := if new.isEmpty || new.all (· == 0) then old else new

/-- An authority command ends (R461, R505): E_151, the AUTHORITY record when the counter was accepted, and its answer: status, writes applied, the recorded counter;
cause 6 where PKE failed its self-test (R541). -/
def State.authEnd (s : State) (w : Auth) (status : Nat) (counted : Bool) (cause : Nat := 0) : State :=
  let s1 := State.raise { s with auth := none } 151
  let s2 := if counted then s1.journal blkKEY 0x0042 (leBytes 4 w.ctr ++ leBytes 1 w.ver ++ leBytes 1 w.n ++ leBytes 1 w.applied) else s1
  match w.source with
  | .queue c => match s2.runningSeq 10 c with
    | some r => s2.complete r blkKEY status cause (leBytes 1 w.applied ++ leBytes 4 s2.authCounter)
    | none => s2
  | .hf => if s2.hft.waits = .auth then s2.tagLate (leBytes 1 status ++ leBytes 1 w.applied ++ leBytes 4 s2.authCounter) 0x9000 else s2

/-- Begin an authority command: the check; then the window is open, and the Locket must accept the raised counter, with the new keys for a rotation. -/
def State.authBegin (s : State) (src : AuthSource) (b : List Byte) : State :=
  let c := s.authCheck b
  let w : Auth := { source := src, ver := ofLe (slice b 0 1), ctr := ofLe (slice b 12 4), n := ofLe (slice b 1 1), left := authWrites b, openedAt := s.now,
                    newAuthority := if ofLe (slice b 0 1) = 2 then slice b 16 64 else [], newMaker := if ofLe (slice b 0 1) = 2 then slice b 80 64 else [] }
  if c.1.1 ≠ stOK then c.2.authEnd { w with applied := 0 } c.1.1 false c.1.2
  else
    let items := c.2.anchorItems (rotated w.newAuthority s.authorityKey) (rotated w.newMaker s.makerKey) w.ctr
    State.lktSubmit { c.2 with auth := some w } .anchor items

/-- The Locket has settled the raised counter (R460): the writes begin, or the command ends with NV_FAIL. A rotation ends here (R462). -/
def State.authCounted (s : State) (x : LktWrite) : State :=
  match s.auth with
  | none => s
  | some w =>
    if !x.state.ok then s.authEnd w stNV false
    else if w.ver = 2 then s.authEnd w stOK true
    else { s with auth := some { w with phase := .writes } }

/-- The window closes (R31): every admitted write has taken effect or been refused, and nothing is left to admit. -/
def State.authClose (s : State) : State :=
  match s.auth with
  | some w => if w.phase = .writes ∧ w.left.isEmpty ∧ w.waiting.isNone then s.authEnd w stOK true else s
  | none => s

end Sys2Proof.Machine
end

