-- ==== Sys2Proof/Machine/GovOps.lean ====
section
/-! DEFINITION. The release governor and CAN as operations (chapter 09): rate history, ticket outcomes, Signets, release ends, bus counters. -/
namespace Sys2Proof.Machine

/-! ## The rate history (R426 to R428): six entries of 8 bytes at 0x06C0, oldest first: TIME 6 (TIME form), FLAGS 1 ([0] used, [1] open), 0; the grant counter of
the newest assertion, 4 bytes at 0x06F8 (assumption 20) -/

/-- Logical address of the history. -/
def histAddr : Nat := 0x6C0

/-- Entry i: its TIME, used, open. -/
def State.histTime (s : State) (i : Nat) : Nat := s.lktWord (histAddr + 8 * i) 6
def State.histUsed (s : State) (i : Nat) : Bool := bit (s.lktWord (histAddr + 8 * i + 6) 1) 0
def State.histOpen (s : State) (i : Nat) : Bool := s.histUsed i && bit (s.lktWord (histAddr + 8 * i + 6) 1) 1

/-- The grant counter of the newest assertion. -/
def State.histGrant (s : State) : Nat := s.lktWord 0x6F8 4

/-- Whether entry i lies within the last 60,000 ms (R427, R428): an entry that counts as made at the end of the logic stage is counted on the timebase. -/
def State.histCounts (s : State) (i : Nat) : Bool :=
  let within (t n : Nat) : Bool := decide (t ≤ n ∧ n < t + 60000)
  let t := s.histTime i
  s.histUsed i &&
    (if s.gov.restarted.contains t then within 0 (s.timebase / 1000)
     else if bit t 47 then within (low 47 t) (s.timebase / 1000)
     else match s.rtcMs with | some n => within t n | none => false)

/-- RATE_USED. -/
def State.rateUsed (s : State) : Nat := ((List.range 6).filter s.histCounts).length

/-- Whether the history cannot be read (R871). -/
def State.histDamaged (s : State) : Bool := s.damagedRange histAddr 48

/-- The 48 bytes with a new entry at the end, open, all others closed. -/
def State.histPush (s : State) : List Byte :=
  (List.range 5).flatMap (fun i => leBytes 6 (s.histTime (i + 1)) ++ leBytes 1 (ofBool (s.histUsed (i + 1))) ++ [0]) ++ leBytes 6 s.timeForm ++ [3, 0]

/-- The items of step 1 of R416: the raised counter, and for START the history with its new entry. -/
def State.grantItems (s : State) (start : Bool) (grant : Nat) : List LktItem :=
  LktItem.ring 1 grant :: (if start then s.byteItems (runWrite histAddr s.histPush ++ runWrite 0x6F8 (leBytes 4 grant)) else [])

/-- Close every open entry. -/
def State.histClose (s : State) : State :=
  let l := (List.range 6).filterMap (fun i => if s.histOpen i then some (histAddr + 8 * i + 6, (1 : Byte)) else none)
  if l.isEmpty then s else (s.lktNow (s.byteItems l)).2

/-- R428, at the end of the logic stage: the entries whose 60 s begin again, by their TIMEs. One that an earlier logic stage made begin again still counts on the timebase, so it does so with
those in timebase form (DEDUCED, assumption 112). -/
def State.restartHistory (s : State) (all : Bool) : State :=
  let l := ((List.range 6).filter (fun i => s.histUsed i && (all || bit (s.histTime i) 47 || s.gov.restarted.contains (s.histTime i)))).map s.histTime
  { s with gov := { s.gov with restarted := l.eraseDups } }

/-- R871: a damaged history is rewritten with six closed entries made now. -/
def State.repairHistory (s : State) : State :=
  if !s.histDamaged then s
  else
    let one := leBytes 6 s.timeForm ++ [1, 0]
    (s.lktNow (s.runItems histAddr ((List.range 6).flatMap (fun _ => one)))).2

/-! ## Ends of a release (R422, R425) -/

/-- The RELEASE_END record. -/
def State.releaseRecord (s : State) (reason form duration grant : Nat) : State :=
  s.journal blkGOV 0x0023 (leBytes 1 reason ++ leBytes 6 form ++ leBytes 4 (min duration 0xFFFFFFFF) ++ leBytes 4 grant)

/-- Drive both outputs inactive, where they are driven at all. -/
def State.outputsOff (s : State) : State :=
  if s.pins.relA.isSome then { s with pins := { s.pins with relA := some false, relBn := some true } } else s

/-- A release ends for one of the reasons 1 to 4: the outputs, E_141, GOV_LAST.END, the record, the open flag. -/
def State.releaseEnd (s : State) (reason : Nat) : State :=
  match s.gov.rel with
  | none => s
  | some r =>
    let s1 := State.outputsOff { s with gov := { s.gov with rel := none } }
    (((s1.raise 141).set Reg.GOV_LAST_END reason).releaseRecord reason r.form ((s.now - r.assertedAt) / 1000) r.grant).histClose

/-- A release that ended with this device's power, reset or role (reasons 5 and 6) is recorded from the open history entry by the device that can (R425, R444). Neither the end nor
its DURATION can be known: a free value. -/
def State.releaseLate (s : State) (reason : Nat) : State :=
  match (List.range 6).find? s.histOpen with
  | none => s
  | some i =>
    let d := s.draw 4
    ((d.2.releaseRecord reason (s.histTime i) (ofLe d.1) s.histGrant).set Reg.GOV_LAST_END reason).histClose

/-! ## Tickets (Table 09-2, Table 09-1) -/

/-- The tamper lock (R844, R871). -/
def State.tamperLocked (s : State) : Bool := s.tmp.locked || s.damagedRange 0xF00 64

/-- Signet KIND of a ticket type. -/
def signetKind (typ : Nat) : Nat := if typ = 1 then 2 else if typ = 2 then 1 else if typ = 3 then 4 else 3

/-- Fields of a ticket (Table 08-8). -/
def ticketType (p : List Byte) : Nat := ofLe (slice p 0 1)
def ticketZone (p : List Byte) : Nat := ofLe (slice p 1 1)
def ticketCred (p : List Byte) : Nat := ofLe (slice p 2 2)
def ticketSession (p : List Byte) : Nat := ofLe (slice p 4 4)
def ticketNumber (p : List Byte) : Nat := ofLe (slice p 8 4)
def ticketExpiry (p : List Byte) : Nat := ofLe (slice p 12 6)
def ticketFlags (p : List Byte) : Nat := ofLe (slice p 20 1)

/-- The Signet key slot. -/
def State.signetSlot (s : State) : Nat := s.reg Reg.GOV_SIGNET_CFG_KEY_SLOT

/-- Whether the Locket refuses GOV's writes (order 8): WP_N low, a worn store, or damage that R871 names. -/
def State.govNvFails (s : State) (start : Bool) : Bool :=
  s.pins.wpLow || s.lkt.worn || s.areaDamaged 1 || (start && s.histDamaged) ||
    s.ringHurt 1 || (match s.ringOf 1 with | some x => x.damaged || x.worn | none => true)

/-- The first of orders 1 to 10 that applies: status and cause; none: the ticket passes. -/
def State.ticketOutcome (s : State) (p : List Byte) : Option (Nat × Nat) :=
  let start := ticketType p == 2
  if ticketExpiry p < s.timebase then some (stSTALE, 1)
  else if !s.flag Reg.GOV_CTRL_EN || s.isStandby then some (stPOLICY, 2)
  else if s.tamperLocked then some (stLOCKOUT, 3)
  else if start && s.flag Reg.GOV_STAT_OUT_FAULT then some (stPOLICY, 4)
  else if start && s.gov.rel.isSome then some (stOK, 5)
  else if start && !s.histDamaged && decide (s.reg Reg.GOV_REL_CFG_MAX_RATE ≤ s.rateUsed) then some (stPOLICY, 6)
  else if ticketType p == 3 && !s.flag Reg.GOV_SIGNET_CFG_DRIVER_EN then some (stOK, 7)
  else if s.govNvFails start then some (stNV, 8)
  else if (s.slot s.signetSlot).state = .spent then some (stSPENT, 9)
  else if s.ringValue 1 = 0xFFFFFFFF then some (stPOLICY, 10)
  else none

/-- A ticket completes in GOV (R419, R446): GOV_LAST, GOV_LAST_TICKET, the GRANT record, the error counts, E_143. -/
def State.ticketDone (s : State) (p : List Byte) (status cause grant : Nat) (degraded : Bool) : State :=
  let s1 := ((s.set Reg.GOV_LAST_TYPE (ticketType p)).set Reg.GOV_LAST_STATUS status).set Reg.GOV_LAST_CAUSE cause
  let s2 := s1.set Reg.GOV_LAST_TICKET_NUMBER (ticketNumber p)
  let s3 := if cause = 1 then s2.bump Reg.GOV_ERR_STALE else if cause = 6 then s2.bump Reg.GOV_ERR_RATE else s2
  let s4 := s3.journal blkGOV 0x0022 (s3.refOf (ticketCred p) ++ leBytes 4 (ticketNumber p) ++ leBytes 1 (ticketType p) ++ leBytes 1 status ++ leBytes 1 cause ++
    leBytes 1 (ofBool degraded) ++ leBytes 2 (ticketCred p) ++ leBytes 4 grant)
  if status = stOK then s4 else s4.raise 143

/-- The ticket at hand ends. -/
def State.ticketEnd (s : State) (t : GovTicket) (status cause grant : Nat) : State :=
  State.ticketDone { s with gov := { s.gov with ticket := none } } t.payload status cause grant t.degraded

/-! ## Signets (R430, R431) -/

/-- Bytes 0 to 23. -/
def State.signetHead (s : State) (t : GovTicket) (nonce : List Byte) : List Byte :=
  let sec := match s.rtcMs with | some m => low 32 (m / 1000) | none => 0
  let flags := ofBool t.degraded + 2 * (ticketFlags t.payload % 2) + 4 * ofBool s.rtcMs.isSome
  leBytes 1 1 ++ leBytes 1 (signetKind (ticketType t.payload)) ++ beBytes 4 (ofLe (slice nonce 0 4)) ++ beBytes 8 (ofLe (slice nonce 4 8)) ++ beBytes 4 t.grant ++
    beBytes 4 sec ++ leBytes 1 flags ++ [0]

/-- Bytes 24 to 47. -/
def State.signetBody (s : State) (p : List Byte) : List Byte :=
  beBytes 2 (if ticketType p = 4 then 0xFFFF else ticketCred p) ++ leBytes 1 (ticketZone p) ++ [0] ++ beBytes 4 (ticketNumber p) ++ beBytes 4 (ticketSession p) ++
    beBytes 2 (10 * s.reg Reg.GOV_SIGNET_CFG_LIFE) ++ List.replicate 10 0

/-- The 64 bytes of a Signet: the nonce is DEVICE ‖ INVOC as bytes 2 to 13 show it. -/
def State.signetBytes (s : State) (t : GovTicket) (key nonce : List Byte) : List Byte :=
  let h := s.signetHead t nonce
  let c := gcmSeal key (slice h 2 12) h (s.signetBody t.payload)
  h ++ c.1 ++ c.2

/-- A controller. -/
def State.canCtl (s : State) (c : Nat) : CanCtl := if c = 0 then s.can.c0 else s.can.c1

/-- Replace a controller. -/
def State.setCan (s : State) (c : Nat) (x : CanCtl) : State :=
  if c = 0 then { s with can := { s.can with c0 := x } } else { s with can := { s.can with c1 := x } }

/-- Hand a Signet to the controllers that BUS names (R434): the request passes through Q_45 in this step. -/
def State.sendSignet (s : State) (t : GovTicket) (frame : List Byte) : State :=
  let kind := signetKind (ticketType t.payload)
  let s1 := (s.emit 45 blkGOV (leBytes 1 kind ++ [0, 0, 0] ++ leBytes 4 t.grant)).setRing 45 []
  let put (u : State) (c : Nat) : State :=
    if !bit (s.reg Reg.GOV_SIGNET_CFG_BUS) c then u
    else
      let f : CanFrame := { id := s.regI Reg.GOV_SIGNET_ID_ID (kind - 1), xtd := s.regI Reg.GOV_SIGNET_ID_XTD (kind - 1) == 1, fd := true,
                            brs := s.regI Reg.CAN_CTRL_BRS c == 1, data := frame }
      let g : Signet := { frame := f, grant := t.grant, kind := kind, copy := 0, left := s.reg Reg.GOV_SIGNET_CFG_REPEATS, queued := true, at_ := s.now, told := false }
      let x := u.canCtl c
      u.setCan c { x with signets := x.signets ++ [g] }
  put (put s1 0) 1

/-- Assert the release (R416, R420, R421): both outputs in one cycle, E_140. -/
def State.releaseAssert (s : State) (grant : Nat) : State :=
  let r : Release := { assertedAt := s.now, form := s.timeForm, running := s.pins.engRun, grant := grant }
  let s1 : State := { s with gov := { s.gov with rel := some r } }
  State.raise { s1 with pins := { s1.pins with relA := some true, relBn := some false } } 140

/-- The ticket at hand is given up: its counter write and its Signet's sealing are dropped, its history entry is closed (R426), and it ends with a status and cause. -/
def State.dropTicket (s : State) (status cause : Nat) : State :=
  match s.gov.ticket with
  | none => s
  | some t =>
    let s1 : State := { s with lkt := { s.lkt with writes := s.lkt.writes.filter (fun w => w.writer != .grantCounter) } }
    let s2 := if ticketType t.payload = 2 then s1.histClose else s1
    (s2.dropEngineOps ringGov).ticketEnd t status cause (if t.phase = .seal then t.grant else 0)

/-- A class L reset of GOV: reason 4; the ticket at hand ends with RESET_ABORT (R856: Table 09-2 gives no cause for it, so 0xF5). -/
def State.govReset (s : State) : State :=
  let s1 := s.releaseEnd 4
  State.dropTicket { s1 with gov := { s1.gov with mismatch := 0 } } stRESET 0xF5

/-! ## CAN (R438, R447) -/

/-- CAN_STAT.STATE. -/
def State.canState (s : State) (c : Nat) : Nat :=
  let x := s.canCtl c
  if s.regI Reg.CAN_CTRL_EN c = 0 then 3 else if x.busOff then 2 else if 127 < x.tec ∨ 127 < x.rec_ then 1 else 0

/-- Whether a controller takes part in the bus. -/
def State.canOn (s : State) (c : Nat) : Bool := decide (s.canState c < 2)

/-- Whether an identifier is a Signet's. -/
def State.signetId (s : State) (id : Nat) (xtd : Bool) : Bool :=
  (List.range 4).any (fun k => s.regI Reg.GOV_SIGNET_ID_ID k == id && (s.regI Reg.GOV_SIGNET_ID_XTD k == 1) == xtd)

/-- Data lengths of ISO 11898-1. -/
def canLengths : List Nat := [0, 1, 2, 3, 4, 5, 6, 7, 8, 12, 16, 20, 24, 32, 48, 64]

/-- The least length of ISO 11898-1 that holds n bytes. -/
def canLength (n : Nat) : Nat := (canLengths.find? (fun l => decide (n ≤ l))).getD 64

/-- TEC and REC after a frame sent, a frame received, an error (ISO 11898-1; PRESUMED). After a reception with REC above 127, REC is a value from 119 to 127: `free`. -/
def CanCtl.sentOk (x : CanCtl) : CanCtl := { x with tec := x.tec - 1 }
def CanCtl.heardOk (x : CanCtl) (free : Nat) : CanCtl := { x with rec_ := if 127 < x.rec_ then 119 + free % 9 else x.rec_ - 1 }
def CanCtl.error (x : CanCtl) (tx eight : Bool) : CanCtl :=
  if tx then
    let t := if eight then x.tec + 8 else x.tec
    if 255 < t then { x with tec := 255, busOff := true } else { x with tec := t }
  else { x with rec_ := min 255 (x.rec_ + (if eight then 8 else 1)) }

/-- Whether a frame passes filter f of a controller: an 11-bit identifier is compared as a number of 29 bits. -/
def State.canPasses (s : State) (c f : Nat) (id : Nat) : Bool :=
  let i := 16 * c + f
  s.regI Reg.CAN_FILT_EN i == 1 && (id &&& s.regI Reg.CAN_MASK_MASK i) == (s.regI Reg.CAN_FILT_ID i &&& s.regI Reg.CAN_MASK_MASK i)

/-- A CAN_RECV completes with a frame: identifier 4, flags 1 ([0] XTD, [1] FD, [2] BRS, [3] remote frame), length 1, then the data, or they go to the destination when longer than 32
bytes. -/
def State.canRecvDone (s : State) (r : Running) (f : CanFrame) : State :=
  let h := leBytes 4 f.id ++ leBytes 1 (ofBool f.xtd + 2 * ofBool f.fd + 4 * ofBool f.brs + 8 * ofBool f.rtr) ++ leBytes 1 f.data.length
  if f.data.length ≤ 32 then s.complete r blkCAN stOK 0 (h ++ f.data)
  else if s.cryptoRange r.entry.master r.dest f.data.length && decide (f.data.length ≤ r.destLen) then (s.setBytes r.dest f.data).complete r blkCAN stOK 0 h
  else s.complete r blkCAN stPOLICY 0 []

end Sys2Proof.Machine
end

