-- ==== Sys2Proof/Machine/Live.lean ====
section
/-! DEFINITION. What the live fields read (R16): each is a function of the state, the instance and the reading master. -/
namespace Sys2Proof.Machine

/-- A live field's id and its value. -/
abbrev LiveEntry := Nat × (State → Nat → Nat → Nat)

/-- Bits of the grants that a master holds. -/
def grantMask (s : State) (m : Nat) (w : Bool) : Nat := maskOf ((s.lkt.grants.filter (fun g => g.master == m && g.write == w)).map Grant.region)

/-- Locket (Table 12-11). -/
def liveLKT : List LiveEntry :=
  ([(Reg.LKT_STAT_MOUNTED.id, fun s _ _ => ofBool s.lkt.mounted),
   (Reg.LKT_STAT_KEPT.id, fun s _ _ => ofBool s.lkt.kept),
   (Reg.LKT_STAT_WTHRU.id, fun s _ _ => ofBool (!s.pins.holdupReady)),
   (Reg.LKT_STAT_WP.id, fun s _ _ => ofBool s.pins.wpLow),
   (Reg.LKT_STAT_WORN.id, fun s _ _ => ofBool s.lkt.worn),
   (Reg.LKT_STAT_RING_DIFF.id, fun s _ _ => ofBool s.lkt.ringDiff),
   (Reg.LKT_STAT_BACKLOG.id, fun s _ _ => backlogCount s.lkt.backlog),
   (Reg.LKT_STAT_RECLAIM.id, fun s _ _ =>
     ofBool ([s.lkt.mainA, s.lkt.mainB, s.lkt.fieldA, s.lkt.fieldB].any s.reclaims)),
   (Reg.LKT_SEQ_NEXT.id, fun s _ _ => s.lkt.nextSeq),
   (Reg.LKT_MOUNT_REPAIRS.id, fun s _ _ => s.lkt.repairCount),
   (Reg.LKT_MOUNT_TIES.id, fun s _ _ => s.lkt.ties)] : List LiveEntry) ++
  ([(Reg.LKT_MOUNT_DAMAGED.id, fun s _ _ => min 255 s.lkt.damaged.length),
   (Reg.LKT_WEAR_MAX_ERASE.id, fun s _ _ => max (max s.lkt.mainA.maxErase s.lkt.mainB.maxErase) (max s.lkt.fieldA.maxErase s.lkt.fieldB.maxErase)),
   (Reg.LKT_WEAR_RETIRED.id, fun s _ _ => s.lkt.mainA.retiredCount + s.lkt.mainB.retiredCount + s.lkt.fieldA.retiredCount + s.lkt.fieldB.retiredCount),
   (Reg.LKT_GRANT_READ.id, fun s _ m => grantMask s m false),
   (Reg.LKT_GRANT_WRITE.id, fun s _ m => grantMask s m true),
   (Reg.LKT_GRANT_REFUSING.id, fun s _ m => ofBool (s.unlockRefused m)),
   (Reg.LKT_RING_INFO_BASE.id, fun s _ _ => match s.ringOf (s.reg Reg.LKT_RING_QRY_RING) with | some r => r.base | none => 0),
   (Reg.LKT_RING_INFO_PAGES.id, fun s _ _ => match s.ringOf (s.reg Reg.LKT_RING_QRY_RING) with | some r => r.pages | none => 0),
   (Reg.LKT_RING_INFO_EN.id, fun s _ _ => ofBool (s.ringOf (s.reg Reg.LKT_RING_QRY_RING)).isSome),
   (Reg.LKT_RING_INFO_WORN.id, fun s _ _ => match s.ringOf (s.reg Reg.LKT_RING_QRY_RING) with | some r => ofBool r.worn | none => 0),
   (Reg.LKT_RING_LO_LO.id, fun s _ _ => s.ringValue (s.reg Reg.LKT_RING_QRY_RING)),
   (Reg.LKT_RING_HI_HI.id, fun s _ _ => s.ringValue (s.reg Reg.LKT_RING_QRY_RING) / 2 ^ 32),
   (Reg.LKT_RING_WEAR_PASSES.id, fun s _ _ => match s.ringOf (s.reg Reg.LKT_RING_QRY_RING) with | some r => r.passes | none => 0)] : List LiveEntry)

/-- Journal (Table 13-9). -/
def liveJNL : List LiveEntry :=
  [(Reg.JNL_STAT_STATE.id, fun s _ _ => s.jnlState),
   (Reg.JNL_STAT_PENDING.id, fun s _ _ => min 255 s.jnl.heads.length),
   (Reg.JNL_NEXT_LO_LO.id, fun s _ _ => s.jnl.next),
   (Reg.JNL_NEXT_HI_HI.id, fun s _ _ => s.jnl.next / 2 ^ 32),
   (Reg.JNL_ACK_LO_LO.id, fun s _ _ => s.jnl.ackNext),
   (Reg.JNL_ACK_HI_HI.id, fun s _ _ => s.jnl.ackNext / 2 ^ 32),
   (Reg.JNL_CAP_BLOCKS.id, fun s _ _ => s.jnlUsable),
   (Reg.JNL_CAP_BAD.id, fun s _ _ => s.jnl.badBlocks),
   (Reg.JNL_USED_SLOTS.id, fun s _ _ => s.jnl.used)]

/-- The slot that KEY_SLOT_QRY names. -/
def qrySlot (s : State) : Slot := s.slot (s.reg Reg.KEY_SLOT_QRY_INDEX)

/-- Seconds left of the host's level (Table 10-8). -/
def levelRemain (s : State) : Nat :=
  match s.priv.elevated, s.priv.driver with
  | some e, _ => 1800 - min 1800 ((s.now - e.2) / 1000000)
  | none, some d => 600 - min 600 ((s.now - d.2) / 1000000)
  | none, none => 0

/-- Keys, credentials, privilege (Tables 10-8, 10-8a). -/
def liveKEY : List LiveEntry :=
  ([(Reg.KEY_STAT_KEK_GEN.id, fun s _ _ => s.key.kekGen),
   (Reg.KEY_STAT_NEAR.id, fun s _ _ => min 255 (s.key.slots.filter (fun p => p.2.near)).length),
   (Reg.KEY_STAT_SPENT.id, fun s _ _ => min 255 (s.key.slots.filter (fun p => p.2.state == .spent)).length),
   (Reg.KEY_STAT_VAULT_LOST.id, fun s _ _ => ofBool s.key.vaultLost),
   (Reg.KEY_SLOT_INFO_STATE.id, fun s _ _ => match (qrySlot s).state with | .empty => 0 | .active => 1 | .draining => 2 | .spent => 3),
   (Reg.KEY_SLOT_INFO_NEAR.id, fun s _ _ => ofBool (qrySlot s).near),
   (Reg.KEY_SLOT_INFO_TYPE.id, fun s _ _ => (qrySlot s).type),
   (Reg.KEY_SLOT_INFO_USES.id, fun s _ _ => (qrySlot s).uses),
   (Reg.KEY_SLOT_INFO_OWNER.id, fun s _ _ => (qrySlot s).owner),
   (Reg.KEY_SLOT_INFO_BOUND.id, fun s _ _ => (qrySlot s).bound),
   (Reg.KEY_SLOT_INFO_NONCE.id, fun s _ _ => ofBool (qrySlot s).deviceNonce),
   (Reg.KEY_SLOT_INFO_LIMIT_EXP.id, fun s _ _ => (qrySlot s).limitExp)] : List LiveEntry) ++
  ([(Reg.KEY_SLOT_INFO_INFLIGHT.id, fun s _ _ => min 63 (s.inFlightCmds (s.reg Reg.KEY_SLOT_QRY_INDEX)).length),
   (Reg.KEY_SLOT_USES_USED.id, fun s _ _ => min 0xFFFFFFFF (qrySlot s).count),
   (Reg.KEY_INVOC_LO_LO.id, fun s _ _ => s.key.invocNext),
   (Reg.KEY_INVOC_HI_HI.id, fun s _ _ => s.key.invocNext / 2 ^ 32),
   (Reg.KEY_PRIV_HOST_LEVEL.id, fun s _ _ => s.hostLevel),
   (Reg.KEY_PRIV_REMAIN.id, fun s _ _ => levelRemain s),
   (Reg.KEY_PRIV_DRIVER_CRED.id, fun s _ _ => match s.priv.driver with | some d => d.1 | none => 0),
   (Reg.CRD_STAT_TABLE_VALID.id, fun s _ _ => ofBool s.crd.tableValid),
   (Reg.CRD_STAT_BANK.id, fun s _ _ => s.crd.bank),
   (Reg.CRD_STAT_LEARNING.id, fun s _ _ => ofBool s.crd.learn.isSome),
   (Reg.CRD_STAT_DEGRADED.id, fun s _ _ => ofBool s.crd.degraded),
   (Reg.CRD_STAT_COUNT.id, fun s _ _ => s.crd.count),
   (Reg.CRD_GEN_GENERATION.id, fun s _ _ => s.crd.generation)] : List LiveEntry) ++
  ([(Reg.CRD_ANS_PRIV.id, fun s _ _ => s.crdMask (s.reg Reg.CRD_QRY_INDEX)),
   (Reg.CRD_ANS_USED.id, fun s _ _ => ofBool (s.crdTid (s.reg Reg.CRD_QRY_INDEX) != 0)),
   (Reg.CRD_ANS_IN_WINDOW.id, fun s _ _ => ofBool (s.inValidity (s.reg Reg.CRD_QRY_INDEX))),
   (Reg.CRD_ANS_CELL.id, fun s _ _ => s.crdCell (s.reg Reg.CRD_QRY_INDEX))] : List LiveEntry)

/-- The engine with number e. -/
def aeaOf (s : State) (e : Nat) : AeaEngine := if e = 0 then s.crypto.aea0 else s.crypto.aea1

/-- Crypto engines (Tables 11-9 to 11-12). -/
def liveCrypto : List LiveEntry :=
  [(Reg.AEA_STAT_BUSY.id, fun s i _ => ofBool (aeaOf s i).op.isSome),
   (Reg.AEA_STAT_CLASS.id, fun s i _ => match (aeaOf s i).op with
     | none => 0
     | some o => match o.cls with | .safety => 1 | .timed => 2 | .record => 3 | .bulk => 4),
   (Reg.AEA_STAT_SUSPENDED.id, fun s i _ => ofBool (aeaOf s i).susp.isSome),
   (Reg.PKE_STAT_BUSY.id, fun s _ _ => ofBool s.crypto.pke.isSome),
   (Reg.PKE_STAT_OP.id, fun s _ _ => match s.crypto.pke with
     | none => 0
     | some o => match o.kind with | .sign => 1 | .verify => 2 | .ecdh => 3 | .keygen => 4 | .validate => 5),
   (Reg.PKE_STAT_KAT_DONE.id, fun s _ _ => ofBool s.crypto.pkeKat),
   (Reg.HSH_STAT_BUSY.id, fun s _ _ => ofBool (!s.crypto.hsh.isEmpty)),
   (Reg.HSH_STAT_CONTEXTS.id, fun s _ _ => s.crypto.hsh.length),
   (Reg.RNG_STAT_STATE.id, fun s _ _ => match s.crypto.rng.state with | .startup => 0 | .ok => 1 | .restart => 2 | .failed => 3 | .unseeded => 4),
   (Reg.RNG_STAT_SEED_ONLY.id, fun s _ _ => ofBool s.crypto.rng.seedOnly),
   (Reg.RNG_AGE_MS.id, fun s _ _ => min 0xFFFFFFFF ((s.now - s.crypto.rng.lastReseed) / 1000))]

/-- The events of each vector (Table 15-9): first and last. -/
def vectorRange (v : Nat) : Nat × Nat :=
  if v < 32 then (v, v)
  else [(48, 55), (56, 59), (60, 63), (64, 79), (80, 95), (96, 103), (104, 111), (112, 127), (128, 135), (136, 143), (144, 151),
        (152, 159), (160, 167), (168, 175), (176, 179), (180, 183), (184, 187), (188, 191)].getD (v - 32) (1, 0)

/-- EVT_EN of a master as one 192-bit set. -/
def evtEnabled (s : State) (m : Nat) : Nat := (List.range 6).foldl (fun n w => n + s.regB Reg.EVT_EN_EN w m * 2 ^ (32 * w)) 0

/-- Pending bits of a master. -/
def evtPending (s : State) (m : Nat) : Nat :=
  if m = 1 then s.evt.sec.toNat else if m = 2 then s.evt.app.toNat else if m = 3 then s.evt.host.toNat else 0

/-- R752: vector v. -/
def vectorSet (s : State) (v : Nat) : Bool :=
  let r := vectorRange v
  decide (v < 50) && bits (evtPending s 3 &&& evtEnabled s 3) r.1 (r.2 + 1 - r.1) != 0

/-- The vectors V_0 to V_63 as one word. -/
def vectors (s : State) : Nat := maskOf ((List.range 50).filter (vectorSet s))

/-- R751: a core's interrupt line. -/
def coreIrq (s : State) (m : Nat) : Bool := evtPending s m &&& evtEnabled s m != 0

/-- R753: whether IRQ_k is asserted in run. -/
def irqAsserted (s : State) (k : Nat) : Bool :=
  (List.range 50).any (fun v => s.regI Reg.EVT_IRQ_MAP_EN v == 1 && s.regI Reg.EVT_IRQ_MAP_PIN v == k && vectorSet s v)

/-- The message of mailbox m. -/
def boxOf (s : State) (m : Nat) : Option Message := (s.mbx.boxes.getD m none)

/-- Host interface, queues, mailboxes, events (Tables 15-11 to 15-14). -/
def liveHost : List LiveEntry :=
  [(Reg.HIF_EE_WIP.id, fun s _ _ => ofBool s.hif.wip),
   (Reg.HIF_EE_WP.id, fun s _ _ => ofBool s.pins.wpLow),
   (Reg.QUE_RING_STAT_FILL.id, fun s i _ => (s.ring i).length),
   (Reg.QUE_RING_STAT_FULL.id, fun s i _ => ofBool (decide (s.depth i ≤ (s.ring i).length + (if 16 ≤ i ∧ i < 32 then s.reserved (i - 16) else 0)))),
   (Reg.QUE_INT_SEQ_NEXT.id, fun s i _ => s.seqOf (40 + i)),
   (Reg.MBX_STAT_FULL.id, fun s _ _ => maskOf ((List.range 8).filter (fun m => (boxOf s m).isSome))),
   (Reg.MBX_STAT_CROSS.id, fun s _ _ => s.mbx.cross.toNat),
   (Reg.MBX_RX_HDR_SENDER.id, fun s i _ => match boxOf s i with | some x => x.sender | none => 0),
   (Reg.MBX_RX_HDR_LEN.id, fun s i _ => match boxOf s i with | some x => x.words.length | none => 0),
   (Reg.MBX_RX_HDR_AGE.id, fun s i _ => match boxOf s i with | some x => min 0xFFFF (s.now - x.placedAt) | none => 0),
   (Reg.MBX_RX_DATA.id, fun s i _ => match boxOf s (i / 16) with | some x => x.words.getD (i % 16) 0 | none => 0),
   (Reg.EVT_PEND_PEND.id, fun s i m => bits (evtPending s m) (32 * i) 32),
   (Reg.EVT_VEC_LO_V.id, fun s _ _ => vectors s),
   (Reg.EVT_VEC_HI_V.id, fun s _ _ => vectors s / 2 ^ 32)]

/-- Pair link (Table 16-7). -/
def liveTSU : List LiveEntry :=
  [(Reg.TSU_STAT_ROLE.id, fun s _ _ => ofBool (s.tsu.role == .active)),
   (Reg.TSU_STAT_ID.id, fun s _ _ => ofBool s.tsu.secondary),
   (Reg.TSU_STAT_LINK.id, fun s _ _ => match s.tsu.link with | .down => 0 | .training => 1 | .keying => 2 | .up => 3),
   (Reg.TSU_STAT_DEGRADED.id, fun s _ _ => ofBool s.pairDegraded),
   (Reg.TSU_STAT_ARB.id, fun s _ _ => ofBool s.tsu.arbHigh),
   (Reg.TSU_STAT_HOLD.id, fun s _ _ => ofBool s.tsu.drivesArb),
   (Reg.TSU_STAT_RESYNC.id, fun s _ _ => ofBool (decide (0 < s.tsu.stage))),
   (Reg.TSU_STAT_STAGE.id, fun s _ _ => s.tsu.stage),
   (Reg.TSU_HB_AGE.id, fun s _ _ => min 0xFFFF (s.now - s.tsu.lastRx)),
   (Reg.TSU_MSEQ_NEXT.id, fun s _ _ => s.tsu.mseqNext),
   (Reg.TSU_MACK_DONE.id, fun s _ _ => if s.tsu.role == .active then s.tsu.mackDone else s.tsu.mseqApplied),
   (Reg.TSU_TB_OFS_LO_LO.id, fun s _ _ => s.tsu.tbOfs),
   (Reg.TSU_TB_OFS_HI_HI.id, fun s _ _ => s.tsu.tbOfs / 2 ^ 32)]

/-- The instance of a field that lies at an address, if one does. -/
def fieldInst (f : Field) (a : Nat) : Option Nat :=
  if a < f.addr then none
  else
    let d := a - f.addr
    let o := if f.stride = 0 then 0 else d / f.stride
    let r := if f.stride = 0 then d else d % f.stride
    let n := if f.istride = 0 then 0 else r / f.istride
    let rest := if f.istride = 0 then r else r % f.istride
    if rest = 0 ∧ n < f.inner ∧ o * f.inner + n < f.count * f.inner then some (o * f.inner + n) else none

end Sys2Proof.Machine
end

