-- ==== Sys2Proof/Machine/LiveFront.lean ====
section
/-! DEFINITION. Live fields of the front ends, the decision path, power, tamper and configuration blocks. -/
namespace Sys2Proof.Machine

/-- CLK (Table 03-9). LEVEL_CAP includes the cap of a dip (R146). -/
def liveCLK : List LiveEntry :=
  [(Reg.CLK_PERF_GRANTED.id, fun s _ _ => s.pwr.granted),
   (Reg.CLK_PERF_BUSY.id, fun s _ _ => ofBool s.pwr.busy),
   (Reg.CLK_CAPO_STAT_LF_CAP.id, fun s _ _ => s.pwr.lfCap),
   (Reg.CLK_CAPO_STAT_LEVEL_CAP.id, fun s _ _ => max s.pwr.levelCap (if s.pwr.dip then 3 else 0)),
   (Reg.CLK_CAPO_STAT_TJ.id, fun s _ _ => s.pwr.tj),
   (Reg.CLK_CAPO_STAT_PWR_EST.id, fun s _ _ => s.pwr.powerEst),
   (Reg.CLK_CAPO_STAT_THERMAL_STOP.id, fun s _ _ => ofBool s.pwr.thermal),
   (Reg.CLK_DROOP_ACTIVE.id, fun s _ _ => ofBool s.pwr.droop)]

/-- PWR (Table 03-8). A rollback takes one step here, so PHASE never reads 3. -/
def livePWR : List LiveEntry :=
  [(Reg.PWR_SLEEP_STAT_PHASE.id, fun s _ _ => match s.pwr.phase with | .entering _ => 2 | _ => ofBool s.pwr.querying),
   (Reg.PWR_SUPPLY_STAT_DIP.id, fun s _ _ => ofBool s.pwr.dip),
   (Reg.PWR_SUPPLY_STAT_HOLDUP_READY.id, fun s _ _ => ofBool s.pins.holdupReady),
   (Reg.PWR_SUPPLY_STAT_VIO_OK.id, fun s _ _ => ofBool s.pins.vio),
   (Reg.PWR_SUPPLY_STAT_VDRV_OK.id, fun s _ _ => maskOf ((List.range 4).filter (fun b => !s.pwr.vdrvLow.contains b)))]

/-- LFA and TCH (Tables 04-8, 04-9). A partner's burst is a Fret of GLT's (R792). -/
def liveLFA : List LiveEntry :=
  [(Reg.LFA_SCHED_STAT_DESC.id, fun s _ _ => match s.lfa.fret with | some f => f.desc | none => 0),
   (Reg.LFA_SCHED_STAT_ISSUER.id, fun s _ _ => match s.lfa.fret with | some f => if f.issuer = 5 then 1 else f.issuer | none => 0),
   (Reg.LFA_SCHED_STAT_FRETS.id, fun s _ _ => s.lfa.frets),
   (Reg.LFA_CH_STAT_PRESENCE.id, fun s i _ => ofBool (storeGet {} s.lfa.presence i : Presence).present),
   (Reg.TCH_STAT_C.id, fun s i _ => (storeGet {} s.lfa.touch i : Touch).c),
   (Reg.TCH_STAT_TOUCH.id, fun s i _ => ofBool (storeGet {} s.lfa.touch i : Touch).touched)]

/-- GLT_SESS_STAT.STATE of a session's frame. -/
def Downlink.stateCode : Downlink → Nat
  | .wake => 1
  | .round _ | .nextSlot => 2
  | .challenge _ | .again _ | .release _ => 3
  | .measure _ | .report _ _ _ => 4
  | .halt h => if h = 0xFFFF then 5 else 3

/-- GLT_SESS_STAT.STATE of a session's step: a running frame, or what GLT waits for. -/
def GSess.stateCode (g : GSess) : Nat :=
  match g.step with
  | .due d => d.stateCode
  | .air d => d.stateCode
  | .slots => 2
  | .replies => if g.awaits.any (fun a => a.typ == 0x85) then 4 else 3
  | .checking => 3
  | .ranging => 4
  | .aborted _ => 5

/-- Whole seconds left of a lockout, a started second counted whole. -/
def State.lockLeft (s : State) (p : Nat) : Nat := if s.lockInForce p then s.lockSeconds - s.lockAge p else 0

/-- The tokens of a session in the order of GLT_TOKEN_k: those selected, then the released ones, which have left them (R260). -/
def GSess.listed (g : GSess) : List GTok := g.toks.filter (fun t => t.state != 5) ++ g.toks.filter (fun t => t.state == 5)

/-- The k-th token of the open session. -/
def State.tokAt (s : State) (k : Nat) : Option GTok := s.glt.sess.bind (fun g => g.listed[k]?)

/-- GLT, UHF and the authentication engine (Tables 05-10, 05-11, 06-10). -/
def liveGLT : List LiveEntry :=
  ([(Reg.GLT_SESS_STAT_STATE.id, fun s _ _ => match s.glt.sess with | some g => g.stateCode | none => 0),
   (Reg.GLT_SESS_STAT_TAG.id, fun s _ _ => match s.glt.sess with | some g => g.tag | none => 0),
   (Reg.GLT_SESS_STAT_TOKENS.id, fun s _ _ => match s.glt.sess with | some g => g.selected | none => 0),
   (Reg.GLT_SESS_STAT_ROUND.id, fun s _ _ => match s.glt.sess with | some g => g.rounds | none => 0),
   (Reg.GLT_SESS_STAT_Q.id, fun s _ _ => match s.glt.sess with | some g => g.q | none => 0),
   (Reg.GLT_TOKEN_HANDLE.id, fun s k _ => match s.tokAt k with | some t => t.handle | none => 0),
   (Reg.GLT_TOKEN_STATE.id, fun s k _ => match s.tokAt k with | some t => t.state | none => 0),
   (Reg.UHF_STAT_RSSI.id, fun s r _ => if r = 0 then s.glt.uhf0.rssi else s.glt.uhf1.rssi),
   (Reg.UHF_STAT_JAM.id, fun s r _ => ofBool (if r = 0 then s.glt.uhf0.jam else s.glt.uhf1.jam)),
   (Reg.UHF_STAT_LOCKED.id, fun s r _ => ofBool (!(if r = 0 then s.glt.uhf0.unlocked else s.glt.uhf1.unlocked)))] : List LiveEntry) ++
  ([(Reg.GLT_LOCKOUT_STAT_DEVICE.id, fun s _ _ => ofBool s.deviceLocked),
   (Reg.GLT_LOCKOUT_STAT_CREDS.id, fun s _ _ => ((List.range 128).filter s.lockInForce).length),
   (Reg.GLT_LOCKOUT_STAT_DEV_FAILS.id, fun s _ _ => s.recentFails (fun _ => true)),
   (Reg.GLT_LOCKOUT_STAT_DEV_REMAIN.id, fun s _ _ => s.lockLeft 128),
   (Reg.GLT_LOCKOUT_ANS_LOCKED.id, fun s _ _ => ofBool (s.credLocked (s.reg Reg.GLT_LOCKOUT_QRY_INDEX))),
   (Reg.GLT_LOCKOUT_ANS_REMAIN.id, fun s _ _ => match s.credPlace (s.reg Reg.GLT_LOCKOUT_QRY_INDEX) with | some p => s.lockLeft p | none => 0),
   (Reg.GLT_LOCKOUT_ANS_FAILS.id, fun s _ _ => min 7 (s.recentFails (· == s.reg Reg.GLT_LOCKOUT_QRY_INDEX))),
   (Reg.GLT_BTN_PEND_COUNT.id, fun s _ _ => s.glt.pending.length)] : List LiveEntry)

/-- UWB, LOC, VRD (Tables 07-10, 08-11, 08-12). -/
def liveUWB : List LiveEntry :=
  ([(Reg.UWB_STAT_STATE.id, fun s _ _ =>
      if s.fences.stopped.contains blkUWB || s.fences.inReset.contains blkUWB || !s.lfAllowed then 3
      else if s.uwb.block.isSome then 1 else if s.uwb.scan.isSome || s.uwb.cal.isSome then 2 else 0),
   (Reg.UWB_STAT_PLL_LOCK.id, fun s _ _ => ofBool (!s.uwb.pllLost)),
   (Reg.UWB_STAT_QUEUED.id, fun s _ _ => s.uwb.waiting.length),
   (Reg.UWB_TIME_LO_LO.id, fun s _ _ => s.uwbCounter),
   (Reg.UWB_TIME_HI_HI.id, fun s _ _ => s.uwbCounter / 2 ^ 32)] : List LiveEntry) ++
  ([(Reg.LOC_CTRL_MAP_VALID.id, fun s _ _ => ofBool s.loc.mapValid),
   (Reg.LOC_STAT_BUSY.id, fun s _ _ => ofBool (!s.loc.due.isEmpty)),
   (Reg.LOC_STAT_WAITING.id, fun s _ _ => s.loc.due.length),
   (Reg.VRD_TRIG_START.id, fun s _ _ => ofBool (s.stands s.vrd.start)),
   (Reg.VRD_TRIG_ENTRY.id, fun s _ _ => ofBool (s.stands s.vrd.entry)),
   (Reg.VRD_TRIG_ZONE.id, fun s _ _ => match s.vrd.entry with | some t => if s.stands (some t) then t.zone else 0 | none => 0),
   (Reg.VRD_TRIG_WALK_COUNT.id, fun s _ _ => s.vrd.walk)] : List LiveEntry)

/-- Seconds left of START_WAIT, a started second counted whole (R422). -/
def State.waitLeft (s : State) : Nat :=
  match s.gov.rel with
  | some r => if r.running then 0 else (1000000 * s.reg Reg.GOV_REL_CFG_START_WAIT + 999999 - (s.now - r.assertedAt)) / 1000000
  | none => 0

/-- GOV and CAN (Tables 09-9, 09-10). -/
def liveGOV : List LiveEntry :=
  [(Reg.GOV_STAT_REL.id, fun s _ _ => ofBool s.gov.rel.isSome),
   (Reg.GOV_STAT_ENG_RUN.id, fun s _ _ => ofBool s.pins.engRun),
   (Reg.GOV_STAT_START_BTN.id, fun s _ _ => ofBool s.pins.startBtn),
   (Reg.GOV_STAT_HOLD.id, fun s _ _ => match s.gov.rel with | some r => if r.running then 2 else 1 | none => 0),
   (Reg.GOV_STAT_RATE_USED.id, fun s _ _ => s.rateUsed),
   (Reg.GOV_STAT_WAIT_LEFT.id, fun s _ _ => s.waitLeft),
   (Reg.GOV_GRANT_COUNTER.id, fun s _ _ => s.ringValue 1),
   (Reg.CAN_STAT_STATE.id, fun s c _ => s.canState c),
   (Reg.CAN_STAT_TEC.id, fun s c _ => min 255 (s.canCtl c).tec),
   (Reg.CAN_STAT_REC.id, fun s c _ => min 255 (s.canCtl c).rec_)]

/-- HFT (Table 14-9). -/
def liveHFT : List LiveEntry :=
  [(Reg.HFT_STAT_FIELD.id, fun s _ _ => ofBool s.hft.field),
   (Reg.HFT_STAT_POWER.id, fun s _ _ => s.hft.mode),
   (Reg.HFT_STAT_STATE.id, fun s _ _ => match s.hft.st with | .idle => 0 | .active => 1 | .open_ => 2 | .secured => 3),
   (Reg.HFT_STAT_METHOD.id, fun s _ _ => s.hft.method),
   (Reg.HFT_STAT_WRITE_OK.id, fun s _ _ => ofBool s.tagWriteOk),
   (Reg.HFT_STAT_BUSY.id, fun s _ _ => ofBool s.fieldBusy),
   (Reg.HFT_STAT_FAILS.id, fun s _ _ => min 7 s.hft.fails),
   (Reg.HFT_UID_UID.id, fun s _ _ => ofLe s.hft.uid),
   (Reg.HFT_READER_LO_LO.id, fun s _ _ => s.hft.subject),
   (Reg.HFT_READER_HI_HI.id, fun s _ _ => s.hft.subject / 2 ^ 32),
   (Reg.HFT_LAST_SEQ.id, fun s _ _ => s.fieldLastSeq)]

/-- CFG_STAT.JOB of a NOR job. -/
def NorJob.code (j : NorJob) : Nat :=
  match j.area with
  | .image _ => if j.cmd.isSome then 4 else 5
  | .cred _ => 2
  | .setCopy => 3
  | .vault _ => 6

/-- TSU_SYNC, SYS, CFG, TMP (Tables 16-7, 17-10, 17-11, 18-9). -/
def liveSYS : List LiveEntry :=
  [(Reg.TSU_SYNC_LF_OFS.id, fun s _ _ => Config.tsuSync s.now),
   (Reg.TSU_SYNC_SKEW.id, fun s _ _ => Config.tsuSync s.now / 2 ^ 16),
   (Reg.SYS_DEVNUM_LO_LO.id, fun s _ _ => s.devnum),
   (Reg.SYS_DEVNUM_HI_HI.id, fun s _ _ => s.devnum / 2 ^ 32),
   (Reg.SYS_BOOT_CODE.id, fun s _ _ => s.pins.bootStat.getD 0),
   (Reg.SYS_AUTH_OPEN.id, fun s _ _ => match s.auth with | some w => ofBool (w.phase == .writes) | none => 0),
   (Reg.SYS_AUTH_CTR_CTR.id, fun s _ _ => s.authCounter),
   (Reg.CFG_STAT_BUSY.id, fun s _ _ => ofBool (!s.nor.jobs.isEmpty)),
   (Reg.CFG_STAT_JOB.id, fun s _ _ => match s.nor.jobs with | j :: _ => j.code | [] => 0),
   (Reg.CFG_STAT_WP_DRIVE.id, fun s _ _ => ofBool (!s.nor.jobs.isEmpty)),
   (Reg.CFG_STAT_SET_COPY.id, fun s _ _ => ofBool s.setCopyReady),
   (Reg.TMP_STAT_LOCKED.id, fun s _ _ => ofBool s.tamperLocked)]

/-- Live fields of the remaining blocks. -/
def liveFront : List LiveEntry := liveCLK ++ livePWR ++ liveLFA ++ liveGLT ++ liveUWB ++ liveGOV ++ liveHFT ++ liveSYS

end Sys2Proof.Machine
end

