-- ==== Sys2Proof/Machine/RegRead.lean ====
section
/-! DEFINITION. Reading registers: one field, one 32-bit register (R10, R12, R14, R16). -/
namespace Sys2Proof.Machine

/-- Every live field's reading. -/
def liveTable : List LiveEntry := liveLKT ++ liveJNL ++ liveKEY ++ liveCrypto ++ liveHost ++ liveTSU ++ liveFront

/-- What a read of a field gives master m: 0 for WO, the live value, or the stored one. Banked fields give the master's own copy; the password hashes
, K_WS and the internal counters read 0 for all but the masters that chapters 12, 14 and 15 name. -/
def State.readField (s : State) (f : Field) (i m : Nat) : Nat :=
  if f.acc = .wo then 0
  else if f.id = Reg.HFT_WS_KEY_KEY.id then 0
  else if (f.id = Reg.LKT_RPH_HASH.id ∨ f.id = Reg.LKT_WPH_HASH.id ∨ f.id = Reg.QUE_INT_SEQ_NEXT.id) ∧ m ≠ 1 then 0
  else if f.id = Reg.LKT_RGN_DEVICE.id ∧ i < 2 then 1
  else if f.live then
    match liveTable.find? (fun e => e.1 == f.id) with
    | some e => low f.width (e.2 s i m)
    | none => s.regB f i 0
  else s.regB f i (if f.banked then m else 0)

/-- The fields at an address of a list, each with its instance. -/
def fieldsAt (l : List Field) (a : Nat) : List (Field × Nat) := l.filterMap (fun f => (fieldInst f a).map (fun i => (f, i)))

/-- The 32-bit register at an address as master m reads it; reserved bits read 0 (R12), and so does a reserved offset (R14). -/
def State.readReg (s : State) (a m : Nat) : Nat := (fieldsAt Reg.all a).foldl (fun v p => v + s.readField p.1 p.2 m * 2 ^ p.1.lo) 0

/-- A register for a completion: 4 bytes, in its register layout (R872). -/
def State.regBytes (s : State) (f : Field) (i : Nat) : List Byte := leBytes 4 (s.readReg (f.addrAt i) 1)

end Sys2Proof.Machine
end

