-- ==== Sys2Proof/Machine/Locket.lean ====
section
/-! DEFINITION. Meanings of the Locket family (chapter 12): commits, reclaim, unlocks, rings, the Q_6 commands. -/
namespace Sys2Proof.Machine

/-- Whether the erase of a stream's oldest sector is its 90,001st (E_164). -/
def wornHigh (st : Stream) : Bool := (st.sectors.head?.map Sector.erases) == some 90000

/-- A stream by number: 0 main A, 1 main B, 2 field A, 3 field B (Table 12-6). -/
def Lkt.stream (l : Lkt) (k : Nat) : Stream := if k = 0 then l.mainA else if k = 1 then l.mainB else if k = 2 then l.fieldA else l.fieldB

/-- Replace a stream. -/
def Lkt.setStream (l : Lkt) (k : Nat) (st : Stream) : Lkt :=
  if k = 0 then { l with mainA := st } else if k = 1 then { l with mainB := st }
  else if k = 2 then { l with fieldA := st } else { l with fieldB := st }

/-- COMMIT_RECORD (R581, R868): by supply, by hold-up until it ends (R93), or by field energy (R600). -/
def execCommitRecord (ok : Bool) (s : State) : Host.Outcome State Fault Refusal :=
  .next (if !s.pins.vsup && s.pwr.holdupOut && (s.hft.mode != 2 || s.aonLive) then s else match s.commitStep ok with
    | (t, some e) => t.entryCommitted e
    | (t, none) => t)

/-- RECLAIM (R583, R584): due when fewer than 512 erased slots remain; it waits while WP_N is low (R589) and does not run on hold-up. -/
def execReclaim (stream : Fin 4) (eraseOk : Bool) (s : State) : Host.Outcome State Fault Refusal :=
  let st := s.lkt.stream stream
  .next (if !s.reclaims st then s
    else
      let st' := st.reclaim eraseOk
      let l := s.lkt.setStream stream st'
      let s1 : State := { s with lkt := l }
      let s2 := if wornHigh st then s1.raise 164 else s1
      if st'.usable < 2 then
        let l := { s2.lkt with worn := true }
        if s2.lkt.worn then s2 else State.raise { s2 with lkt := l } 165
      else s2)

/-- MOUNT_REPAIR (R589): waits while WP_N is low, and while VSUP is gone: what VHOLD supplies is spent on the backlog alone (R93). -/
def execMountRepair (s : State) : Host.Outcome State Fault Refusal := .next (if s.pins.wpLow || !s.pins.vsup then s else s.repairAll)

/-- LKT_UNLOCK_GO (R564, R566): with the master's own copy of password, region and kind. -/
def execLktUnlockGo (master : Nat) (s : State) : Host.Outcome State Fault Refusal :=
  .next (if s.mayWriteField master Reg.LKT_UNLOCK_GO then
    (s.unlock master (s.regB Reg.LKT_UNLOCK_REGION 0 master) (s.regB Reg.LKT_UNLOCK_KIND 0 master == 1) (storeGet [] s.lkt.pw master)).1
  else s.writeRefused master Reg.LKT_UNLOCK_GO)

/-- LKT_UNLOCK_RELOCK (R565). -/
def execLktUnlockRelock (master : Nat) (s : State) : Host.Outcome State Fault Refusal :=
  let k := s.regB Reg.LKT_UNLOCK_REGION 0 master
  let w := s.regB Reg.LKT_UNLOCK_KIND 0 master == 1
  .next (if s.mayWriteField master Reg.LKT_UNLOCK_RELOCK then
    s.dropGrants (fun g => g.master == master && g.region == k && g.write == w) else s.writeRefused master Reg.LKT_UNLOCK_RELOCK)

/-- LOCKET_GRANT_EXPIRY (R565): grants given 30 min ago or more end. -/
def execLocketGrantExpiry (s : State) : Host.Outcome State Fault Refusal := .next (s.dropGrants (fun g => s.since g.since 1800000000))

/-- RING_UPDATE (R592, R593, R597): the security core submits a new value for one of rings 8 to 63. -/
def execRingUpdate (master : Nat) (s : State) : Host.Outcome State Fault Refusal :=
  let r := s.reg Reg.LKT_RING_CTL_RING
  let v := s.lkt.ringSetLo + 2 ^ 32 * s.lkt.ringSetHi
  .next (if master ≠ 1 then s.writeRefused master Reg.LKT_RING_CTL_GO
    else match s.ringOf r with
      | none => s.set Reg.LKT_RING_CTL_STATUS stPOLICY
      | some x =>
        if r < 8 then s.set Reg.LKT_RING_CTL_STATUS stPOLICY
        else if x.worn ∨ s.ringHurt r then s.set Reg.LKT_RING_CTL_STATUS stNV
        else if v ≤ x.newest ∧ !x.damaged then s.set Reg.LKT_RING_CTL_STATUS stPOLICY
        else (s.set Reg.LKT_RING_CTL_GO 1).lktSubmit .ringCtl [.ring r v])

/-- Q_6 LKT_READ (R604, R605): address and length, 4 bytes each; the data goes to the destination. -/
def execLktRead (s : State) : Host.Outcome State Fault Refusal :=
  .next (s.withCmd 6 0x01 (fun r =>
    let a := r.num 0 4
    let n := r.num 4 4
    let m := r.entry.master
    let at_ (i : Nat) := (a + i) % 0x8000
    if 0x8000 ≤ a ∨ n = 0 ∨ 256 < n ∨ !s.rangeOk m r.dest n then s.complete r blkLKT stPOLICY 1 []
    else if !(List.range n).all (fun i => s.mayReadLkt m (at_ i)) then s.complete r blkLKT stPOLICY 2 []
    else if s.fieldBusy && (List.range n).any (fun i => touchesField (at_ i) 1) then s.stall (r.stallOf s.now)
    else if (List.range n).any (fun i => s.damagedRange (at_ i) 1) then s.complete r blkLKT stNV 6 []
    else (s.setBytes r.dest ((List.range n).map (fun i => s.byte (lktBase + at_ i)))).complete r blkLKT stOK 0 (leBytes 4 n)))

/-- Q_6 LKT_WRITE (R569, R604, R605): address, then a source address and length; it completes when the Locket settles the write. -/
def execLktWrite (s : State) : Host.Outcome State Fault Refusal :=
  .next (s.withCmd 6 0x02 (fun r =>
    let a := r.num 0 4
    let src := r.num 4 4
    let n := r.num 8 4
    let m := r.entry.master
    let w := pageWrite a (s.bytes src n)
    if r.started then s
    else if 0x8000 ≤ a ∨ n = 0 ∨ 256 < n ∨ !s.rangeOk m src n then s.complete r blkLKT stPOLICY 1 []
    else if !w.all (fun p => s.mayWriteLkt m p.1) then s.complete r blkLKT stPOLICY 2 []
    else if s.fieldBusy && w.any (fun p => touchesField p.1 1) then s.stall (r.stallOf s.now)
    else (s.startCmd r).lktSubmit (.q6 r.entry.seq) (s.byteItems w)))

/-- Q_6 LKT_UNLOCK (R564, R605): region, kind, password. -/
def execLktUnlock (s : State) : Host.Outcome State Fault Refusal :=
  .next (s.withCmd 6 0x03 (fun r =>
    let u := s.unlock r.entry.master (r.num 0 1) (r.num 1 1 == 1) (r.sub 2 16)
    if 8 ≤ r.num 0 1 then s.complete r blkLKT stPOLICY 1 []
    else if u.2 = 3 then u.1.complete r blkLKT stLOCKOUT 3 []
    else if u.2 = 4 then u.1.complete r blkLKT stAUTH 4 []
    else u.1.complete r blkLKT stOK 0 [1]))

/-- Q_6 LKT_RELOCK (R565). -/
def execLktRelock (s : State) : Host.Outcome State Fault Refusal :=
  .next (s.withCmd 6 0x04 (fun r =>
    (s.dropGrants (fun g => g.master == r.entry.master && g.region == r.num 0 1 && g.write == (r.num 1 1 == 1))).complete r blkLKT stOK 0 []))

/-- Q_6 LKT_FLUSH (R868): an INDEX record waits behind every write accepted before. -/
def execLktFlush (s : State) : Host.Outcome State Fault Refusal :=
  .next (s.withCmd 6 0x05 (fun r =>
    if r.started then s
    else
      let t := s.startCmd r
      { t with lkt := t.lkt.addEntry (.index r.entry.seq) }))

/-- Q_6 LKT_STATUS. -/
def execLktStatus (s : State) : Host.Outcome State Fault Refusal :=
  .next (s.withCmd 6 0x06 (fun r => s.complete r blkLKT stOK 0
    (s.regBytes Reg.LKT_STAT_MOUNTED 0 ++ s.regBytes Reg.LKT_MOUNT_REPAIRS 0 ++ s.regBytes Reg.LKT_WEAR_MAX_ERASE 0)))

/-- Q_6 LKT_RING_READ (R594, R604): value, depth in slots, passes. -/
def execLktRingRead (s : State) : Host.Outcome State Fault Refusal :=
  .next (s.withCmd 6 0x07 (fun r =>
    match s.ringOf (r.num 0 1) with
    | none => s.complete r blkLKT stPOLICY 1 []
    | some x =>
      if x.damaged ∨ s.ringHurt x.num then s.complete r blkLKT stNV 6 []
      else s.complete r blkLKT stOK 0 (leBytes 8 x.newest ++ leBytes 2 (128 * x.pages) ++ leBytes 4 x.passes)))

/-- LOCKET_WINDOW_WRITE (R560 to R573, R687): a master's write through the window. -/
def execLocketWindowWrite (master addr width value : Nat) (s : State) : Host.Outcome State Fault Refusal :=
  .next (if master = 1 ∨ master = 2 ∨ master = 3 then (s.windowWrite master addr width value).2 else s)

/-- LKT_ERR_CLR (Table 12-11). -/
def execLktErrClr (master : Nat) (s : State) : Host.Outcome State Fault Refusal :=
  .next (s.clearBy master Reg.LKT_ERR_CLR_CLR [Reg.LKT_ERR_CORRECTED, Reg.LKT_ERR_UNLOCK_FAIL, Reg.LKT_ERR_STALLS, Reg.LKT_ERR_REFUSED_WP])

end Sys2Proof.Machine
end

