-- ==== Sys2Proof/Machine/Learn.lean ====
section
/-! DEFINITION. Meanings of the commands that learn a credential set (R468 to R474). -/
namespace Sys2Proof.Machine

/-- SET_LEARN (R468 to R470, R474): address and length of an issued set in the shared partition. In a pair the set goes to the partner as well. -/
def execSetLearn (s : State) : Host.Outcome State Fault Refusal :=
  .next (match s.que.running.find? (fun r => r.ring == 9 && r.entry.code == 1 && !r.started) with
    | none => s
    | some r =>
      let a := r.num 0 4
      let n := r.num 4 4
      if !(s.flag Reg.PKE_STAT_KAT_FAIL || s.enginesFailed) ∧ !(s.pkeFree && s.inTurn pkeHolds r && (s.freeEngine .bulk).isSome) then s
      else
        let l0 : Learn := { cmd := some r.entry.seq, bank := [], issued := [], generation := 0, count := 0, phase := .writing, since := s.now }
        let fail (t : State) (c : LearnCheck) : State :=
          let busy := t.crd.learn
          let u := t.learnEnd l0 (learnStatus c.cause) c.cause c.index
          { u with crd := { u.crd with learn := busy } }
        if s.flag Reg.PKE_STAT_KAT_FAIL || s.enginesFailed then
          let u := s.learnEnd l0 stPOLICY 6 0
          { u with crd := { u.crd with learn := s.crd.learn } }
        else if !s.rangeOk r.entry.master a n then fail s { cause := 1 }
        else
          let b := s.bytes a n
          let p := (s.startCmd r).learnBegin b (some r.entry.seq) none false
          if p.1.cause ≠ 0 then fail p.2 p.1
          else if !p.2.mirrorsNow then p.2
          else
            let t := State.sendSet p.2 0 (b.length / 1000 + 1) 0 b
            { t with crd := { t.crd with learn := t.crd.learn.map (fun l => { l with mseq := some (t.tsu.mseqNext - 1) }) } })

/-- SET_SWITCH (R471, R472): at a quiet point the selector write is made; what follows its acceptance is LOCKET_ACCEPT's. -/
def execSetSwitch (s : State) : Host.Outcome State Fault Refusal :=
  .next (match s.crd.learn with
    | some l => if l.phase = .quiet ∧ s.quietPoint then s.learnSelect l else s
    | none => s)

/-- LEARN_QUIET_TIMEOUT (R469, cause 11): no quiet point within 2 s. -/
def execLearnQuietTimeout (s : State) : Host.Outcome State Fault Refusal :=
  .next (match s.crd.learn with
    | some l => if l.phase = .quiet ∧ s.ownLearn l ∧ s.since l.since 2000000 then s.learnEnd l stFULL 11 0 else s
    | none => s)

/-- LEARN_PARTNER_TIMEOUT (R474): the partner has not reported its bank within 5 s; this device will switch alone. -/
def execLearnPartnerTimeout (s : State) : Host.Outcome State Fault Refusal :=
  .next (match s.crd.learn with
    | some l =>
      if s.ownLearn l && l.mseq.isSome && (l.phase == .partner || l.phase == .writing) && s.since l.since 5000000 then
        let w : Learn := { l with mseq := none, degraded := true }
        { s with crd := { s.crd with learn := some (if l.phase = .partner then { w with phase := .quiet, since := s.now } else w) } }
      else s
    | none => s)

end Sys2Proof.Machine
end

