-- ==== Sys2Proof/Machine/Journal.lean ====
section
/-! DEFINITION. Meanings of the journal family (chapter 13). -/
namespace Sys2Proof.Machine



/-- JOURNAL_ASSIGN (R617, R788): the next record gets its SEQ and TIME; a STANDBY sends its hardware record to the ACTIVE instead, while the partner is not
lost. -/
def execJournalAssign (s : State) : Host.Outcome State Fault Refusal :=
  .next (if s.isStandby then
    match s.jnl.q46 with
    | n :: rest =>
      if s.tsu.partnerLost then s
      else
        let j := { s.jnl with q46 := rest }
        State.tsuSendSeq { s with jnl := j } 0x21 0 (leBytes 2 n.typ ++ leBytes 1 n.block ++ [0] ++ fit 64 n.payload)
    | [] => s
  else s.assignNext)

/-- JOURNAL_FLUSH_TIMER (R622): the oldest unprogrammed record has waited FLUSH_MS. -/
def execJournalFlushTimer (s : State) : Host.Outcome State Fault Refusal :=
  .next (if !s.jnl.open_.isEmpty && s.since s.jnl.openSince (1000 * s.reg Reg.JNL_CFG_FLUSH_MS) then s.startProgram else s)

/-- PROGRAM_COMPLETE (R622, R623, R637): a program that passes accepts its records, and the next begins where its occasion came meanwhile; one that fails retires the block, and the records are programmed
again in a replacement block. -/
def execProgramComplete (ok : Bool) (s : State) : Host.Outcome State Fault Refusal :=
  .next (if s.jnl.prog.isEmpty then s
    else if ok then
      let j := { s.jnl with progOk := true }
      let t := State.acceptProg { s with jnl := j }
      if t.jnl.open_.any (fun r => r.slot % 32 == 31) || t.jnl.open_.any (fun r => r.typ == 3) || !t.jnl.flushes.isEmpty || t.pwr.querying then t.startProgram else t
    else
      let j := { s.jnl with badBlocks := s.jnl.badBlocks + 1 }
      (State.raise { s with jnl := j } 174).bump Reg.JNL_ERR_PROG_FAIL)

/-- NAND_ERASE_COMPLETE (R633, R637): the oldest block, when every record it holds is acknowledged, is erased or retired. -/
def execNandEraseComplete (ok : Bool) (s : State) : Host.Outcome State Fault Refusal :=
  .next (match s.jnl.nand with
    | [] => s
    | r :: _ =>
      let b := r.slot / 2048
      let inBlock (x : JRec) := x.slot / 2048 == b
      if s.jnl.nand.any (fun x => inBlock x && decide (s.jnl.ackNext ≤ x.seq)) || s.jnl.recs.all inBlock then s
      else
        let j := { s.jnl with nand := s.jnl.nand.filter (fun x => !inBlock x) }
        if ok then { s with jnl := j }
        else
          let j := { j with badBlocks := j.badBlocks + 1 }
          (State.raise { s with jnl := j } 174).bump Reg.JNL_ERR_ERASE_FAIL)

/-- SEAL_GO (R629, R876): the security core asks for the signature of the oldest unsigned SEAL_HEAD; GO reads 1 until it is delivered, or until slot 254 proves
unable to serve. -/
def execSealGo (master : Nat) (s : State) : Host.Outcome State Fault Refusal :=
  .next (if master ≠ 1 then s.writeRefused master Reg.JNL_SEAL_CTL_GO
    else if s.jnl.heads.isEmpty then s
    else (s.set Reg.JNL_SEAL_CTL_GO 1).sealPump)

/-- JOURNAL_MOUNT (R639): after a logic stage, once; its chain needs HSH, which has run its test then (R539), and a blank device waits for its JOURNAL_ID while RNG serves nothing
(R538, R640). -/
def execJournalMount (nandOk : Bool) (s : State) : Host.Outcome State Fault Refusal :=
  .next (if s.jnl.mounted || (nandOk && (!s.crypto.kat.contains blkHSH || (s.jnl.nand.isEmpty && !s.rngServes))) then s else s.jnlMount nandOk)

/-- JOURNAL_FORMAT (R642): accepted only under R29. -/
def execJournalFormat (master : Nat) (s : State) : Host.Outcome State Fault Refusal :=
  .next (match s.namedWrite master Reg.JNL_ADMIN_KEY with
    | some w => if w.value &&& w.mask = 0xF0 then s.admitted.authorityFormat else s.writeRefused master Reg.JNL_ADMIN_KEY
    | none => s.writeRefused master Reg.JNL_ADMIN_KEY)

/-- Whether master m at a level may append a type through Q_7 (R621, Table 13-5). -/
def appendType (m level t : Nat) : Bool :=
  if m = 1 ∨ m = 2 then decide (0x4000 ≤ t) && decide (t < 0x8000)
  else m == 3 && ((decide (0x8000 ≤ t) && decide (t < 0xC000)) || (decide (0xC000 ≤ t) && decide (t < 0x10000) && decide (2 ≤ level)))

/-- Q_7 APPEND (R621, R623, R641, R635): type, then the address and length of the 64-byte payload (R872). -/
def execAppend (s : State) : Host.Outcome State Fault Refusal :=
  .next (s.withCmd 7 0x01 (fun r =>
    let t := r.num 0 2
    let a := r.num 2 4
    let n := r.num 6 4
    let m := r.entry.master
    if r.started then s
    else if !appendType m r.level t then s.complete r blkJNL stPOLICY 1 []
    else if n ≠ 64 ∨ !s.rangeOk m a n then s.complete r blkJNL stPOLICY 2 []
    else if s.jnl.foreign_ ∨ s.jnl.noNand then s.complete r blkJNL stNV 5 []
    else
      let x : NewRec := { typ := t, master := m, block := 0x1F, payload := s.bytes a 64, cmd := some r.entry.seq }
      let u := s.startCmd r
      let j := { u.jnl with q7 := u.jnl.q7 ++ [x] }
      { u with jnl := j }))

/-- Q_7 SEAL (R627, R649): a SEAL_HEAD at the next SEQ, or, within 1,000 ms of the last accepted SEAL, the seal of that one, which may still wait for its SEQ. -/
def execSeal (s : State) : Host.Outcome State Fault Refusal :=
  .next (s.withCmd 7 0x02 (fun r =>
    let early := match s.jnl.lastSealAt with | some t => !s.since t 1000000 | none => false
    let u := s.startCmd r
    let l := s.jnl.sealReq ++ [r.entry.seq]
    if r.started then s
    else if s.jnl.foreign_ ∨ s.jnl.noNand then s.complete r blkJNL stNV 5 []
    else if early && s.jnl.sealReq.isEmpty then s.complete r blkJNL stOK 0 (leBytes 6 s.jnl.lastSealSeq)
    else if early then { u with jnl := { u.jnl with sealReq := l } }
    else { u with jnl := { u.jnl with sealReq := l, lastSealAt := some s.now } }))

/-- Q_7 FLUSH (R622, R648). -/
def execFlush (s : State) : Host.Outcome State Fault Refusal :=
  .next (s.withCmd 7 0x03 (fun r =>
    if r.started then s
    else if s.jnl.foreign_ ∨ s.jnl.noNand then s.complete r blkJNL stNV 5 []
    else
      let u := (s.startCmd r).startProgram
      let j := { u.jnl with flushes := u.jnl.flushes ++ [(r.entry.seq, u.jnl.next)] }
      State.finishJnlFlushes { u with jnl := j }))

/-- The accepted records from a SEQ upward. -/
def Jnl.fromSeq (j : Jnl) (first : Nat) : List JRec := j.nand.filter (fun r => decide (first ≤ r.seq))

/-- Q_8 EXPORT (R644): FIRST 6, COUNT 1, destination; the NAND reads begin. -/
def execExportBatch (s : State) : Host.Outcome State Fault Refusal :=
  .next (s.withCmd 8 0x01 (fun r =>
    let first := r.num 0 6
    let count := r.num 6 1
    let recs := (s.jnl.fromSeq first).take count
    let oldest := match s.jnl.nand.head? with | some x => x.seq | none => 0
    if r.started ∨ s.jnl.reading.isSome then s
    else if count = 0 ∨ 128 < count ∨ first < oldest ∨ s.jnl.acceptedTop ≤ first ∨
        !s.rangeOk r.entry.master r.dest (80 + 128 * recs.length) ∨ r.destLen < 80 + 128 * recs.length then s.complete r blkJNL stPOLICY 2 []
    else if s.jnl.foreign_ ∨ s.jnl.noNand then s.complete r blkJNL stNV 5 []
    else
      let u := s.startCmd r
      let j := { u.jnl with reading := some { cmd := r.entry.seq, driver := false, first := first, recs := recs, next := 0 } }
      { u with jnl := j }))

/-- Q_8 DRIVER_READ (R647): FIRST 6, destination; records marked D of the credential for which the issuer held DRIVER when the command was taken (R452), from at most 65,536
scanned. -/
def execDriverRead (s : State) : Host.Outcome State Fault Refusal :=
  .next (s.withCmd 8 0x03 (fun r =>
    let first := r.num 0 6
    let marked (t : Nat) := [0x20, 0x21, 0x22, 0x30, 0x31, 0x32, 0x33].contains t
    let ref := match r.driver with | some d => s.crdRef d | none => noRef
    let scan := (s.jnl.fromSeq first).take 65536
    let recs := (scan.filter (fun x => marked x.typ && (x.payload.take 16) == ref)).take 128
    let next := match recs[127]?, scan.getLast? with
      | some x, _ => x.seq + 1
      | none, some x => x.seq + 1
      | none, none => first
    if r.started ∨ s.jnl.reading.isSome then s
    else if r.driver.isNone then s.complete r blkJNL stPOLICY 1 []
    else if !s.rangeOk r.entry.master r.dest (80 + 128 * recs.length) ∨ r.destLen < 80 + 128 * recs.length then s.complete r blkJNL stPOLICY 2 []
    else if s.jnl.foreign_ ∨ s.jnl.noNand then s.complete r blkJNL stNV 5 []
    else
      let u := s.startCmd r
      let j := { u.jnl with reading := some { cmd := r.entry.seq, driver := true, first := first, recs := recs, next := next } }
      { u with jnl := j }))

/-- The decoded records of a batch, one by one, with the counts and events of R614 and R638. -/
def State.decodeRecs (s : State) (errs : List (Nat × Nat × Byte)) : Nat → List JRec → List (List Byte) × Nat × State
  | _, [] => ([], 0, s)
  | i, r :: t =>
    let d := readRecord r ((errs.filter (fun e => e.1 == i)).map (fun e => (e.2.1, e.2.2)))
    let s1 := if d.2.1 then s.bump Reg.JNL_ERR_RS_CORR else s
    let s2 := if d.2.2 then (s1.bump Reg.JNL_ERR_DAMAGED).raise 173 else s1
    let rest := s2.decodeRecs errs (i + 1) t
    (d.1 :: rest.1, rest.2.1 + (if d.2.2 then 2 ^ i else 0), rest.2.2)

/-- A batch that cannot be sealed: EXPORT or DRIVER_READ ends with cause 7 (Table 13-8). -/
def State.exportFails (s : State) (r : Running) (status : Nat) : State :=
  State.complete { s with jnl := { s.jnl with reading := none } } r blkJNL status 7 []

/-- NAND_READ_COMPLETE (R614, R638, R643, R644, R647): the records of the batch, as the NAND gives them (read errors: record, byte, pattern), are decoded, and AEA is asked to seal the batch
under the export slot with a device nonce (R517, class RECORD). -/
def execNandReadComplete (errs : List (Nat × Nat × Byte)) (s : State) : Host.Outcome State Fault Refusal :=
  .next (match s.jnl.reading with
    | none => s
    | some rd =>
      match s.runningSeq 8 rd.cmd with
      | none => { s with jnl := { s.jnl with reading := none } }
      | some r =>
        let w := s.nonceWaits
        if rd.sealing then s
        else if w.1 then w.2
        else
          let d := w.2.decodeRecs errs 0 rd.recs
          let slot := s.reg Reg.JNL_CFG_EXP_SLOT
          if s.enginesFailed then d.2.2.exportFails r stPOLICY
          else
            let u := d.2.2.useSlot slot useSEAL [0, 1] 4
            if u.1 ≠ 0 then u.2.exportFails r (causeStatus u.1)
            else if !(u.2.slotRaw slot).deviceNonce then u.2.exportFails r stPOLICY
            else
              let nn := u.2.deviceNonce
              if nn.1 ≠ 0 then nn.2.2.exportFails r (causeStatus nn.1)
              else
                let t := nn.2.2
                let head := t.batchHead (ofBool rd.driver + 2 * ofBool (d.2.1 != 0)) rd.recs.length rd.first nn.2.1 d.2.1
                let c := gcmSeal (t.slotRaw slot).key nn.2.1 head d.1.flatten
                let o : AeaOp := { cls := .record, slot := slot, ring := 8, cmd := rd.cmd, isOpen := false, out := some (head ++ c.1 ++ c.2), nonce := nn.2.1, dest := r.dest }
                State.aeaRequest { t with jnl := { t.jnl with reading := some { rd with sealing := true } } } o)

/-- The sealed batch is written to its destination and, unless it is a DRIVER view, remembered (R643, R645, R647). -/
def State.exportSealed (s : State) (o : AeaOp) : State :=
  match s.jnl.reading, s.runningSeq 8 o.cmd, o.out with
  | some rd, some r, some out =>
    let n := rd.recs.length
    let b : Batch := { first := rd.first, count := n, tag := out.drop (out.length - 16) }
    let l := if rd.driver then s.jnl.batches else (s.jnl.batches ++ [b]).drop (s.jnl.batches.length - 7)
    let t : State := { s with jnl := { s.jnl with reading := none, batches := l } }
    (t.setBytes o.dest out).complete r blkJNL stOK 0 (leBytes 6 rd.first ++ leBytes 1 n ++ (if rd.driver then leBytes 6 rd.next else []))
  | _, _, _ => s

/-- Whether a receipt names a key that the RCPT setting admits (R646). -/
def State.receiptKey (s : State) (keyidx : Nat) : Bool := decide (keyidx ≤ 4) && (s.reg Reg.JNL_CFG_RCPT == 1 || keyidx == 0)

/-- The message that a receipt signs (R646). -/
def State.receiptMessage (s : State) (b : Batch) : List Byte :=
  [0x4A, 0x52, 0x43, 0x50] ++ beBytes 8 s.devnum ++ fit 8 s.jnl.journalId ++ leBytes 6 (b.first + b.count - 1) ++ b.tag

/-- EXPORT_ACK takes effect (R645): ACK_NEXT moves, and the ACK record is appended. -/
def State.exportAcked (s : State) (r : Running) (b : Batch) (k : Nat) : State :=
  let ack := b.first + b.count
  let u := s.startCmd r
  let w : RecWait := { ring := 8, cmd := r.entry.seq, typ := 5, seq := none, data := leBytes 6 ack }
  let j := { u.jnl with ackNext := ack, recWaits := u.jnl.recWaits ++ [w] }
  State.assignDue { u with jnl := j } (jnlRec 5 (leBytes 6 ack ++ leBytes 6 b.first ++ leBytes 1 r.entry.master ++ leBytes 1 r.level ++ leBytes 1 k ++ b.tag))

/-- Q_8 EXPORT_ACK (R645, R646, Table 13-8): TAG 16; with a receipt required, the address of the signature, its length and the key index. PKE verifies it when it is free. -/
def execExportAck (s : State) : Host.Outcome State Fault Refusal :=
  .next (s.withCmd 8 0x02 (fun r =>
    let tag := r.sub 0 16
    let keyidx := r.num 24 1
    let rcpt := s.reg Reg.JNL_CFG_RCPT
    if r.started then s
    else if rcpt ≠ 0 ∧ (r.num 20 4 ≠ 64 ∨ !s.rangeOk r.entry.master (r.num 16 4) 64) then s.complete r blkJNL stPOLICY 2 []
    else match s.jnl.batches.find? (fun b => b.tag == tag && decide (b.first ≤ s.jnl.ackNext) && decide (s.jnl.ackNext < b.first + b.count)) with
      | none => s.complete r blkJNL stPOLICY 3 []
      | some b =>
        if rcpt ≠ 0 ∧ !s.receiptKey keyidx then s.complete r blkJNL stAUTH 4 []
        else if rcpt ≠ 0 ∧ s.flag Reg.PKE_STAT_KAT_FAIL then s.complete r blkJNL stPOLICY 7 []
        else if rcpt ≠ 0 ∧ !s.pkeVerifies then s
        else
          let v := if rcpt = 0 then (true, s) else s.pkeVerify (s.signerKey keyidx) (s.receiptMessage b) (s.bytes (r.num 16 4) 64)
          if !v.1 then v.2.complete r blkJNL stAUTH 4 []
          else if s.jnl.foreign_ ∨ s.jnl.noNand then v.2.complete r blkJNL stNV 5 []
          else v.2.exportAcked r b (if rcpt = 0 then 0xFF else keyidx)))

/-- Q_8 JNL_STATUS (R648): completes with OK in every state. -/
def execJnlStatus (s : State) : Host.Outcome State Fault Refusal :=
  .next (s.withCmd 8 0x04 (fun r => s.complete r blkJNL stOK 0
    (s.regBytes Reg.JNL_STAT_STATE 0 ++ s.regBytes Reg.JNL_CAP_BLOCKS 0 ++ s.regBytes Reg.JNL_USED_SLOTS 0 ++
      leBytes 6 s.jnl.ackNext ++ leBytes 6 s.jnl.next)))

/-- JNL_ERR_CLR (Table 13-9). -/
def execJnlErrClr (master : Nat) (s : State) : Host.Outcome State Fault Refusal :=
  .next (s.clearBy master Reg.JNL_ERR_CLR_CLR [Reg.JNL_ERR_RS_CORR, Reg.JNL_ERR_DAMAGED, Reg.JNL_ERR_PROG_FAIL, Reg.JNL_ERR_ERASE_FAIL])

end Sys2Proof.Machine
end

