-- ==== Sys2Proof/Machine/QueueOps.lean ====
section
/-! DEFINITION. Pushing, popping and taking queue entries, mailboxes and Clasps as operations (chapter 15). -/
namespace Sys2Proof.Machine

/-! ## Entries as bytes (Table 15-5) -/

/-- The 64 bytes of an entry. -/
def Entry.bytes (e : Entry) : List Byte :=
  leBytes 4 e.seq ++ leBytes 1 e.master ++ leBytes 1 e.block ++ leBytes 1 e.code ++ leBytes 1 e.flags ++ leBytes 1 e.status ++ leBytes 1 e.cause ++
    [0, 0] ++ leBytes 4 e.tag ++ fit 48 e.payload

/-- The entries of an internal ring, oldest first, each with the header of R42 and its place in the ring's count (R717): Q_46 holds its records as NewRec. -/
def State.internalRing (s : State) (q : Nat) : List Entry :=
  if q = 46 then
    let n := s.jnl.q46.length
    ((List.range n).zip s.jnl.q46).map (fun p =>
      { internalEntry (if p.2.master = 0 then p.2.block else blkTSU) (leBytes 2 p.2.typ ++ p.2.payload) with seq := low 32 (s.jnl.q46Seq + 2 ^ 32 - n + p.1) })
  else s.ring q

/-- What the security core reads of Q_40 to Q_47 for diagnosis: the 64 bytes of each entry. It consumes none, and no other master reads them (R41). -/
def State.diagnose (s : State) (m q : Nat) : List (List Byte) := if m = 1 ∧ 40 ≤ q ∧ q < 48 then (s.internalRing q).map Entry.bytes else []

/-- The command entry that a master pushes: everything that R718 overwrites is stamped. -/
def commandEntry (m : Nat) (b : List Byte) : Entry :=
  { master := m, block := 0x1F, code := ofLe (slice b 6 1), tag := ofLe (slice b 12 4), payload := slice b 16 48 }

/-- A push (R718): status, SEQ assigned, state. -/
def State.push (s : State) (m q : Nat) (b : List Byte) : Nat × Nat × State :=
  if !(m == 1 || m == 2 || m == 3) || decide (16 ≤ q) then (stPOLICY, 0, s)
  else if s.depth q ≤ (s.ring q).length then (stFULL, 0, s)
  else
    let seq := s.seqOf q
    let t := s.place q (commandEntry m b)
    if (s.ring q).isEmpty then (stOK, seq, { t with que := { t.que with headAt := storeSet 0 t.que.headAt q s.now } }) else (stOK, seq, t)

/-- A pop (R723): status, the 64 bytes, state. -/
def State.pop (s : State) (m q : Nat) : Nat × List Byte × State :=
  if q < 16 ∨ 32 ≤ q then (stPOLICY, List.replicate 64 0, s)
  else match (s.ring q).find? (fun e => e.flags % 8 == m) with
    | none => (stOK, List.replicate 64 0, s)
    | some e => (stOK, e.bytes, s.setRing q ((s.ring q).erase e))

/-! ## The command tables (Tables 04-5, 07-6, 08-9, 10-7, 11-7, 12-9, 13-7, 14-9, 15-7) -/

/-- One command of a table: its ring and code, the level it asks (judged at the take where `level` is some), the cause of a refusal by privilege, the block that
serves it, its service class. -/
structure CmdRow where
  ring : Nat
  code : Nat
  level : Nat
  cause : Nat
  block : Nat
  cls : EngClass
  deriving DecidableEq, Repr

/-- Q_0 to Q_8. A level of 0 marks PUBLIC and the commands whose chapter judges the issuer itself. -/
def cmdRowsA : List CmdRow :=
  [⟨0, 1, 0, 0xF2, 0, .bulk⟩, ⟨0, 2, 2, 0xF2, 0, .bulk⟩, ⟨0, 3, 2, 0xF2, 30, .record⟩, ⟨0, 4, 0, 0xF2, 0, .bulk⟩,
   ⟨1, 1, 2, 0xF2, 7, .timed⟩, ⟨1, 2, 2, 0xF2, 11, .safety⟩, ⟨1, 3, 0, 0xF2, 11, .bulk⟩,
   ⟨2, 1, 3, 7, 6, .bulk⟩, ⟨2, 2, 3, 7, 6, .bulk⟩,
   ⟨3, 1, 3, 0xF2, 9, .bulk⟩, ⟨3, 2, 3, 0xF2, 9, .bulk⟩, ⟨3, 3, 0, 0xF2, 9, .bulk⟩,
   ⟨6, 1, 0, 2, 19, .bulk⟩, ⟨6, 2, 0, 2, 19, .record⟩, ⟨6, 3, 0, 0xF2, 19, .bulk⟩, ⟨6, 4, 0, 0xF2, 19, .bulk⟩,
   ⟨6, 5, 0, 0xF2, 19, .record⟩, ⟨6, 6, 0, 0xF2, 19, .bulk⟩, ⟨6, 7, 0, 0xF2, 19, .bulk⟩,
   ⟨7, 1, 0, 1, 20, .record⟩, ⟨7, 2, 2, 1, 20, .record⟩, ⟨7, 3, 0, 1, 20, .record⟩,
   ⟨8, 1, 2, 1, 20, .bulk⟩, ⟨8, 2, 2, 1, 20, .record⟩, ⟨8, 3, 1, 1, 20, .bulk⟩, ⟨8, 4, 0, 1, 20, .bulk⟩]

/-- Q_4, Q_5 (both rings serve the same codes). -/
def cmdRowsB : List CmdRow :=
  ([(1, 15), (2, 15), (3, 17), (4, 16), (5, 16), (6, 16), (7, 18), (8, 15)] : List (Nat × Nat)).flatMap
    (fun p => [⟨4, p.1, 0, 3, p.2, .bulk⟩, ⟨5, p.1, 0, 3, p.2, .bulk⟩])

/-- Q_9 to Q_13. -/
def cmdRowsC : List CmdRow :=
  [⟨9, 1, 2, 0xF2, 13, .bulk⟩, ⟨9, 2, 0, 0xF2, 13, .bulk⟩,
   ⟨10, 1, 0, 0xF2, 14, .bulk⟩, ⟨10, 2, 0, 0xF2, 14, .bulk⟩, ⟨10, 3, 0, 0xF2, 14, .bulk⟩, ⟨10, 4, 0, 0xF2, 14, .bulk⟩,
   ⟨10, 0x10, 0, 0xF2, 14, .bulk⟩, ⟨10, 0x11, 0, 0xF2, 14, .bulk⟩, ⟨10, 0x12, 0, 0xF2, 14, .bulk⟩, ⟨10, 0x13, 0, 0xF2, 14, .bulk⟩,
   ⟨10, 0x20, 0, 0xF2, 14, .bulk⟩, ⟨10, 0x21, 0, 0xF2, 14, .bulk⟩, ⟨10, 0x22, 0, 0xF2, 14, .bulk⟩,
   ⟨11, 1, 0, 0xF2, 21, .bulk⟩, ⟨11, 2, 2, 0xF2, 21, .bulk⟩, ⟨11, 3, 0, 0xF2, 21, .bulk⟩,
   ⟨12, 1, 2, 0xF2, 23, .bulk⟩, ⟨12, 2, 2, 0xF2, 23, .bulk⟩, ⟨12, 3, 0, 0xF2, 23, .bulk⟩,
   ⟨13, 1, 0, 0xF2, 5, .bulk⟩, ⟨13, 0x20, 3, 7, 6, .bulk⟩, ⟨13, 0x21, 0, 7, 6, .bulk⟩, ⟨13, 0x30, 0, 3, 18, .bulk⟩]

/-- The row of a ring's code; Q_14 and Q_15 take every code from 0x80 upward for their core (R735). -/
def cmdRow (q code : Nat) : Option CmdRow :=
  if 14 ≤ q then (if 0x80 ≤ code then some ⟨q, code, 0, 0xF2, 0, .bulk⟩ else none)
  else (cmdRowsA ++ cmdRowsB ++ cmdRowsC).find? (fun r => r.ring == q && r.code == code)

/-- Whether a command's target is off because its block's EN field is clear (R854); blocks whose chapter gives its own outcome are not among
them. For CAN the controller that the command names decides. -/
def State.targetOff (s : State) (block : Nat) (e : Entry) : Bool :=
  if block = 9 then !s.flag Reg.UWB_CTRL_EN
  else if block = 13 then !s.flag Reg.CRD_CTRL_EN
  else if block = 15 then s.reg Reg.AEA_CTRL_EN == 0 && e.code != 8
  else if block = 16 then !s.flag Reg.PKE_CTRL_EN
  else if block = 17 then !s.flag Reg.HSH_CTRL_EN
  else if block = 20 then !s.flag Reg.JNL_CTRL_EN
  else if block = 21 then !s.flag Reg.HFT_CTRL_EN
  else if block = 23 then s.regI Reg.CAN_CTRL_EN (ofLe (slice e.payload 0 1) % 2) == 0
  else false

/-- Commands that a STANDBY refuses (R788). -/
def standbyRefuses (q code : Nat) : Bool :=
  (q == 1 && code != 3) || (q == 6 && code == 2) || (q == 7 && (code == 1 || code == 2)) || (q == 8 && code == 2) || (q == 9 && code == 1)

/-- Whether the head of a ring can be taken now (R719, R728, R854): the queue engine runs, the completion ring has a free place, the target is in no reset and not
stopped and, an engine, has run its known-answer tests (R539), and on Q_4 and Q_5 no command of the ring runs (R542). -/
def State.canTake (s : State) (q : Nat) (e : Entry) : Bool :=
  let block := match cmdRow q e.code with | some r => r.block | none => 5
  s.flag Reg.QUE_CTRL_EN && decide ((s.ring (q + 16)).length + s.reserved q < s.depth (q + 16)) &&
    !s.fences.inReset.contains block && !s.fences.stopped.contains block && (!(List.contains [blkAEA, blkHSH, blkRNG] block) || s.crypto.kat.contains block) && ((q != 4 && q != 5) || s.reserved q == 0)

/-- The service class of a ring's code (Table 15-6); a code that the ring does not list is BULK. -/
def cmdClass (q code : Nat) : EngClass := match cmdRow q code with | some c => c.cls | none => .bulk

/-- The class of the head of ring q, when it can be taken. -/
def State.headClass (s : State) (q : Nat) : Option EngClass :=
  match s.ring q with
  | e :: _ => if s.canTake q e then some (cmdClass q e.code) else none
  | [] => none

/-- Whether the head of ring q is the next that the queue engine takes (R728): no head of a higher class can be taken, and in its class it follows the ring taken last in round-robin order. -/
def State.takesNext (s : State) (q : Nat) : Bool :=
  match s.headClass q with
  | none => false
  | some c =>
    let turn (x : Nat) := (x + 15 - storeGet 15 s.que.lastTaken c.rank) % 16
    (List.range 16).all (fun x => match s.headClass x with
      | none => true
      | some d => decide (c.rank < d.rank) || (d == c && decide (turn q ≤ turn x)))

/-- Take the head of ring q: QUE_TAKEN and E_q (R720), then its first judgement: an unknown code, a missing privilege, a STANDBY's refusal, a block that is off;
or it runs. -/
def State.takeHead (s : State) (q : Nat) (e : Entry) (rest : List Entry) : State :=
  let s1 := ((s.setRing q rest).setI Reg.QUE_TAKEN_SEQ q e.seq).raise q
  let head := storeGet 0 s.que.headAt q
  let last := storeSet 15 s1.que.lastTaken (cmdClass q e.code).rank q
  let s2 : State := { s1 with que := { s1.que with headAt := storeSet 0 s1.que.headAt q (if rest.isEmpty then 0 else s.now), lastTaken := last } }
  let r : Running := { ring := q, entry := e, level := s.levelOf e.master, takenAt := s.now, headAt := head, driver := if e.master = 3 then s.priv.driver.map (·.1) else none }
  let s3 : State := { s2 with que := { s2.que with running := s2.que.running ++ [r] } }
  match cmdRow q e.code with
  | none => s3.complete r blkQUE stUNKNOWN 0xF1 []
  | some c =>
    if r.level < c.level then s3.complete r c.block stPOLICY c.cause []
    else if s.isStandby && standbyRefuses q e.code then s3.complete r c.block stPOLICY 0xF3 []
    else if s.targetOff c.block e then s3.complete r c.block stBLOCKOFF 0xF4 []
    else s3

/-! ## Mailboxes (R736 to R744) -/

/-- The receiver of a mailbox (Table 15-8). -/
def boxReceiver (m : Nat) : Nat := [1, 2, 3, 3, 4, 4, 5, 7].getD m 0

/-- The senders that a mailbox permits. -/
def boxSenders (m : Nat) : List Nat := if m = 0 then [2, 3, 4, 7] else if m = 1 then [1, 3, 4, 5, 7] else [1, 2]

/-- Replace a mailbox's content. -/
def State.setBox (s : State) (m : Nat) (x : Option Message) : State := { s with mbx := { s.mbx with boxes := s.mbx.boxes.set m x } }

/-- The content of a mailbox. -/
def State.box (s : State) (m : Nat) : Option Message := s.mbx.boxes.getD m none

/-- Whether master a holds a message for master b that has been held for `d` µs. -/
def State.holdsFor (s : State) (a b d : Nat) : Bool :=
  (List.range 8).any (fun m => boxReceiver m == b && (match s.box m with | some x => x.sender == a && s.since x.placedAt d | none => false))

/-- Whether two masters are crossed (R742). -/
def State.crossed (s : State) (a b d : Nat) : Bool := s.holdsFor a b d && s.holdsFor b a d

/-- Whether crossing i of MBX_STAT.CROSS holds: masters 1 and 2, 1 and 3, 2 and 3, either core and the partner. -/
def State.crossing (s : State) (i d : Nat) : Bool :=
  if i = 0 then s.crossed 1 2 d else if i = 1 then s.crossed 1 3 d else if i = 2 then s.crossed 2 3 d else s.crossed 1 4 d || s.crossed 2 4 d

/-- Crossing bits that no longer stand are cleared. -/
def State.recross (s : State) : State :=
  let keep := maskOf ((List.range 4).filter (fun i => s.crossing i 0))
  { s with mbx := { s.mbx with cross := s.mbx.cross &&& BitVec.ofNat 4 keep } }

/-- Empty a mailbox (R739): its doorbell event is raised again. -/
def State.emptyBox (s : State) (m : Nat) : State := ((s.setBox m none).raise (48 + m)).recross

/-- Place a message (R737, R740, R741): its status and the state. A message for the partner goes on the link; HFT acknowledges one for the HF session at once. -/
def State.placeMessage (s : State) (sender m : Nat) (words : List Nat) : Nat × State :=
  if !(boxSenders m).contains sender || (m == 7 && s.jtagLocked) || words.isEmpty || decide (16 < words.length) then (stPOLICY, s)
  else if (s.box m).isSome then (stFULL, s)
  else
    let t := (s.setBox m (some { sender := sender, words := words, placedAt := s.now })).raise (48 + m)
    if m = 4 ∨ m = 5 then
      (stOK, t.tsuSendSeq 0x20 0 (leBytes 1 (m - 4) ++ leBytes 1 words.length ++ [0, 0] ++ words.flatMap (leBytes 4)))
    else if m = 6 then (stOK, t.emptyBox 6)
    else (stOK, t)

/-- A message from the partner for mailbox m takes its place there, stamped with master 4 (R740). -/
def State.putFromPeer (s : State) (m : Nat) (words : List Nat) : State :=
  (s.setBox m (some { sender := 4, words := words, placedAt := s.now })).raise (48 + m)

/-- The acknowledgement of a mailbox by a master: only its receiver's counts, and the debug master's none once it is locked out (R23). One of the partner's messages is acknowledged over the link by a MAILBOX frame of LEN 0
(assumption 22), and a message that waited for the mailbox takes its place. -/
def State.ackBox (s : State) (master m : Nat) : State :=
  match s.box m with
  | none => s
  | some x =>
    if boxReceiver m ≠ master ∨ (master = 7 ∧ s.jtagLocked = true) then s
    else
      let t := s.emptyBox m
      if x.sender ≠ 4 then t
      else
        let u := t.tsuSendSeq 0x20 0 (leBytes 1 (4 + m) ++ [0, 0, 0])
        match u.tsu.mbWait.find? (fun p => p.1 == m) with
        | none => u
        | some p => State.putFromPeer { u with tsu := { u.tsu with mbWait := u.tsu.mbWait.erase p } } m p.2

/-! ## Clasps (R745 to R749) -/

/-- A Clasp read: the value read, and the state in which a free Clasp has its new owner. -/
def State.claspRead (s : State) (master k : Nat) : Nat × State :=
  let o := s.regI Reg.CLASP_OWNER k
  if !(master == 1 || master == 2 || master == 3 || (master == 7 && !s.jtagLocked)) then (0, s)
  else if o = 0 then (0, s.setI Reg.CLASP_OWNER k master)
  else if o = master then (0, s)
  else (o, s)

/-- Release a Clasp. -/
def State.claspFree (s : State) (k : Nat) : State := (s.setI Reg.CLASP_OWNER k 0).raise (60 + k / 8)

/-- Release every Clasp of a master (R748). -/
def State.claspsFree (s : State) (master : Nat) : State :=
  (List.range 32).foldl (fun t k => if t.regI Reg.CLASP_OWNER k = master then t.claspFree k else t) s

/-- A Clasp write: the owner's 0 releases it, any other write is ignored; the debug master writes nothing once it is locked out (R23, R748). -/
def State.claspWrite (s : State) (master k v : Nat) : State :=
  if v = 0 ∧ master ≠ 0 ∧ (master = 7 → s.jtagLocked = false) ∧ s.regI Reg.CLASP_OWNER k = master then s.claspFree k else s

end Sys2Proof.Machine
end

