-- ==== Sys2Proof/Machine/PairOps.lean ====
section
/-! DEFINITION. The pair as operations (chapter 16): receiving frames, the partner's loss, mirror items and their acknowledgement, resynchronisation, roles. -/
namespace Sys2Proof.Machine

/-! ## The degraded state (R787, R806) -/

/-- Take note of a change of the degraded state: E_185 when it clears, an episode counted when it begins. -/
def State.degradedEdge (before after : State) : State :=
  if before.pairDegraded && !after.pairDegraded then after.raise 185
  else if !before.pairDegraded && after.pairDegraded then after.bump Reg.TSU_COUNT_DEGRADED
  else after

/-! ## Mirror items that end on one device (R784, R786) -/

/-- Mirror items are refused or given up: what waited for them is accepted on this device only. -/
def State.markLone (s : State) (l : List MirrorItem) : State :=
  let has (q : Nat) := l.any (fun x => x.ring == q)
  let hit (m : Option Nat) : Bool := match m with | some n => l.any (fun x => x.mseq == n) | none => false
  let writes := s.lkt.writes.map (fun x => if hit x.mseq then { x with mseq := none, lone := true } else x)
  let j := { s.jnl with progLone := s.jnl.progLone || (has 33 && !s.jnl.prog.isEmpty), progMseq := if hit s.jnl.progMseq then none else s.jnl.progMseq }
  { s with lkt := { s.lkt with writes := writes, flushLone := s.lkt.flushLone || has 32 }, jnl := j }

/-- Take mirror items off the list, with their entries on Q_32 to Q_35. -/
def State.dropItems (s : State) (p : MirrorItem → Bool) : State :=
  let gone := s.tsu.items.filter p
  let t : State := { s with tsu := { s.tsu with items := s.tsu.items.filter (fun x => !p x) } }
  [32, 33, 34, 35].foldl (fun u q => u.setRing q ((u.ring q).filter (fun e => !gone.any (fun x => x.ring == q && x.mseq == ofLe (slice e.payload 0 4))))) t

/-- Work that waited for mirror items goes on: journal acceptance, flushes, a learning. -/
def State.itemsEnded (s : State) (l : List MirrorItem) (ok : Bool) : State :=
  let t := (if ok then s else s.markLone l).acceptProg.finishFlushes
  let learn (u : State) (x : MirrorItem) : State :=
    let v := u.learnMirror x.mseq ok
    match v.tsu.setSent with
    | none => v
    | some p =>
      if p.1 ≠ x.mseq then v
      else if !ok then { v with tsu := { v.tsu with setSent := none }, crd := { v.crd with degraded := true } }
      else if p.2 then { v with tsu := { v.tsu with setSent := none, hb := { v.tsu.hb with crdGen := v.crd.generation } }, crd := { v.crd with degraded := false } }
      else
        let w := v.sendSwitch v.crd.generation
        { w with tsu := { w.tsu with setSent := some (v.tsu.mseqNext, true) } }
  l.foldl learn t

/-! ## The partner's loss (R786, R795, R797) -/

/-- A Q_41 entry for a STANDBY port whose answer will not come (R797). -/
def lostRange (session handle port block time : Nat) : List Byte :=
  leBytes 4 session ++ leBytes 2 handle ++ leBytes 1 (4 + port) ++ leBytes 1 stRANGE ++ leBytes 1 6 ++ [0] ++ leBytes 1 block ++ List.replicate 15 0 ++
    leBytes 6 time ++ [0, 0]

/-- The entries of the RANGE_GOs that are out: one for each port that the last heartbeat named usable and that has not answered, and the solves that follow them. -/
def State.rangeLost (s : State) : State :=
  let one (t : State) (x : RangeGo) : State :=
    let l := (List.range 4).filter (fun p => bit s.tsu.hb.ports p && !x.got.contains p)
    (l.foldl (fun w p => w.emit 41 blkTSU (lostRange x.session x.handle p x.block w.timebase)) t).solveDue x.session x.handle (some x.block)
  if s.tsu.rangeGo.isEmpty then s
  else
    let t := s.tsu.rangeGo.foldl one s
    State.gltKick { t with tsu := { t.tsu with rangeGo := [] } }

/-- The keys that a STANDBY holds for the ACTIVE's session are erased. -/
def State.peerSessionEnd (s : State) : State :=
  match s.tsu.peerSess with
  | none => s
  | some p => State.uwbSessionEnd { s with tsu := { s.tsu with peerSess := none } } p.1

/-- The messages for the partner that stand in MB_4 and MB_5 are discarded and counted. -/
def State.boxesLost (s : State) : State :=
  [4, 5].foldl (fun t m => if (t.box m).isSome then (t.emptyBox m).bump Reg.TSU_ERR_MB_LOST else t) s

/-- The partner is declared lost. -/
def State.declareLost (s : State) : State :=
  if s.tsu.partnerLost then s
  else
    let l := s.tsu.items
    let t := { s.tsu with partnerLost := true, synced := false, stage := 0, search := none, setSent := none, rangeWant := [], mbWait := [], jnlMacks := [], crdRx := [] }
    let s1 := (State.raise { s with tsu := t } 184).bump Reg.TSU_HB_LOST
    let s2 := (s1.dropItems (fun _ => true)).itemsEnded l false
    ((s2.boxesLost.peerSessionEnd).rangeLost).gltKick

/-- The link goes DOWN; training restarts at a time, or not before the receivers align again. -/
def State.linkDown (s : State) (retrain : Option Nat) : State :=
  let s1 := s.declareLost
  { s1 with tsu := { s1.tsu with link := .down, retrainAt := retrain, keyWaits := false, helloRx := none, kLink := [], unacked := [], outbox := [] } }

/-! ## HELLO and CONFIRM (R769) -/

/-- The HELLO payload. -/
def State.helloPayload (s : State) : List Byte :=
  beBytes 8 s.devnum ++ fit 16 s.tsu.ownN ++ leBytes 4 (s.reg Reg.SYS_IMG_GEN_GEN) ++ leBytes 1 (ofBool s.tsu.secondary) ++
    leBytes 1 (match s.tsu.role with | .standby => 0 | .active => 1 | .undecided => 2) ++ [0, 0]

/-- Send HELLO. -/
def State.sendHello (s : State) : State :=
  let t := s.tsuSend 1 s.helloPayload
  { t with tsu := { t.tsu with helloAt := t.now } }

/-- The partner's device number and its transport public key. -/
def State.peerDev (s : State) : Nat := s.reg Reg.TSU_PEER_DEV_LO_LO + 2 ^ 32 * s.reg Reg.TSU_PEER_DEV_HI_HI
def State.peerKey (s : State) : List Byte := (List.range 16).flatMap (fun w => leBytes 4 (s.regI Reg.TSU_PEER_KEY_KEY w))

/-- K_LINK from Z and both devices' values. -/
def linkKey (z nP nS devP devS : List Byte) : List Byte := (sha256 ([0x54, 0x53, 0x4B] ++ z ++ nP ++ nS ++ devP ++ devS)).take 16

/-- KEYING begins: N is drawn anew, TXC starts again, HELLO goes out. -/
def State.keyLink (s : State) : State :=
  if s.tsu.link ≠ .training then { s with tsu := { s.tsu with keyWaits := false } }
  else
    let d := s.random 16
    let t := { d.2.tsu with link := .keying, ownN := d.1, kLink := [], txc := 0, sent := [], keyWaits := false, helloRx := none }
    State.sendHello { d.2 with tsu := t }

/-- A HELLO whose device and PAIR_ID are right, by its payload: K_LINK is formed and CONFIRM goes out (R769). Its ECDH waits for PKE (R521, R538, R540); where PKE is off or has failed its
test, or slot 253 does not serve, the link stays in KEYING. -/
def State.formLink (s : State) (b : List Byte) : State :=
  let s := { s with tsu := { s.tsu with helloRx := none } }
  let n := slice b 8 16
  let u := s.useSlot 253 useECDH [2] 0
  if !s.flag Reg.PKE_CTRL_EN || s.flag Reg.PKE_STAT_KAT_FAIL then s
  else if !s.pkeFree then { s with tsu := { s.tsu with helloRx := some b } }
  else if u.1 ≠ 0 then u.2
  else
    let z := ecdh (ofBe (u.2.slotRaw 253).key) u.2.peerKey
    let t := (u.2.pkeBlind (mulsEcdh u.2.peerKey)).pkeCount z.isNone true
    match z with
    | none => t
    | some z =>
      let own := beBytes 8 t.devnum
      let peer := slice b 0 8
      let k := if t.tsu.secondary then linkKey z n t.tsu.ownN peer own else linkKey z t.tsu.ownN n own peer
      State.tsuSend { t with tsu := { t.tsu with peerN := n, kLink := k } } 2 []

/-- A check of R769 failed: TSU_STAT.REFUSE names it, E_187. -/
def State.pairRefuse (s : State) (why : Nat) : State := (s.set Reg.TSU_STAT_REFUSE why).raise 187

/-! ## Resynchronisation (Table 16-6; the payloads of CONTROL are assumption 22) -/

/-- A RESYNC control frame, kind 3; its answers, kind 4. -/
def State.sendResync (s : State) (sub : Nat) (body : List Byte) : State := s.tsuSendSeq 0x40 2 ([3, BitVec.ofNat 8 sub] ++ body)
def State.answerResync (s : State) (sub : Nat) (body : List Byte) : State := s.tsuSendSeq 0x40 2 ([4, BitVec.ofNat 8 sub] ++ body)

/-- The value that this device holds in PEER_RING for its partner's ring 0. -/
def State.peerRing (s : State) : Nat :=
  let r := s.reg Reg.TSU_CFG_PEER_RING
  if 8 ≤ r then s.ringValue r else 0

/-- Every mirrored group and ring, as items with their values now (stage 1). -/
def State.allItems (s : State) : List LktItem :=
  ((List.range 4096).map (fun g => LktItem.group g (s.group g)) ++ s.lkt.rings.map (fun r => LktItem.ring r.num r.newest)).filter s.mirroredItem

/-- Send items in frames of at most 64, at most `n` frames. -/
def State.sendItems (s : State) (flags : Nat) : Nat → List LktItem → State
  | 0, _ => s
  | n + 1, l =>
    if l.isEmpty then s
    else
      let body := leBytes 2 (min 64 l.length) ++ [0, 0] ++ (l.take 64).flatMap s.mirrorItemBytes
      (s.mirror 32 0x10 flags 2000000 body).sendItems flags n (l.drop 64)

/-- The field-stream SEQ of a Field Memory group. -/
def State.fieldSeq (s : State) (i : Nat) : Nat := max (bestSeq s.lkt.fieldA.recs (0xC00 + i)) (bestSeq s.lkt.fieldB.recs (0xC00 + i))

/-- Stage 1 begins on the ACTIVE: its anchor keys and its PEER_RING value, the field-stream SEQs, then every mirrored group and ring. -/
def State.resyncBegin (s : State) : State :=
  if !s.paired || s.tsu.role != .active || s.tsu.link != .up || decide (0 < s.tsu.stage) || !s.pairDegraded then s
  else
    let t : State := { s with tsu := { s.tsu with stage := 1, synced := false, search := none } }
    let t1 := t.sendResync 1 (t.anchorBytes.take 128 ++ leBytes 8 t.peerRing)
    let t2 := (List.range 8).foldl (fun u k => u.sendResync 2 (leBytes 2 k ++ (List.range 128).flatMap (fun i => leBytes 4 (t.fieldSeq (128 * k + i))))) t1
    t2.sendItems 2 128 t2.allItems

/-- The partner is heard while it was lost and the link is UP: it is no longer lost, and an ACTIVE resynchronises it (R801). -/
def State.partnerBack (s : State) : State :=
  if !s.tsu.partnerLost then s
  else State.resyncBegin { s with tsu := { s.tsu with partnerLost := false } }

/-- The link comes UP: counters start again, messages that waited for the partner go out, and an ACTIVE of a degraded pair resynchronises (R801). -/
def State.linkUp (s : State) : State :=
  let t := { s.tsu with link := .up, lseqTx := 0, lseqRx := 0, unacked := [], outbox := [], mseqNext := 1, mackDone := 0, mseqApplied := 0, items := [],
                        lastRx := s.now, partnerLost := false, crdRx := [], fieldSeqs := [], jnlMacks := [], sleepAnswer := none }
  let s1 := State.set { s with tsu := t } Reg.TSU_STAT_REFUSE 0
  let s2 := [4, 5].foldl (fun u m => match u.box m with
    | some x => u.tsuSendSeq 0x20 0 (leBytes 1 (m - 4) ++ leBytes 1 x.words.length ++ [0, 0] ++ x.words.flatMap (leBytes 4))
    | none => u) s1
  s2.resyncBegin

/-! ## Receiving (R768, R771) -/

/-- A frame of a type arrives on a link that is UP: the frame, when it is sound and next in order, and the state that has heard it. -/
def State.frameIn (s : State) (typ : Nat) (b : List Byte) : Option Frame × State :=
  if s.tsu.link ≠ .up then (none, s)
  else match openFrame s.tsu.kLink (!s.tsu.secondary) b with
    | .error _ => (none, s)
    | .ok f =>
      if f.typ ≠ typ ∨ f.typ < 3 then (none, s)
      else
        let t := (s.tsuHeard f).partnerBack
        if typ < 0x10 then (some f, t)
        else if bit f.flags 0 && f.lseq == t.tsu.lseqRx + 1 then (some f, { t with tsu := { t.tsu with lseqRx := f.lseq } })
        else (none, t)

/-- A sequenced frame's effect, with the degraded state watched. -/
def State.onFrame (s : State) (typ : Nat) (b : List Byte) (k : Frame → State → State) : State :=
  match s.frameIn typ b with
  | (some f, t) => s.degradedEdge (k f t)
  | (none, t) => s.degradedEdge t

/-- A field of a frame's payload. -/
def Frame.num (f : Frame) (o n : Nat) : Nat := ofLe (slice f.payload o n)

/-- An incoming mirror item passes through its ring (R42), when its MSEQ is one higher than the last applied (R782). -/
def State.mirrorIn (s : State) (q : Nat) (f : Frame) (k : Nat → State → State) : State :=
  let m := f.num 0 4
  if m ≠ s.tsu.mseqApplied + 1 then s
  else
    let t := s.emit q blkTSU (f.payload.take 48)
    let u := t.setRing q ((t.ring q).dropLast)
    k m { u with tsu := { u.tsu with mseqApplied := m } }

/-! ## Locket items (Tables 16-4 to 16-6, R801 to R804) -/

/-- The items of a MIRROR_LKT frame: GROUP, FLAGS, VALUE. -/
def Frame.items (f : Frame) : List (Nat × Nat × Nat) :=
  (List.range (min 64 (f.num 4 2))).map (fun i => (f.num (8 + 12 * i) 2, f.num (10 + 12 * i) 2, f.num (12 + 12 * i) 8))

/-- The greater of two 32-bit counters of a group, each for itself (the rolling-counter cells). -/
def cellMax (a b : Nat) : Nat := max (bits a 0 32) (bits b 0 32) + 2 ^ 32 * max (bits a 32 32) (bits b 32 32)

/-- What an item writes here, and what is returned to its sender because this device's value prevails. -/
def State.takeItem (s : State) (resync : Bool) (x : Nat × Nat × Nat) : List LktItem × List LktItem :=
  if bit x.2.1 2 then
    let r := s.reg Reg.TSU_CFG_PEER_RING
    if 8 ≤ r ∧ s.ringValue r < x.2.2 then ([.ring r x.2.2], []) else ([], [])
  else if 0x8000 ≤ x.1 then
    let r := x.1 - 0x8000
    let own := s.ringValue r
    if resync && r != s.reg Reg.JNL_HWM_RING then
      if own < x.2.2 then ([.ring r x.2.2], []) else if x.2.2 < own then ([], [.ring r own]) else ([], [])
    else ([.ring r x.2.2], [])
  else
    let own := s.group x.1
    if resync && decide (0x400 ≤ x.1 ∧ x.1 < 0xC00) then
      let m := cellMax own x.2.2
      (if m = own then [] else [.group x.1 m], if m = x.2.2 then [] else [.group x.1 m])
    else if resync && decide (0xC00 ≤ x.1) && s.tsu.role != .active && decide (s.tsu.fieldSeqs.getD (x.1 - 0xC00) 0 < s.fieldSeq (x.1 - 0xC00)) then
      ([], [.group x.1 own])
    else ([.group x.1 x.2.2], [])

/-- A write that switches the anchor copy brings this device's own command counter into the copy that comes into force (R462). -/
def State.withOwnCounter (s : State) (l : List LktItem) : List LktItem :=
  match l.find? (fun i => match i with | .group 8 _ => true | _ => false) with
  | some (.group _ v) =>
    let own := s.group (if s.group 8 % 2 = 0 then 0x20 else 0x38)
    LktItem.group (if v % 2 = 0 then 0x20 else 0x38) own :: l
  | _ => l

/-- A Locket mirror item's write has been settled here: it is acknowledged (R782), and what it changed of the region table reaches the registers. -/
def State.mirrorSettled (s : State) (mseq : Nat) (x : LktWrite) : State :=
  let t := if x.items.any (fun i => match i with | .group g _ => decide (0x168 ≤ g ∧ g < 0x190) | _ => false) then s.loadRegionTable else s
  t.sendMack mseq (if x.state.ok then stOK else stNV)

/-- Apply the items of a frame. -/
def State.applyItems (s : State) (f : Frame) (mseq : Nat) : State :=
  let resync := bit f.flags 1
  let two := f.items.map (s.takeItem resync)
  let write := s.withOwnCounter (two.flatMap Prod.fst)
  let back := two.flatMap Prod.snd
  let t := if back.isEmpty then s else s.sendItems 2 1 back
  if write.isEmpty then t.sendMack mseq stOK
  else
    let u := t.lktSubmit (.mirror mseq) write
    match u.settle (.mirror mseq) with
    | (some x, v) => v.mirrorSettled mseq x
    | (none, v) => v

/-! ## Journal items -/

/-- A record from its 128 bytes, in the slot that it takes here. -/
def parseRec (b : List Byte) (slot now : Nat) : JRec :=
  { seq := ofLe (slice b 0 6), time := ofLe (slice b 6 6), typ := ofLe (slice b 12 2), source := ofLe (slice b 14 2), payload := slice b 16 64,
    chain := slice b 80 32, slot := slot, at_ := now }

/-- One record past the last one assigned. -/
def Jnl.top (j : Jnl) : Nat := match j.recs.getLast? with | some r => r.seq + 1 | none => 0

/-- Store a mirrored record under the ACTIVE's SEQ. -/
def State.takeRec (s : State) (b : List Byte) : State :=
  let r := parseRec b s.jnl.slotNext s.now
  if r.seq < s.jnl.top then s
  else
    let j := { s.jnl with open_ := s.jnl.open_ ++ [r], slotNext := s.jnl.slotNext + 1, next := r.seq + 1, chain := r.chain, lastTime := r.time,
                          prevHead := if r.typ = 3 then r.seq else s.jnl.prevHead, ackNext := if r.typ = 5 then ofLe (slice r.payload 0 6) else s.jnl.ackNext }
    { s with jnl := j }

/-- Apply a MIRROR_JNL frame: records are held back while stage 1 or the comparison of stage 2 runs; a FLUSH is acknowledged when this device's own program has passed. -/
def State.applyRecords (s : State) (f : Frame) (mseq : Nat) : State :=
  let n := min 7 (f.num 4 2)
  if s.tsu.stage = 1 ∨ s.tsu.search.isSome then s.sendMack mseq stOK
  else if s.jnl.noNand || s.jnl.foreign_ || !s.jnl.mounted then s.sendMack mseq stNV
  else
    let t := (List.range n).foldl (fun u i => u.takeRec (slice f.payload (8 + 128 * i) 128)) s
    if bit (f.num 6 2) 0 then
      State.mackJnl { t with tsu := { t.tsu with jnlMacks := t.tsu.jnlMacks ++ [(mseq, t.jnl.top)] } }
    else t.sendMack mseq stOK

/-! ## Credential items (R474) -/

/-- Apply a MIRROR_CRD frame: a part of the issued set, the last one acknowledged when the bank is written; or the SWITCH. -/
def State.applySet (s : State) (f : Frame) (mseq : Nat) : State :=
  let o := f.num 4 4
  let b := f.payload.drop 8
  if o = 0xFFFFFFFF then
    match s.crd.learn with
    | some l =>
      if l.phase = .partner ∧ l.cmd.isNone ∧ l.generation = f.num 8 4 then
        let w : Learn := { l with phase := .quiet, mack := some mseq }
        let t : State := { s with crd := { s.crd with learn := some w } }
        if t.quietPoint then t.learnSelect w else t
      else s.sendMack mseq stPOLICY
    | none => s.sendMack mseq stPOLICY
  else
    let s0 : State := if o = 0 then { s with crd := { s.crd with learn := none } } else s
    let rx := if o = 0 then [] else s0.tsu.crdRx
    let all := rx ++ b
    if o ≠ rx.length then s0.sendMack mseq stPOLICY
    else if all.length < 192 ∨ all.length < 192 + 128 * setCount all + 64 then
      State.sendMack { s0 with tsu := { s0.tsu with crdRx := all } } mseq stOK
    else
      let p := State.learnBegin { s0 with tsu := { s0.tsu with crdRx := [] } } all none (some mseq) true
      if p.1.cause = 0 then p.2 else (p.2.raise 149).sendMack mseq (learnStatus p.1.cause)

/-! ## The later stages on the ACTIVE -/

/-- The records from a SEQ on go to the STANDBY, at most 7 a frame, the last one with FLUSH. -/
def State.sendRecords (s : State) (wait : Nat) : Nat → List JRec → State
  | 0, _ => s
  | n + 1, l =>
    if l.isEmpty then s
    else
      let body := leBytes 2 (min 7 l.length) ++ leBytes 2 (if l.length ≤ 7 then 1 else 0) ++ (l.take 7).flatMap JRec.bytes
      (s.mirror 33 0x11 2 wait body).sendRecords wait n (l.drop 7)

/-- The comparison has found the first SEQ not shared: the STANDBY discards from there, and gets this device's records from there. -/
def State.searchDone (s : State) (lo : Nat) : State :=
  let l := (s.jnl.nand ++ s.jnl.prog).filter (fun r => decide (lo ≤ r.seq))
  let t : State := { s with tsu := { s.tsu with search := none } }
  (t.sendResync 4 (leBytes 6 lo ++ fit 8 s.jnl.journalId)).sendRecords (2000000 + 50 * l.length) (l.length / 7 + 1) l

/-- Ask for the CHAIN in the middle of the interval, or end the comparison. -/
def State.searchNext (s : State) (lo hi : Nat) : State :=
  if hi ≤ lo then s.searchDone lo
  else State.sendResync { s with tsu := { s.tsu with search := some (lo, hi) } } 3 (leBytes 6 ((lo + hi) / 2))

/-- Stage 2 begins. -/
def State.stageTwo (s : State) : State :=
  let lo := match s.jnl.nand.head? with | some r => r.seq | none => 0
  State.searchNext { s with tsu := { s.tsu with stage := 2 } } lo (max lo s.jnl.acceptedTop)

/-- Stage 3 begins: the issued set goes out when the generations differ; it waits while SET_COPY is clear (R811). -/
def State.stageThree (s : State) : State :=
  let t : State := { s with tsu := { s.tsu with stage := 3, setWaits := false } }
  if s.tsu.hb.crdGen = s.crd.generation then { t with crd := { t.crd with degraded := false } }
  else if !s.setCopyReady then { t with tsu := { t.tsu with setWaits := true } }
  else
    let u := t.sendSet 2 (s.nor.setCopy.length / 1000 + 1) 0 s.nor.setCopy
    { u with tsu := { u.tsu with setSent := some (u.tsu.mseqNext - 1, false) } }

/-- Stage 4: the resynchronisation has completed; firmware appends PAIR_RESYNC (0x4032), whose content only the STANDBY's firmware knows and no frame carries: free (assumption 68). -/
def State.stageFour (s : State) : State :=
  let d := State.draw { s with tsu := { s.tsu with stage := 0, synced := true } } 64
  (d.2.firmwareRecord 0x4032 d.1).sendResync 5 []

/-! ## RESYNC frames -/

/-- R803: this device's ring 0 rises to the value that the partner holds for it, before it forms any further device nonce. -/
def State.raiseInvoc (s : State) (v : Nat) : State :=
  if v ≤ s.ringValue 0 then s
  else
    let w := (s.lktNow [.ring 0 v]).2
    { w with key := { w.key with invocNext := max w.key.invocNext v, invocTop := max w.key.invocTop v } }

/-- A STANDBY takes a RESYNC frame. -/
def State.resyncFrame (s : State) (f : Frame) : State :=
  let sub := f.num 1 1
  let b := f.payload.drop 2
  if sub = 1 then
    let own := s.anchorBytes.take 128
    if !s.anchorEmpty && own != b.take 128 then
      State.answerResync (State.pairRefuse { s with tsu := { s.tsu with synced := false } } 3) 1 [3, 0]
    else
      let t : State := { s with tsu := { s.tsu with stage := 1, synced := false, fieldSeqs := [], search := none } }
      (t.raiseInvoc (ofLe (slice b 128 8))).answerResync 2 (leBytes 8 t.peerRing)
  else if sub = 2 then
    { s with tsu := { s.tsu with fieldSeqs := s.tsu.fieldSeqs.take (128 * ofLe (slice b 0 2)) ++ (List.range 128).map (fun i => ofLe (slice b (2 + 4 * i) 4)) } }
  else if sub = 3 then
    let q := ofLe (slice b 0 6)
    let t : State := { s with tsu := { s.tsu with stage := 2, search := some (0, 0) } }
    match s.jnl.nand.find? (fun r => r.seq == q) with
    | some r => t.answerResync 3 (leBytes 6 q ++ [1, 0] ++ fit 32 r.chain)
    | none =>
      let gone := match s.jnl.nand.head? with | some r => decide (q < r.seq) | none => false
      t.answerResync 3 (leBytes 6 q ++ [if gone then 2 else 0, 0] ++ List.replicate 32 0)
  else if sub = 4 then
    let q := ofLe (slice b 0 6)
    let keep (l : List JRec) := l.filter (fun r => decide (r.seq < q))
    let last := (keep s.jnl.nand).getLast?
    let j := { s.jnl with nand := keep s.jnl.nand, open_ := keep s.jnl.open_, prog := keep s.jnl.prog, next := q, journalId := slice b 6 8,
                          chain := match last with | some r => r.chain | none => genesis s.devnum (slice b 6 8) q
                          heads := s.jnl.heads.filter (fun h => decide (h.seq < q)) }
    { s with jnl := j, tsu := { s.tsu with stage := 2, search := none } }
  else if sub = 5 then { s with tsu := { s.tsu with stage := 0, synced := true, fieldSeqs := [] } }
  else s

/-- The ACTIVE takes an answer: the STANDBY's refusal (R802), its PEER_RING value (R803), a CHAIN. -/
def State.resyncAnswer (s : State) (f : Frame) : State :=
  let sub := f.num 1 1
  let b := f.payload.drop 2
  if sub = 1 then
    let t := s.pairRefuse (ofLe (slice b 0 1))
    { t with tsu := { t.tsu with stage := 0, synced := false } }
  else if sub = 2 then s.raiseInvoc (ofLe (slice b 0 8))
  else match s.tsu.search with
    | none => s
    | some (lo, hi) =>
      let q := ofLe (slice b 0 6)
      if q ≠ (lo + hi) / 2 then s
      else
        let same := ofLe (slice b 6 1) == 2 || ofLe (slice b 6 1) == 1 && s.jnl.nand.any (fun r => r.seq == q && fit 32 r.chain == slice b 8 32)
        if same then s.searchNext (q + 1) hi else s.searchNext lo q

/-! ## Roles (R772 to R780) -/

/-- The role changes (R806). A device that ceases to be ACTIVE returns the host to PUBLIC (R451). -/
def State.setRole (s : State) (r : Role) : State :=
  let t : State := { s with tsu := { s.tsu with role := r } }
  if (s.tsu.role == .active) == (r == .active) then t
  else if r == .active then t.raise 186
  else (t.raise 186).hostToPublic

/-- PAIR_ARB is driven low, or released. -/
def State.driveArb (s : State) (on : Bool) : State :=
  if s.tsu.drivesArb == on then s
  else { s with tsu := { s.tsu with drivesArb := on, arbHigh := !on, arbHighSince := s.now } }

/-- Takeover (R778): the mirror items received have been applied as they came; the grant counter jumps unless a HANDOVER preceded; the open history entry is closed; the
open journal sector is programmed; firmware appends PAIR_ROLE: REASON 1 (1 after a HANDOVER, else 0), last SEQ held 6, GRANT 4 (assumption 68). -/
def State.takeover (s : State) : State :=
  let heard := s.tsu.handoverHeard
  let s1 := ((s.driveArb true).setRole .active)
  let s2 : State := { s1 with tsu := { s1.tsu with claimedAt := s.now, testsDone := 0, handoverHeard := false, stage := 0, search := none },
                              crd := { s1.crd with learn := none } }
  let s3 := if heard then s2 else (s2.lktNow [.ring 1 (s2.ringValue 1 + 65536)]).2
  let s4 := ((s3.peerSessionEnd).releaseLate (if heard then 6 else 5)).bump Reg.TSU_COUNT_TAKEOVERS
  let s5 := s4.startProgram.firmwareRecord 0x4030 (leBytes 1 (ofBool heard) ++ leBytes 6 (s.jnl.next + 2 ^ 48 - 1) ++ leBytes 4 (s4.ringValue 1))
  s5.resyncBegin

/-- An ACTIVE gives the role up: PAIR_ARB is released and an asserted release ends with reason 6, whose record is the new ACTIVE's (R444). GOV and VRD of a STANDBY issue nothing (R408, R442,
R444): the ticket at hand ends as order 2 of Table 09-2 has it, and pending proposals with cause 7 of Table 08-7 (DESIGN CHOICE, assumption 112). -/
def State.stepDown (s : State) : State :=
  let s1 := (s.driveArb false).setRole .standby
  let s2 := match s1.gov.rel with
    | some _ => ((State.outputsOff { s1 with gov := { s1.gov with rel := none } }).raise 141).set Reg.GOV_LAST_END 6
    | none => s1
  let s3 := s2.dropTicket stPOLICY 2
  s3.vrd.pending.foldl (fun t p => t.propEnd p stPOLICY 7 0 0xFFFF 0) { s3 with vrd := { s3.vrd with pending := [] } }

/-- A HANDOVER request goes on once every mirror item has been acknowledged (R780). -/
def State.handoverTry (s : State) : State :=
  match s.tsu.handover with
  | none => s
  | some _ =>
    if s.tsu.items.isEmpty && !s.pairDegraded && s.tsu.link == .up then
      let t := s.tsuSendSeq 0x40 0 [2, 0]
      let u := State.stepDown { t with tsu := { t.tsu with handover := none } }
      (u.set Reg.TSU_CTL_STATUS stOK).set Reg.TSU_CTL_HANDOVER 0
    else s

end Sys2Proof.Machine
end

