-- ==== Sys2Proof/Machine/Crypto.lean ====
section
/-! DEFINITION. Meanings of the crypto family (chapter 11). -/
namespace Sys2Proof.Machine

/-! ## AEAD on Q_4 and Q_5 -/

/-- Start an AEAD command on engine e. -/
def State.aeadStart (s : State) (r : Running) (a : AeadArgs) (isOpen : Bool) (e : Nat) : State :=
  let dev := !isOpen && (s.slot a.slot).deviceNonce
  let w := if dev then s.nonceWaits else (false, s)
  let n := if dev then w.2.deviceNonce else (0, a.nonce, s)
  if w.1 then w.2
  else if n.1 ≠ 0 then n.2.2.cryptoEnd r blkAEA n.1 []
  else
    let u := n.2.2.useSlot a.slot (if isOpen then useOPEN else useSEAL) [0, 1] 0
    if u.1 ≠ 0 then u.2.cryptoEnd r blkAEA u.1 []
    else
      let t := u.2.startCmd r
      let src := t.bytes a.pAddr (if isOpen then a.pLen + a.tagLen else a.pLen)
      let out := aeadRun (t.slotRaw a.slot).key a n.2.1 (t.bytes a.aAddr a.aLen) src isOpen
      let op : AeaOp := { cls := .bulk, slot := a.slot, ring := r.ring, cmd := r.entry.seq, isOpen := isOpen, out := out,
                          nonce := if isOpen then [] else n.2.1, dest := r.dest }
      t.engineTakes e { t.engine e with op := some op }

/-- An AEAD command: refused by Table 11-8, started on a free engine (R517, R520), or waiting for one. -/
def State.aeadCommand (s : State) (r : Running) (isOpen : Bool) : State :=
  let given := s.nonceGiven r
  let a := aeadArgs r given
  let c := s.aeadCause r a given isOpen
  if r.started then s
  else if c ≠ 0 then s.cryptoEnd r blkAEA c []
  else if !s.inTurn aeadHolds r then s
  else match s.freeEngine .bulk with
    | some e => s.aeadStart r a isOpen e
    | none => s

/-- AEAD_SEAL (R545, R548). -/
def execAeadSeal (ring : Fin 2) (s : State) : Host.Outcome State Fault Refusal :=
  .next (s.withCmd (4 + ring) 0x01 (fun r => s.aeadCommand r false))

/-- AEAD_OPEN (R509, R545, R548). -/
def execAeadOpen (ring : Fin 2) (s : State) : Host.Outcome State Fault Refusal :=
  .next (s.withCmd (4 + ring) 0x02 (fun r => s.aeadCommand r true))

/-- AEAD_OP_COMPLETE (R509, R548, R643): the engine releases its output; an open whose tag fails releases nothing. A batch of JNL's goes to its destination. Operations of GOV and GLT
are ended by their users' commands. -/
def execAeadOpComplete (engine : Fin 2) (s : State) : Host.Outcome State Fault Refusal :=
  .next (match (s.engine engine).op with
    | none => s
    | some o =>
      if o.ring = ringGov ∨ o.ring = ringGlt ∨ !s.masksFlow then s
      else if o.ring = 8 then (s.engineDone engine).exportSealed o
      else
        let t := s.engineDone engine
        match t.runningSeq o.ring o.cmd with
        | none => t
        | some r =>
          match o.out with
          | some out => (t.setBytes o.dest out).cryptoEnd r blkAEA 0 o.nonce
          | none => ((t.bumpI Reg.AEA_ERR_TAG_FAIL engine).raise 152).cryptoEnd r blkAEA 8 [])

/-- Whether an operation has run 256 block operations since it started or last resumed (R518): by R511 and the CORE clock of the level, halved in droop (R103). -/
def State.segmentRun (s : State) (o : AeaOp) : Bool :=
  let b := (if (s.slotRaw o.slot).type = 0 then 12 else 16) + 2 * s.reg Reg.AEA_CTRL_SHUFFLE
  decide (256 * b ≤ (s.now - o.runAt) * s.coreMHz)

/-- BULK_SUSPEND (R518): a BULK operation gives way, after 256 block operations, when a request of another class waits and no engine is free; telegrams that wait are such requests. -/
def execBulkSuspend (engine : Fin 2) (s : State) : Host.Outcome State Fault Refusal :=
  .next (match (s.engine engine).op with
    | none => s
    | some o =>
      let waits := !s.crypto.aeaWait.isEmpty || (!s.glt.queue.isEmpty && s.glt.held.isNone)
      if o.cls ≠ .bulk ∨ !waits ∨ !s.segmentRun o ∨ (s.freeEngine .safety).isSome ∨ (s.engine engine).susp.isSome then s
      else (s.setEngine engine { op := none, susp := some { o with suspAt := s.now } }).aeaPump.telegramPump)

/-- AEA_ERR_CLR (R549). -/
def execAeaErrClr (master : Nat) (s : State) : Host.Outcome State Fault Refusal :=
  .next (if s.mayWriteField master Reg.AEA_ERR_CLR_CLR then
    [0, 1].foldl (fun t e => ((t.setI Reg.AEA_ERR_TAG_FAIL e 0).setI Reg.AEA_ERR_ABORTED e 0).setI Reg.AEA_ERR_REFUSED e 0)
      (s.set Reg.AEA_MASK_STALLS 0)
  else s.writeRefused master Reg.AEA_ERR_CLR_CLR)

/-- CRYPTO_BULK_WAIT_EXPIRY (R547): a command of Q_4 or Q_5 that has not started BULK_WAIT ms after it reached the head of its ring ends with the first cause of Table 11-8 that holds,
7 at the latest. One that still stands in its ring, behind a command that runs, is taken for it. -/
def execCryptoBulkWaitExpiry (ring : Fin 2) (s : State) : Host.Outcome State Fault Refusal :=
  let q := 4 + ring.val
  let wait (r : Running) : Bool := r.ring == q && !r.started
  let expire (t : State) : State := match t.que.running.find? wait with
    | some r => if t.bulkLate r then t.cryptoEnd r (cryptoBlock r.entry.code) (t.cryptoCause r) [] else t
    | none => t
  .next (if s.que.running.any wait then expire s
    else match s.ring q with
      | e :: rest =>
        let late := s.since (storeGet 0 s.que.headAt q) (1000 * s.reg Reg.AEA_CFG_BULK_WAIT)
        if late && s.flag Reg.QUE_CTRL_EN && decide ((s.ring (q + 16)).length + s.reserved q < s.depth (q + 16)) then expire (s.takeHead q e rest) else s
      | [] => s)

/-! ## PKE on Q_4 and Q_5 -/

/-- Hand PKE an operation for a command. -/
def State.pkeStart (s : State) (r : Running) (kind : PkeKind) (slot : Nat) (out : List Byte) (cause : Nat) : State :=
  let t := s.startCmd r
  let op : PkeOp := { kind := kind, slot := slot, ring := r.ring, cmd := r.entry.seq, out := out, cause := cause, dest := r.dest }
  { t with crypto := { t.crypto with pke := some op } }

/-- SIGN (R525): slot, address of a 32-byte digest. -/
def execSign (ring : Fin 2) (s : State) : Host.Outcome State Fault Refusal :=
  .next (s.withCmd (4 + ring) 0x04 (fun r =>
    let slot := r.num 0 1
    let c := s.pkeCause r slot useSIGN 32 64
    if r.started then s
    else if c ≠ 0 then s.cryptoEnd r blkPKE c []
    else if !s.pkeFree || !s.inTurn pkeHolds r then s
    else
      let u := s.useSlot slot useSIGN [2] 0
      if u.1 ≠ 0 then u.2.cryptoEnd r blkPKE u.1 []
      else
        let d := (u.2.pkeBlind mulsSign).random 32
        let sig := ecdsaSign (ofBe (d.2.slotRaw slot).key) (d.2.bytes (r.num 1 4) 32) d.1
        d.2.pkeStart r .sign slot sig 0))

/-- VERIFY (R523): address of key, digest and signature. -/
def execVerify (ring : Fin 2) (s : State) : Host.Outcome State Fault Refusal :=
  .next (s.withCmd (4 + ring) 0x05 (fun r =>
    let a := r.num 0 4
    let pub := s.bytes a 64
    let ok := ecdsaVerify pub (s.bytes (a + 64) 32) (s.bytes (a + 96) 64)
    if r.started then s
    else if s.verifyCause r ≠ 0 then s.cryptoEnd r blkPKE (s.verifyCause r) []
    else if !s.pkeVerifies || !s.inTurn pkeHolds r then s
    else s.pkeStart r .verify 0 [] (if (pointOf pub).isNone then 9 else if ok then 0 else 8)))

/-- ECDH (R523): slot, address of the peer's key. -/
def execEcdh (ring : Fin 2) (s : State) : Host.Outcome State Fault Refusal :=
  .next (s.withCmd (4 + ring) 0x06 (fun r =>
    let slot := r.num 0 1
    let c := s.pkeCause r slot useECDH 64 32
    if r.started then s
    else if c ≠ 0 then s.cryptoEnd r blkPKE c []
    else if !s.pkeFree || !s.inTurn pkeHolds r then s
    else
      let u := s.useSlot slot useECDH [2] 0
      if u.1 ≠ 0 then u.2.cryptoEnd r blkPKE u.1 []
      else match ecdh (ofBe (u.2.slotRaw slot).key) (u.2.bytes (r.num 1 4) 64) with
        | some x => (u.2.pkeBlind 1).pkeStart r .ecdh slot x 0
        | none => u.2.pkeStart r .ecdh slot [] 9))

/-- PKE takes what waited for it: the journal's signature first, its class being higher (R521, R540), then the ECDH of a HELLO. -/
def State.pkePump (s : State) : State :=
  let t := s.sealPump
  match t.tsu.helloRx with
  | none => t
  | some b => if t.tsu.link = .keying then t.formLink b else { t with tsu := { t.tsu with helloRx := none } }

/-- What waited for random bits goes on (R538): sessions, the keying of the link, PKE, the telegrams and proof checks whose engine had no masks. -/
def State.rngPump (s : State) : State :=
  if !s.rngServes then s
  else
    let t := if s.jnl.formatWaits then s.releaseHeld.authorityFormat else s.releaseHeld
    (if t.tsu.keyWaits then t.keyLink else t).pkePump.telegramPump

/-- A class L reset of PKE (R524, R858): what it held or what waited for it ends; a SEAL_HEAD that it signed stays unsigned. -/
def State.pkeReset (s : State) (kind : Nat) : State :=
  let s1 := s.resetBlockFields blkPKE
  let s2 := s1.fence blkPKE kind stRESET (ofBool s.jnl.signing.isSome) pkeHolds (fun r => if r.ring = 10 then 0xF5 else if r.ring = 9 then 12 else 14)
  { s2 with
    crypto := { s2.crypto with pke := none, pkeKat := false }
    jnl := { s2.jnl with signing := none }
    fences := { s2.fences with inReset := blkPKE :: s2.fences.inReset } }

/-- R524: a signature that fails its own check: nothing is released, E_154, a CRYPTO_FAULT record, and PKE is reset under the fence rules. -/
def State.pkeFault (s : State) : State := State.pkeReset (((s.bump Reg.PKE_STAT_FAULTS).raise 154).cryptoFault blkPKE 1) 4

/-- A finished signature for JNL: it waits for its SEAL_SIG, and GO clears (R629). -/
def State.sealSigned (s : State) (sig : List Byte) : State :=
  let s1 := s.set Reg.JNL_SEAL_CTL_GO 0
  if s.jnl.signing.isNone then s1
  else { s1 with jnl := { s1.jnl with signing := none, heads := s1.jnl.heads.drop 1, sigReady := s1.jnl.sigReady ++ [sig] } }

/-- Deliver a finished PKE operation to the command that asked for it. -/
def State.pkeDeliver (s : State) (o : PkeOp) : State :=
  match s.runningSeq o.ring o.cmd with
  | none => s
  | some r =>
    if o.ring = 10 then
      (if s.rangeOk r.entry.master o.dest o.out.length && decide (o.out.length ≤ r.destLen) then
        (s.setBytes o.dest o.out).complete r blkKEY stOK 0 (leBytes 4 o.out.length)
      else s.complete r blkKEY stPOLICY 0 [])
    else if o.cause ≠ 0 then s.cryptoEnd r blkPKE o.cause []
    else (s.setBytes o.dest o.out).cryptoEnd r blkPKE 0 []

/-- PKE_OP_COMPLETE (R521, R524): `checkOk` tells whether a signature verifies under the slot's own key. -/
def execPkeOpComplete (checkOk : Bool) (s : State) : Host.Outcome State Fault Refusal :=
  .next (match s.crypto.pke with
    | none => s
    | some o =>
      if o.kind = .sign ∧ !checkOk then s.pkeFault
      else
        let s1 := s.pkeCount (o.cause == 9) (o.cause != 8)
        let s2 : State := { s1 with crypto := { s1.crypto with pke := none } }
        State.pkePump (if o.ring = ringJnl then s2.sealSigned o.out else s2.pkeDeliver o))

/-- PKE_KAT (R540, R541). -/
def execPkeKat (ok : Bool) (s : State) : Host.Outcome State Fault Refusal :=
  .next (if s.crypto.pkeKat ∨ s.crypto.pke.isSome ∨ s.fences.inReset.contains blkPKE then s
    else
      let s1 : State := { s with crypto := { s.crypto with pkeKat := true } }
      State.pkePump (if ok then s1 else ((s1.set Reg.PKE_STAT_KAT_FAIL 1).raise 153).cryptoFault blkPKE 0))

/-! ## HSH and RNG -/

/-- Whether HSH takes a message: enabled, tested (R539), with a context free (R526). -/
def State.hshServes (s : State) : Bool :=
  s.flag Reg.HSH_CTRL_EN && s.crypto.kat.contains blkHSH && !s.fences.inReset.contains blkHSH && decide (s.crypto.hsh.length < 4)

/-- HASH (R526, R527, R542): address and length, up to 4 messages at once. -/
def execHash (ring : Fin 2) (s : State) : Host.Outcome State Fault Refusal :=
  .next (s.withCmd (4 + ring) 0x03 (fun r =>
    let n := r.num 4 4
    if r.started then s
    else if s.hashCause r ≠ 0 then s.cryptoEnd r blkHSH (s.hashCause r) []
    else if !s.hshServes || !s.inTurn hshHolds r then s
    else
      let h : HshOp := { ring := r.ring, cmd := r.entry.seq, digest := sha256 (s.bytes (r.num 0 4) n), blocks := hashBlocks n, dest := r.dest }
      let t := s.startCmd r
      { t with crypto := { t.crypto with hsh := t.crypto.hsh ++ [h] } }))

/-- HSH_OP_COMPLETE (R526): the message of a ring. -/
def execHshOpComplete (ring : Fin 2) (s : State) : Host.Outcome State Fault Refusal :=
  .next (match s.crypto.hsh.find? (fun h => h.ring == 4 + ring.val) with
    | none => s
    | some h =>
      let s1 : State := { s with crypto := { s.crypto with hsh := s.crypto.hsh.erase h } }
      let s2 := s1.set Reg.HSH_BLOCKS_BLOCKS (s.reg Reg.HSH_BLOCKS_BLOCKS + h.blocks)
      match s2.runningSeq h.ring h.cmd with
      | some r => (s2.setBytes h.dest h.digest).cryptoEnd r blkHSH 0 []
      | none => s2)

/-- RANDOM (R531, R538): 1 to 256 bytes; it waits while RNG serves nothing. -/
def execRandom (ring : Fin 2) (s : State) : Host.Outcome State Fault Refusal :=
  .next (s.withCmd (4 + ring) 0x07 (fun r =>
    let n := r.num 0 2
    if s.randomCause r ≠ 0 then s.cryptoEnd r blkRNG (s.randomCause r) []
    else if !s.rngServes then s
    else
      let d := s.random n
      (d.2.setBytes r.dest d.1).cryptoEnd r blkRNG 0 []))

/-- CRYPTO_STATUS (Table 11-7). -/
def execCryptoStatus (ring : Fin 2) (s : State) : Host.Outcome State Fault Refusal :=
  .next (s.withCmd (4 + ring) 0x08 (fun r => s.cryptoEnd r blkAEA 0
    (s.regBytes Reg.AEA_STAT_BUSY 0 ++ s.regBytes Reg.AEA_STAT_BUSY 1 ++ s.regBytes Reg.PKE_STAT_BUSY 0 ++ s.regBytes Reg.HSH_STAT_BUSY 0 ++
      s.regBytes Reg.RNG_STAT_STATE 0)))

/-- RNG_RAW (R542): 1,024 to 4,096 raw bits; their collection begins. -/
def execRngRaw (s : State) : Host.Outcome State Fault Refusal :=
  .next (s.withCmd 13 0x30 (fun r =>
    let n := r.num 0 2
    let len := (n + 7) / 8
    if r.started ∨ s.crypto.rng.raw.isSome then s
    else if n < 1024 ∨ 4096 < n ∨ r.destLen < len then s.complete r blkRNG stPOLICY 1 []
    else if !s.cryptoRange r.entry.master r.dest len then s.complete r blkRNG stPOLICY 2 []
    else if r.level < 3 then s.complete r blkRNG stPOLICY 3 []
    else if s.flag Reg.RNG_STAT_KAT_FAIL then s.complete r blkRNG stPOLICY 6 []
    else
      let t := s.startCmd r
      { t with crypto := { t.crypto with rng := { t.crypto.rng with raw := some (r.entry.seq, n, r.dest) } } }))

/-- RNG_RAW_DONE (R542): the raw bits, which are free values, go to the destination; they never seed a DRBG. -/
def execRngRawDone (s : State) : Host.Outcome State Fault Refusal :=
  .next (match s.crypto.rng.raw with
    | none => s
    | some (c, n, dest) =>
      let d := s.draw ((n + 7) / 8)
      let t : State := { d.2 with crypto := { d.2.crypto with rng := { d.2.crypto.rng with raw := none } } }
      match t.runningSeq 13 c with
      | some r => (t.setBytes dest d.1).complete r blkRNG stOK 0 (leBytes 4 ((n + 7) / 8))
      | none => t)

/-- RNG_STARTUP_DONE (R534 to R536, Table 11-6): the 1,024 raw bits of the start-up test. -/
def execRngStartupDone (raw : BitVec 1024) (s : State) : Host.Outcome State Fault Refusal :=
  .next (if s.crypto.rng.state ≠ .startup then s else (if healthy raw then s.rngStart raw else s.startupFails raw).genResume.rngPump)

/-- HEALTH_TEST_FAIL (R529): 1,024 raw bits of a collection, of which the repetition count test or the adaptive proportion test fails. Bits that pass are no failure. -/
def execHealthTestFail (raw : BitVec 1024) (s : State) : Host.Outcome State Fault Refusal :=
  .next (if healthy raw then s
    else match s.crypto.rng.state with
    | .ok => s.collectionFails raw
    | .restart => s.collectionFails raw
    | .startup => (s.startupFails raw).rngPump
    | .failed => s.testFails raw
    | .unseeded => s.testFails raw)

/-- RESTART_COLLECTION_DONE (Table 11-6): 1,024 fresh raw bits reseed RNG and bring it back to OK, or the third consecutive failure leads to FAILED. -/
def execRestartCollectionDone (raw : BitVec 1024) (s : State) : Host.Outcome State Fault Refusal :=
  .next (if s.crypto.rng.state ≠ .restart then s
    else
      let s1 := s.bump Reg.RNG_STAT_RESTARTS
      if healthy raw then ((s1.reseedWith (rawBytes raw)).rngOk).genResume else s1.collectionFails raw)

/-- RNG_RESTART (Table 11-6): every 1,000 ms in FAILED or UNSEEDED, with 1,024 raw bits; RNG reseeds, or is instantiated where it never was. -/
def execRngRestart (raw : BitVec 1024) (s : State) : Host.Outcome State Fault Refusal :=
  .next (if (s.crypto.rng.state ≠ .failed ∧ s.crypto.rng.state ≠ .unseeded) ∨ !s.since s.crypto.rng.failedAt 990000 then s
    else
      let s1 := s.bump Reg.RNG_STAT_RESTARTS
      if !healthy raw then
        let t := s1.testFails raw
        { t with crypto := { t.crypto with rng := { t.crypto.rng with failedAt := s.now } } }
      else (if s1.crypto.rng.state = .unseeded then s1.rngStart raw else (s1.reseedWith (rawBytes raw)).rngOk).genResume.rngPump)

/-- RESEED (R531): due after RESEED_MS or 65,536 requests, while RNG is OK. -/
def execReseed (s : State) : Host.Outcome State Fault Refusal :=
  let g := s.crypto.rng
  .next (if g.state = .ok ∧ (65536 ≤ g.requests ∨ s.since g.lastReseed (1000 * s.reg Reg.RNG_CFG_RESEED_MS)) then s.reseed else s)

/-- MASK_RESEED (R532): the mask DRBG takes a seed from the general DRBG, every 2^20 CORE cycles. -/
def execMaskReseed (s : State) : Host.Outcome State Fault Refusal :=
  .next (if s.rngServes && decide (2 ^ 20 ≤ (s.now - s.crypto.rng.maskAt) * s.coreMHz) then
    let d := s.random 48
    let r := d.2.crypto.rng
    { d.2 with crypto := { d.2.crypto with rng := { r with mask := r.mask.map (fun m => m.reseed d.1), maskReseeds := r.maskReseeds + 1, maskAt := s.now } } }
  else s)

/-- SELF_TEST_DONE (R539, R541): which of AEA_0, AEA_1, HSH and RNG passed. -/
def execSelfTestDone (aea0 aea1 hsh rng : Bool) (s : State) : Host.Outcome State Fault Refusal :=
  let failed (ok : Bool) (f : Field) (i b : Nat) (t : State) : State := if ok then t else ((t.setI f i 1).raise 153).cryptoFault b 0
  let due := [blkAEA, blkHSH, blkRNG].filter (fun n => !s.crypto.kat.contains n && !s.fences.inReset.contains n)
  let s1 : State := { s with crypto := { s.crypto with kat := s.crypto.kat ++ due } }
  let s2 := failed (aea1 || !due.contains blkAEA) Reg.AEA_STAT_KAT_FAIL 1 blkAEA (failed (aea0 || !due.contains blkAEA) Reg.AEA_STAT_KAT_FAIL 0 blkAEA s1)
  .next (State.rngPump (State.telegramPump (State.aeaPump (failed (rng || !due.contains blkRNG) Reg.RNG_STAT_KAT_FAIL 0 blkRNG (failed (hsh || !due.contains blkHSH) Reg.HSH_STAT_KAT_FAIL 0 blkHSH s2)))))

/-- KEYGEN_TIMEOUT (R537): a generation that has waited 1,000 ms for RNG OK ends without a key: REFUSED_POLICY, cause 15. -/
def execKeygenTimeout (s : State) : Host.Outcome State Fault Refusal :=
  .next (match s.key.genWaits with
    | some t => if s.since t 1000000 then { s with key := { s.key with genWaits := none, genEnd := some (stPOLICY, 15) } } else s
    | none => s)

end Sys2Proof.Machine
end

