-- ==== Sys2Proof/Machine/Keys.lean ====
section
/-! DEFINITION. Meanings of the privilege and key commands of Q_9 and Q_10 (chapter 10); the authority commands and the learning of sets stand in
files of their own. -/
namespace Sys2Proof.Machine

/-! ## Elevation (R455 to R458) -/

/-- PRIV_CHALLENGE (R455): a fresh challenge and the device number; it waits while RNG serves nothing (R538), and is refused when RNG failed its self-test (R541). -/
def execPrivChallenge (s : State) : Host.Outcome State Fault Refusal :=
  .next (s.withCmd 10 0x01 (fun r =>
    if s.flag Reg.RNG_STAT_KAT_FAIL then s.complete r blkKEY stPOLICY 6 []
    else if !s.rngServes then s
    else
      let d := s.random 16
      let p := { d.2.priv with challenge := some { bytes := d.1, at_ := s.now } }
      State.complete { d.2 with priv := p } r blkKEY stOK 0 (d.1 ++ leBytes 8 s.devnum)))

/-- The message that PRIV_PROVE signs (R456). -/
def proveMessage (devnum : Nat) (challenge : List Byte) (level keyidx master : Nat) : List Byte :=
  [0x50, 0x52, 0x49, 0x56] ++ beBytes 8 devnum ++ challenge ++ leBytes 1 level ++ leBytes 1 keyidx ++ leBytes 1 master

/-- The key under which an elevation is proved (Table 10-1): the maker anchor for MAKER, an operator key for OPERATOR. -/
def State.proveKey (s : State) (level keyidx : Nat) : List Byte :=
  if level = 3 then (if s.areaDamaged 0 then [] else s.makerKey) else s.key.opKeys.getD keyidx []

/-- Whether PRIV_PROVE is locked out now (R457). -/
def State.proveLocked (s : State) : Bool := match s.priv.lockedAt with | some t => !s.since t 60000000 | none => false

/-- A failed PRIV_PROVE (R457). -/
def State.proveFail (s : State) (master : Nat) : State :=
  let s1 := s.journal blkKEY 0x0030 (noRef ++ leBytes 2 0xFFFF ++ leBytes 1 3 ++ leBytes 1 0 ++ leBytes 1 master)
  let fails := s.now :: s.priv.fails.filter (fun t => !s.since t 60000000)
  let p := { s1.priv with fails := fails, lockedAt := if 3 ≤ fails.length then some s.now else s1.priv.lockedAt }
  { s1 with priv := p }

/-- PRIV_PROVE (R455 to R457): level, key index, address and length of the signature. -/
def execPrivProve (s : State) : Host.Outcome State Fault Refusal :=
  .next (s.withCmd 10 0x02 (fun r =>
    let level := r.num 0 1
    let keyidx := r.num 1 1
    let m := r.entry.master
    if s.proveLocked then s.complete r blkKEY stLOCKOUT 0 []
    else if (level ≠ 2 ∧ level ≠ 3) ∨ r.num 6 4 ≠ 64 ∨ !s.rangeOk m (r.num 2 4) 64 then s.complete r blkKEY stPOLICY 0 []
    else match s.priv.challenge with
      | none => s.complete r blkKEY stPOLICY 0 []
      | some c =>
        if s.since c.at_ 10000000 then s.complete r blkKEY stPOLICY 0 []
        else if s.flag Reg.PKE_STAT_KAT_FAIL then s.complete r blkKEY stPOLICY 6 []
        else if !s.pkeVerifies || !s.inTurn pkeHolds r then s
        else
          let v := s.pkeVerify (s.proveKey level keyidx) (proveMessage s.devnum c.bytes level keyidx m) (s.bytes (r.num 2 4) 64)
          let used : State := { v.2 with priv := { v.2.priv with challenge := none } }
          if !v.1 then (used.proveFail m).complete r blkKEY stAUTH 0 []
          else
            let t := if m = 3 then used.setPriv { used.priv with elevated := some (level, s.now) } else used
            t.complete r blkKEY stOK 0 (leBytes 1 level ++ leBytes 2 1800)))

/-- PRIV_DRIVER (R458): session and handle. -/
def execPrivDriver (s : State) : Host.Outcome State Fault Refusal :=
  .next (s.withCmd 10 0x03 (fun r =>
    match s.priv.proofs.find? (fun p => p.1 == r.num 0 4 && p.2.1 == r.num 4 2 && decide (s.now ≤ p.2.2.2 + 60000000)) with
    | none => s.complete r blkKEY stPOLICY 0 []
    | some p =>
      let t := if r.entry.master = 3 then s.setPriv { s.priv with driver := some (p.2.2.1, s.now) } else s
      t.complete r blkKEY stOK 0 (leBytes 2 p.2.2.1 ++ leBytes 2 600)))

/-- PRIV_DROP (R451). -/
def execPrivDrop (s : State) : Host.Outcome State Fault Refusal :=
  .next (s.withCmd 10 0x04 (fun r => (if r.entry.master = 3 then s.hostToPublic else s).complete r blkKEY stOK 0 []))

/-- PRIVILEGE_EXPIRY (R449): an elevation of 30 min or a DRIVER grant of 10 min ends. -/
def execPrivilegeExpiry (s : State) : Host.Outcome State Fault Refusal :=
  let old (t d : Nat) := s.since t d
  let p := { s.priv with
    elevated := s.priv.elevated.filter (fun e => !old e.2 1800000000)
    driver := s.priv.driver.filter (fun d => !old d.2 600000000) }
  .next (s.setPriv p)

/-! ## Anchors and the Hallmark (R453, R476 to R478, R876) -/

/-- Complete a Q_10 command whose data goes to its destination (R722). -/
def State.completeTo (s : State) (r : Running) (block : Nat) (data : List Byte) : State :=
  if s.rangeOk r.entry.master r.dest data.length && decide (data.length ≤ r.destLen) then
    (s.setBytes r.dest data).complete r block stOK 0 (leBytes 4 data.length)
  else s.complete r block stPOLICY 0 []

/-- ANCHOR_GET: both anchor keys and the counter; a DAMAGED record ends it with NV_FAIL (R588). -/
def execAnchorGet (s : State) : Host.Outcome State Fault Refusal :=
  .next (s.withCmd 10 0x11 (fun r =>
    if s.areaDamaged 0 then s.complete r blkKEY stNV 0 []
    else s.completeTo r blkKEY (s.authorityKey ++ s.makerKey ++ leBytes 4 s.authCounter)))

/-- HALLMARK_GET (R478): certificate, transport public key, attestation. -/
def execHallmarkGet (s : State) : Host.Outcome State Fault Refusal :=
  let pub := publicKey (ofBe s.fuseTransport)
  .next (s.withCmd 10 0x12 (fun r =>
    s.hallmarkSign r ([0x54, 0x52, 0x4E, 0x53] ++ beBytes 8 s.devnum ++ pub) (s.key.certificate ++ pub)))

/-- DEVICE_ATTEST (Table 10-7): a signature over the caller's 32-byte challenge. -/
def execDeviceAttest (s : State) : Host.Outcome State Fault Refusal :=
  .next (s.withCmd 10 0x13 (fun r => s.hallmarkSign r ([0x41, 0x54, 0x53, 0x54] ++ beBytes 8 s.devnum ++ r.sub 0 32) []))

/-! ## Key slots (R498 to R501, R870) -/

/-- The new key takes effect (R499): count and ceiling start at 0, E_146, and the change is made durable before the load completes (R490). -/
def State.loadTakesEffect (s : State) (n : Nat) (l : PendingLoad) : State :=
  let old := s.slotRaw n
  let c := s.lktNow (s.ceilingItems n 0)
  if !c.1 then (c.2.setSlot n (old.rest n)).failCmd blkKEY stNV 0 (10, l.cmd)
  else
    let s1 := c.2.setSlot n { state := .active, key := l.key, attrs := l.attrs, loadCtr := some l.ctr }
    ((s1.raise 146).keyEvent n 0).startVault [(n, old.rest n)] (some l.cmd)

/-- The operands of KEY_LOAD: slot, attributes, load counter, ephemeral key (address, length), wrapped key (address, length). -/
structure KeyLoadArgs where
  slot : Nat
  attrs : Nat
  ctr : Nat
  eph : Nat
  ephLen : Nat
  wrap : Nat
  wrapLen : Nat
  deriving DecidableEq, Repr

/-- The payload of KEY_LOAD (R498, R872). -/
def keyLoadArgs (r : Running) : KeyLoadArgs :=
  { slot := r.num 0 1, attrs := r.num 1 4, ctr := r.num 5 4, eph := r.num 9 4, ephLen := r.num 13 4, wrap := r.num 17 4, wrapLen := r.num 21 4 }

/-- Whether the new attributes are ones a loaded slot may have (Tables 10-6, 10-8). -/
def KeyLoadArgs.allowed (a : KeyLoadArgs) : Bool :=
  let x : Slot := { attrs := a.attrs }
  decide (a.slot < 248) && decide (x.type < 3) && decide (2 ≤ x.owner) && decide (x.owner ≤ 4) && decide (x.bound ≤ 5) &&
    decide (10 ≤ x.limitExp) && decide (x.limitExp ≤ 32) && a.ephLen == 64 && a.wrapLen == (if x.type = 0 then 24 else 40)

/-- The key under which a load is wrapped (R498). -/
def loadWrapKey (x : List Byte) (devnum slot ctr : Nat) : List Byte :=
  sha256 ([0x4B] ++ x ++ leBytes 8 devnum ++ leBytes 1 slot ++ leBytes 4 ctr)

/-- KEY_LOAD (R498, R499). -/
def execKeyLoad (s : State) : Host.Outcome State Fault Refusal :=
  .next (s.withCmd 10 0x20 (fun r =>
    let a := keyLoadArgs r
    let cur := s.slotRaw a.slot
    let m := r.entry.master
    if r.started then s
    else if !a.allowed || !s.rangeOk m a.eph 64 || !s.rangeOk m a.wrap a.wrapLen then s.complete r blkKEY stPOLICY 0 []
    else if !s.flag Reg.KEY_CTRL_EN ∨ r.level < cur.owner ∨ r.level < (({ attrs := a.attrs } : Slot)).owner ∨
        cur.loadCtr.any (fun c => a.ctr ≤ c) then s.complete r blkKEY stPOLICY 0 []
    else if cur.state = .draining then s.complete r blkKEY stSLOTBUSY 0 []
    else if s.flag Reg.PKE_STAT_KAT_FAIL || s.enginesFailed then s.complete r blkKEY stPOLICY 6 []
    else if s.key.vaultJob.isSome ∨ !(s.pkeFree && s.inTurn pkeHolds r && (s.freeEngine .bulk).isSome) then s
    else
      let u := s.useSlot 253 useECDH [2] 0
      if u.1 ≠ 0 then u.2.complete r blkKEY (causeStatus u.1) 0 []
      else
       let u := (u.1, u.2.pkeBlind (mulsEcdh (u.2.bytes a.eph 64)))
       match ecdh (ofBe (u.2.slotRaw 253).key) (u.2.bytes a.eph 64) with
        | none => (u.2.pkeCount true true).complete r blkKEY stAUTH 0 []
        | some x =>
         let w := ((u.2.pkeCount false true).hashed [46]).aeaCount .bulk 1
         match aesUnwrap (loadWrapKey x s.devnum a.slot a.ctr) (u.2.bytes a.wrap a.wrapLen) with
          | none => w.complete r blkKEY stAUTH 0 []
          | some k =>
            let l : PendingLoad := { cmd := r.entry.seq, key := k, attrs := bits a.attrs 4 22 * 16, ctr := a.ctr }
            let t := w.startCmd r
            if (t.inFlightCmds a.slot).isEmpty then t.loadTakesEffect a.slot l
            else t.setSlot a.slot { t.slotRaw a.slot with state := .draining, load := some l }))

/-- KEY_LOAD_TAKES_EFFECT (R499): on a DRAINING slot with nothing in flight. -/
def execKeyLoadTakesEffect (slot : Fin 256) (s : State) : Host.Outcome State Fault Refusal :=
  let x := s.slotRaw slot
  .next (match x.state, x.load with
    | .draining, some l => if (s.inFlightCmds slot).isEmpty ∧ s.key.vaultJob.isNone then s.loadTakesEffect slot l else s
    | _, _ => s)

/-- KEY_ZEROIZE on Q_10 (R870). -/
def execKeyZeroize (s : State) : Host.Outcome State Fault Refusal :=
  .next (s.withCmd 10 0x21 (fun r =>
    let n := r.num 0 1
    let x := s.slot n
    if 253 ≤ n then s.complete r blkKEY stPOLICY 0 []
    else if x.state = .empty then s.complete r blkKEY (if 2 ≤ r.level then stOK else stPOLICY) 0 []
    else if r.level < x.owner then s.complete r blkKEY stPOLICY 0 []
    else (s.zeroize n).complete r blkKEY stOK 0 []))

/-- What a write of KEY_ZEROIZE does (R500, R504, R870): nothing unless KEY is 0x5A; with ALL it zeroizes slots 0 to 247 and 255, else the slot named (assumption 113). `authority` when the
authority window admits it, which alone reaches slots 253 and 254. -/
def State.zeroizeWrite (s : State) (slot key : Nat) (all authority : Bool) : State :=
  if key ≠ 0x5A then s
  else if all then s.zeroizeAll s.zeroizable
  else if (slot = 253 ∨ slot = 254) ∧ !authority then s
  else s.zeroize slot

/-- KEY_ZEROIZE_SLOT (R500): KEY_ZEROIZE written by a master. -/
def execKeyZeroizeSlot (master : Nat) (slot key : BitVec 8) (s : State) : Host.Outcome State Fault Refusal :=
  let named := (s.namedWrite master Reg.KEY_ZEROIZE_KEY).any (fun w => bits w.value 0 8 == slot.toNat && bits w.value 8 8 == key.toNat)
  let s1 := if named && (slot.toNat == 253 || slot.toNat == 254) then s.admitted else s
  .next (if master ≠ 1 ∨ (key = 0x5A ∧ (slot = 253 ∨ slot = 254) ∧ !named) then s.writeRefused master Reg.KEY_ZEROIZE_KEY
  else s1.zeroizeWrite slot.toNat key.toNat false named)

/-- KEY_ZEROIZE_ALL (R500): KEY_ZEROIZE written with ALL, and KEY 0x5A. -/
def execKeyZeroizeAll (master : Nat) (s : State) : Host.Outcome State Fault Refusal :=
  .next (if master = 1 then s.zeroizeWrite 0 0x5A true false else s.writeRefused master Reg.KEY_ZEROIZE_ALL)

/-- KEY_INFO: KEY_SLOT_INFO and KEY_SLOT_USES of a slot. -/
def execKeyInfo (s : State) : Host.Outcome State Fault Refusal :=
  .next (s.withCmd 10 0x22 (fun r =>
    let q := s.set Reg.KEY_SLOT_QRY_INDEX (r.num 0 1)
    s.complete r blkKEY stOK 0 (q.regBytes Reg.KEY_SLOT_INFO_STATE 0 ++ q.regBytes Reg.KEY_SLOT_USES_USED 0)))

/-- SET_STATUS: CRD_STAT and CRD_GEN. -/
def execSetStatus (s : State) : Host.Outcome State Fault Refusal :=
  .next (s.withCmd 9 0x02 (fun r => s.complete r blkCRD stOK 0 (s.regBytes Reg.CRD_STAT_TABLE_VALID 0 ++ s.regBytes Reg.CRD_GEN_GENERATION 0)))

end Sys2Proof.Machine
end

