-- ==== Sys2Proof/Machine/Queues.lean ====
section
/-! DEFINITION. Meanings of the queue, mailbox, Clasp and system-queue commands (chapter 15). -/
namespace Sys2Proof.Machine

/-- The 64 bytes of a master's QUE_BUF. -/
def State.queBuf (s : State) (m : Nat) : List Byte := (List.range 16).flatMap (fun w => leBytes 4 (s.regB Reg.QUE_BUF_DATA w m))

/-- Fill a master's QUE_BUF. -/
def State.setQueBuf (s : State) (m : Nat) (b : List Byte) : State :=
  (List.range 16).foldl (fun t w => t.setB Reg.QUE_BUF_DATA w m (ofLe (slice b (4 * w) 4))) s

/-- QUE_ENQ (R718): a core pushes its QUE_BUF to the ring that it names. -/
def execQueEnq (master : Nat) (s : State) : Host.Outcome State Fault Refusal :=
  .next (if master = 1 ∨ master = 2 then
    let p := s.push master (s.regB Reg.QUE_ENQ_CTL_QUEUE 0 master) (s.queBuf master)
    let t := p.2.2.setB Reg.QUE_ENQ_CTL_STATUS 0 master p.1
    if p.1 = stOK then t.setB Reg.QUE_ENQ_SEQ_SEQ 0 master p.2.1 else t
  else if s.mayWriteField master Reg.QUE_ENQ_CTL_QUEUE then s else s.writeRefused master Reg.QUE_ENQ_CTL_QUEUE)

/-- QUE_DEQ (R723). -/
def execQueDeq (master : Nat) (s : State) : Host.Outcome State Fault Refusal :=
  .next (if master = 1 ∨ master = 2 then
    let p := s.pop master (s.regB Reg.QUE_DEQ_CTL_QUEUE 0 master)
    (p.2.2.setQueBuf master p.2.1).setB Reg.QUE_DEQ_CTL_STATUS 0 master p.1
  else if s.mayWriteField master Reg.QUE_DEQ_CTL_QUEUE then s else s.writeRefused master Reg.QUE_DEQ_CTL_QUEUE)

/-- QUEUE_TAKE (R719, R720, R728): the head of ring q, when it is the next to be taken. -/
def execQueueTake (q : Fin 16) (s : State) : Host.Outcome State Fault Refusal :=
  .next (match s.ring q with
    | e :: rest => if s.takesNext q then s.takeHead q e rest else s
    | [] => s)

/-- QUEUE_BULK_WAIT_EXPIRY (R730): a BULK command of a ring that its target has not started BULK_WAIT ms after it was taken. Q_4 and Q_5 have a limit of their own, and
commands of Q_14 and Q_15 start with their core. -/
def execQueueBulkWaitExpiry (q : Fin 16) (s : State) : Host.Outcome State Fault Refusal :=
  let bulk (r : Running) := match cmdRow r.ring r.entry.code with | some c => c.cls == .bulk | none => false
  .next (match s.que.running.find? (fun r => r.ring == q.val && !r.started && bulk r) with
    | none => s
    | some r =>
      if q.val = 4 ∨ q.val = 5 ∨ 14 ≤ q.val ∨ !s.since r.takenAt (1000 * s.reg Reg.QUE_CFG_BULK_WAIT) then s
      else s.complete r (match cmdRow r.ring r.entry.code with | some c => c.block | none => blkQUE) stFULL 0xF0 [])

/-! ## Q_0, Q_13, Q_14, Q_15 (Table 15-7) -/

/-- SYS_INFO: SYS_ID, device number, image generation, pair role. -/
def execSysInfo (s : State) : Host.Outcome State Fault Refusal :=
  .next (s.withCmd 0 0x01 (fun r => s.complete r blkSYS stOK 0
    (s.regBytes Reg.SYS_ID_STEPPING 0 ++ leBytes 8 s.devnum ++ s.regBytes Reg.SYS_IMG_GEN_GEN 0 ++ leBytes 1 (ofBool (s.tsu.role == .active)))))

/-- PING: completes at once. -/
def execPing (s : State) : Host.Outcome State Fault Refusal := .next (s.withCmd 0 0x04 (fun r => s.complete r blkSYS stOK 0 []))

/-- TIME_SET (R733): sets the RTC and completes when its record is accepted. -/
def execTimeSet (s : State) : Host.Outcome State Fault Refusal :=
  .next (s.withCmd 0 0x03 (fun r =>
    let new := r.num 0 6
    let back := match s.rtcMs with | some t => decide (new < t) | none => false
    if r.started then s
    else if back && decide (r.level < 3) then s.complete r blkAON stPOLICY 0 []
    else
      let old := s.timeForm
      let t := s.startCmd r
      let w : RecWait := { ring := 0, cmd := r.entry.seq, typ := 7, seq := none, data := leBytes 6 old ++ leBytes 6 new }
      let u : State := { t with tim := { t.tim with rtc := some (new, s.now) }, jnl := { t.jnl with recWaits := t.jnl.recWaits ++ [w] } }
      let v := u.journal blkAON 0x0007 (leBytes 6 old ++ leBytes 6 new ++ leBytes 1 r.entry.master)
      if v.jnl.q46.length = u.jnl.q46.length then v.waitsLost else v))

/-- QUE_STATUS: QUE_RING_STAT and QUE_TAKEN of each ring from the first to the last; more than 40 bytes go to the destination (R722). -/
def execQueStatus (s : State) : Host.Outcome State Fault Refusal :=
  .next (s.withCmd 13 0x01 (fun r =>
    let a := r.num 0 1
    let b := r.num 1 1
    let one (q : Nat) := s.regBytes Reg.QUE_RING_STAT_FILL q ++ (if q < 16 then s.regBytes Reg.QUE_TAKEN_SEQ q else leBytes 4 0xFFFFFFFF)
    let data := (List.range (b + 1 - a)).flatMap (fun i => one (a + i))
    if b < a ∨ 40 ≤ b then s.complete r blkQUE stPOLICY 0 []
    else if data.length ≤ 40 then s.complete r blkQUE stOK 0 data
    else s.completeTo r blkQUE data))

/-- FIRMWARE_COMMAND (R735): the core that has a Q_14 (application) or Q_15 (security) command completes it, with a status, a cause and data of its
firmware. -/
def execFirmwareCommand (security : Bool) (status cause : BitVec 8) (data : List Byte) (s : State) : Host.Outcome State Fault Refusal :=
  .next (match s.que.running.find? (fun r => r.ring == (if security then 15 else 14)) with
    | some r => s.complete r blkSYS status.toNat cause.toNat data
    | none => s)

/-! ## Mailboxes and Clasps -/

/-- MAILBOX_SEND (R737): a master's banked message. -/
def execMailboxSend (master : Nat) (s : State) : Host.Outcome State Fault Refusal :=
  let n := s.regB Reg.MBX_TX_CTL_LEN 0 master
  let words := (List.range n).map (fun w => s.regB Reg.MBX_TX_DATA w master)
  let p := s.placeMessage master (s.regB Reg.MBX_TX_CTL_DEST 0 master) words
  .next (if s.mayWriteField master Reg.MBX_TX_CTL_GO then p.2.setB Reg.MBX_TX_CTL_STATUS 0 master p.1 else s.writeRefused master Reg.MBX_TX_CTL_GO)

/-- MAILBOX_ACK (R739). -/
def execMailboxAck (master : Nat) (box : Fin 8) (s : State) : Host.Outcome State Fault Refusal := .next (s.ackBox master box)

/-- MAILBOX_CROSSING (R742): crossing i has held for CROSS_US. -/
def execMailboxCrossing (i : Fin 4) (s : State) : Host.Outcome State Fault Refusal :=
  let d := s.reg Reg.MBX_CFG_CROSS_US
  let masters : List Nat := if i.val = 0 then [1, 2] else if i.val = 1 then [1, 3] else if i.val = 2 then [2, 3]
    else (if s.crossed 1 4 d then [1] else []) ++ (if s.crossed 2 4 d then [2] else [])
  .next (if s.crossing i d && !s.mbx.cross.getLsb i then
    let t : State := { s with mbx := { s.mbx with cross := s.mbx.cross ||| (1#4 <<< i.val) } }
    masters.foldl (fun u m => u.raiseTo (56 + i) m) t
  else s)

/-- CLASP_READ (R745). -/
def execClaspRead (master : Nat) (k : Fin 32) (s : State) : Host.Outcome State Fault Refusal := .next (s.claspRead master k).2

/-- CLASP_WRITE (R748). -/
def execClaspWrite (master : Nat) (k : Fin 32) (value : Nat) (s : State) : Host.Outcome State Fault Refusal := .next (s.claspWrite master k value)

/-- CLASP_RELEASE_HOST (R748). -/
def execClaspReleaseHost (master : Nat) (s : State) : Host.Outcome State Fault Refusal :=
  .next (if master = 1 ∨ master = 2 ∨ master = 3 then s.claspsFree 3 else s)

/-- HIF_ERR_CLR (R756). -/
def execHifErrClr (master : Nat) (s : State) : Host.Outcome State Fault Refusal :=
  .next (s.clearBy master Reg.HIF_ERR_CLR_CLR [Reg.HIF_ERR_BAD_OP, Reg.HIF_ERR_SHORT, Reg.HIF_ERR_ABANDONED])

end Sys2Proof.Machine
end

