-- ==== Sys2Proof/Machine/Glt.lean ====
section
/-! DEFINITION. Meanings of Gelet's commands: sessions, frames, replies, telegrams, lockouts, UHF reception (chapters 05 and 06). -/
namespace Sys2Proof.Machine

/-! ## Opening and ending -/

/-- GLT_OPEN (R262): a core's write of GLT_SESS_CTL with OPEN set. -/
def execGltOpen (master : Nat) (template : Fin 16) (s : State) : Host.Outcome State Fault Refusal :=
  .next (if master = 1 ∨ master = 2 then (s.set Reg.GLT_SESS_CTL_TEMPLATE template.val).gltOpen template.val .core false else if s.mayWriteField master Reg.GLT_SESS_CTL_OPEN then s else s.writeRefused master Reg.GLT_SESS_CTL_OPEN)

/-- GLT_ABORT (Table 05-8): the session ends at the next Fret boundary with cause 2; ABORT reads 1 until then (Table 00-4). -/
def execGltAbort (master : Nat) (s : State) : Host.Outcome State Fault Refusal :=
  .next (if !s.mayWriteField master Reg.GLT_SESS_CTL_ABORT then s.writeRefused master Reg.GLT_SESS_CTL_ABORT
  else match s.glt.sess with
    | some g =>
      if master = 1 ∨ master = 2 then
        let seq := s.lfa.seq.map (fun q => if q.issuer == 1 then { q with stop := true } else q)
        State.setSess (State.set { s with lfa := { s.lfa with seq := seq } } Reg.GLT_SESS_CTL_ABORT 1) { g with abort := true }
      else s
    | none => s)

/-- SESSION_OPEN (R262, R263): the Q_1 command names its template in payload byte 0. -/
def execSessionOpen (s : State) : Host.Outcome State Fault Refusal :=
  .next (match s.que.running.find? (fun r => r.ring == 1 && r.entry.code == 1 && !r.started) with
    | some r => (s.startCmd r).gltOpen (r.num 0 1) (.queue r.entry.seq) false
    | none => s)

/-- SESSION_TIMEOUT (R263, R264): T_MAX, or 2 s without LF after an abort. While a dip stands the aborted session waits for its end, at which it is reopened or completes (R148). -/
def execSessionTimeout (s : State) : Host.Outcome State Fault Refusal :=
  .next (match s.glt.sess with
    | none => s
    | some g => match g.step with
      | .aborted t =>
        if !s.since t 2000000 || s.pwr.dip then s
        else match g.ends with | some e => s.gltComplete g e.1 e.2 | none => s.gltReopen g
      | _ => if g.ends.isNone && s.since g.openedAt (1000 * s.reg Reg.GLT_SESS_CFG_T_MAX) then s.gltCut g else s)

/-! ## Downlink frames -/

/-- The frame that is due goes on the air when it is of a kind, LFA has ended the last one and LF is allowed. -/
def State.gltFrame (s : State) (want : Downlink → Bool) : State :=
  match s.glt.sess with
  | none => s
  | some g => match g.step with
    | .due d =>
      let draws : Bool := match d with | .challenge _ => true | _ => false
      if want d && s.airFree && s.lfAllowed && (!draws || s.rngServes) then
        let t := s.gltSend g d
        if t.lfa.done.isEmpty then t else t.gltBoundary
      else s
    | _ => s

/-- WAKE (R235, Table 05-2). -/
def execWake (s : State) : Host.Outcome State Fault Refusal := .next (s.gltFrame (fun d => match d with | .wake => true | _ => false))
/-- ROUND (R247). -/
def execRound (s : State) : Host.Outcome State Fault Refusal := .next (s.gltFrame (fun d => match d with | .round _ => true | _ => false))
/-- CHALLENGE (R247, R253). -/
def execChallenge (s : State) : Host.Outcome State Fault Refusal := .next (s.gltFrame (fun d => match d with | .challenge _ => true | _ => false))
/-- MEASURE (R254). -/
def execMeasure (s : State) : Host.Outcome State Fault Refusal := .next (s.gltFrame (fun d => match d with | .measure _ => true | _ => false))
/-- REPORT (R253, R259). -/
def execReport (s : State) : Host.Outcome State Fault Refusal := .next (s.gltFrame (fun d => match d with | .report _ _ _ => true | _ => false))
/-- HALT (R260, R261, R263). -/
def execHalt (s : State) : Host.Outcome State Fault Refusal := .next (s.gltFrame (fun d => match d with | .halt _ => true | _ => false))
/-- REPEAT (R260). -/
def execRepeatReply (s : State) : Host.Outcome State Fault Refusal := .next (s.gltFrame (fun d => match d with | .again _ => true | _ => false))
/-- RELEASE (R260). -/
def execRelease (s : State) : Host.Outcome State Fault Refusal := .next (s.gltFrame (fun d => match d with | .release _ => true | _ => false))
/-- NEXT_SLOT (R244). -/
def execNextSlot (s : State) : Host.Outcome State Fault Refusal := .next (s.gltFrame (fun d => match d with | .nextSlot => true | _ => false))

/-! ## Reception (R266 to R271) -/

/-- A receiver. -/
def State.uhf (s : State) (r : Nat) : Uhf := if r = 0 then s.glt.uhf0 else s.glt.uhf1
def State.setUhf (s : State) (r : Nat) (u : Uhf) : State :=
  if r = 0 then { s with glt := { s.glt with uhf0 := u } } else { s with glt := { s.glt with uhf1 := u } }

/-- Whether a receiver's sniff window is open (R269): 9 ms, extended to 17 ms, each with its tolerance. -/
def State.sniffOpen (s : State) (r : Nat) : Bool :=
  match s.glt.sniff with
  | some w => w.1 == r && !s.since w.2.1 (if w.2.2 then 17201 else 9201)
  | none => false

/-- Whether receiver r receives now: enabled, and awake or in its sniff window; both do in the 10 s after a wake from S3 (R129, R304). -/
def State.receives (s : State) (r : Nat) : Bool :=
  if s.sleeping = 0 then bit (s.reg Reg.UHF_CTRL_EN) r || s.pwr.listenSince.isSome else bit (s.reg Reg.UHF_CTRL_EN) r && s.sniffOpen r

/-- A valid frame at a receiver: RSSI, FRAMES, E_104 + r. -/
def State.validFrame (s : State) (r : Nat) (rssi : BitVec 8) : State :=
  ((s.setUhf r { s.uhf r with rssi := rssi.toNat, unlocked := false }).bumpI Reg.UHF_STAT_FRAMES r).raise (104 + r)

/-- Where a reply of the session must be heard: UHF receiver 0 or 1 set to 20 kbit/s FSK, or 2, the LF carrier. -/
def State.sessionHears (s : State) (g : GSess) (rx : Nat) : Bool :=
  if bit g.mode 0 then rx == 2
  else
    let r := bandReceiver (bits g.mode 1 2)
    rx == r && s.receives r && s.regI Reg.UHF_MOD_ASK r == 0 && s.regI Reg.UHF_MOD_RATE r == 0

/-- A receiver reports RSSI for a frame that it has accepted (R268), and counts it when its CRC holds. -/
def State.heardBy (s : State) (r : Nat) (rssi : BitVec 8) (valid : Bool) : State :=
  if valid then s.validFrame r rssi else s.setUhf r { s.uhf r with rssi := rssi.toNat }

/-- A session's uplink frame reaches the link layer. -/
def State.heardFrame (s : State) (g : GSess) (rx : Nat) (rssi : BitVec 8) (frame : List Byte) : State :=
  if rx < 2 then s.heardBy rx rssi (uplink g.tag frame).1 else s

/-- A HANDLE frame in a slot (R245): `start` in cycles after the E_end that opened the round or window. A handle is selected when the round ends, so one heard already in this round makes
its slot SINGLE again (DESIGN CHOICE, assumption 109). -/
def State.handleFrame (s : State) (start : Nat) (frame : List Byte) : State :=
  match s.glt.sess with
  | none => s
  | some g =>
    let passive := bit g.mode 0
    let u := uplink g.tag frame
    let nominal := if passive then 128 else 256 + 512 * g.slot
    let h := ofBe (u.2.2)
    match g.step with
    | .slots =>
      let late := !inWindowOf passive nominal start
      let t := if late then s.gltErr Reg.GLT_ERR_TIMING else s
      if !u.1 then (t.gltErr Reg.GLT_ERR_CRC).setSess { g with noise := true }
      else if late then t.setSess { g with noise := true }
      else if u.2.1 ≠ 0x81 ∨ u.2.2.length ≠ 2 ∨ (g.tok h).isSome ∨ g.single.isSome then s.setSess { g with noise := true }
      else s.setSess { g with single := some h }
    | _ => s

/-- The judgement of an awaited reply of a type (R249, R260): the reply that it belongs to, or the state in which a bad one has been dealt with. -/
def State.judgeReply (s : State) (g : GSess) (typ start : Nat) (frame : List Byte) : Except State Await :=
  let passive := bit g.mode 0
  let u := uplink g.tag frame
  match g.step, g.awaitAt start with
  | .replies, some w =>
    if w.typ ≠ typ then .error s
    else if !u.1 then .error (((if inWindowOf passive w.nominal start then s else s.gltErr Reg.GLT_ERR_TIMING).gltErr Reg.GLT_ERR_CRC).replyMissed g w)
    else if u.2.1 ≠ typ then .error s
    else if !inWindowOf passive w.nominal start then .error ((s.gltErr Reg.GLT_ERR_TIMING).replyMissed g w)
    else .ok w
  | _, _ => .error s

/-- A PROOF frame (R259, R261, Table 05-7): E_99, its report on Q_42, the check handed to AEA. One with a right CRC and start whose payload is shorter than a proof is no case of R260: it
is passed over, and its reply counts as missing when its time is out (DESIGN CHOICE, assumption 109). -/
def State.proofFrame (s : State) (start : Nat) (frame : List Byte) : State :=
  match s.glt.sess with
  | none => s
  | some g => match s.judgeReply g 0x83 start frame with
    | .error t => t
    | .ok w =>
      let p := (uplink g.tag frame).2.2
      if p.length < 16 then s
      else match g.tok w.handle with
      | none => s
      | some k =>
        let all := bit k.flags 0
        let rep := if all then p.drop 16 else []
        let n := (rep.length - 1) / 6
        let slot := s.reg Reg.GLT_AUTH_CFG_GRP_SLOT
        let c : ProofCheck := { handle := w.handle, payload := if all then p else p.take 16, kek := s.key.kekGen, slot := slot, time := s.timebase, busy := (s.slot slot).state == .draining || (s.slot 255).state == .draining }
        let s1 := (s.raise 99).enterReport g w.handle 0 rep
        let op : AeaOp := { cls := .timed, slot := slot, ring := ringGlt, cmd := checkId g w.handle, isOpen := true, out := none, nonce := [], dest := 0 }
        let g1 := g.setTok w.handle (fun x => { x with groups := x.groups ++ (if all then coveredGroups (s.template g.template) 0 n else []) })
        (s1.aeaRequest op).replyTaken { g1 with checks := g1.checks ++ [c] } w

/-- A REPORT frame (R241, R259). -/
def State.reportFrame (s : State) (start : Nat) (frame : List Byte) : State :=
  match s.glt.sess with
  | none => s
  | some g => match s.judgeReply g 0x85 start frame with
    | .error t => t
    | .ok w =>
      let rep := (uplink g.tag frame).2.2
      let n := (rep.length - 1) / 6
      let g1 := g.setTok w.handle (fun x => { x with groups := x.groups ++ coveredGroups (s.template g.template) w.first n })
      (s.enterReport g w.handle w.first rep).replyTaken g1 w

/-- A frame that no session awaits at a receiver that receives: its RSSI (R268), and its count where its CRC holds without a TAG. -/
def State.heardElsewhere (s : State) (rx : Nat) (rssi : BitVec 8) (frame : List Byte) : State :=
  if rx < 2 ∧ s.receives rx then s.heardBy rx rssi (uplink 0 frame).1 else s

/-- A STANDBY forwards a valid uplink frame of the ACTIVE's session, heard on the session's band: START (taken as the ACTIVE's cycles after the E_end that opened the
slot or window, as `start` is), RSSI, the frame (R794); a frame of odd length is followed by a zero byte, LEN being even. -/
def State.forwardUplink (s : State) (rx start : Nat) (rssi : BitVec 8) (frame : List Byte) : State :=
  match s.tsu.peerSess with
  | none => s.heardElsewhere rx rssi frame
  | some p =>
    if rx ≠ bandReceiver p.2.2.2 ∨ !s.receives rx then s.heardElsewhere rx rssi frame
    else if (uplink p.2.2.1 frame).1 then
      (s.validFrame rx rssi).tsuSendSeq 0x35 0 (leBytes 4 start ++ [rssi, 0] ++ frame ++ List.replicate (frame.length % 2) 0)
    else s.heardBy rx rssi false

/-- Hear a session's frame at a receiver; a STANDBY hears it for the ACTIVE. -/
def State.hear (s : State) (rx start : Nat) (rssi : BitVec 8) (frame : List Byte) (k : State → State) : State :=
  match s.glt.sess with
  | none => if s.isStandby then s.forwardUplink rx start rssi frame else s.heardElsewhere rx rssi frame
  | some g => if s.sessionHears g rx then k (s.heardFrame g rx rssi frame) else s.heardElsewhere rx rssi frame

/-- A frame as it arrives on the air, at UHF_0, UHF_1 or on the LF carrier (2): a head that is not accepted leaves nothing (R268). -/
def State.onAir (s : State) (rx start : Nat) (rssi : BitVec 8) (raw : List Byte) (k : List Byte → State → State) : State :=
  match airFrame (rx == 2) raw with
  | some frame => s.hear rx start rssi frame (k frame)
  | none => s

/-- HANDLE_REPLY: the bytes received, the head of Table 05-1 included. -/
def execHandleReply (rx : Fin 3) (start : Nat) (rssi : BitVec 8) (frame : List Byte) (s : State) : Host.Outcome State Fault Refusal :=
  .next (s.onAir rx.val start rssi frame (fun f t => t.handleFrame start f))

/-- PROOF_REPLY. -/
def execProofReply (rx : Fin 3) (start : Nat) (rssi : BitVec 8) (frame : List Byte) (s : State) : Host.Outcome State Fault Refusal :=
  .next (s.onAir rx.val start rssi frame (fun f t => t.proofFrame start f))

/-- REPORT_REPLY. -/
def execReportReply (rx : Fin 3) (start : Nat) (rssi : BitVec 8) (frame : List Byte) (s : State) : Host.Outcome State Fault Refusal :=
  .next (s.onAir rx.val start rssi frame (fun f t => t.reportFrame start f))

/-- REPLY_TIMEOUT (R260): the first of the awaited replies has not come. -/
def execReplyTimeout (s : State) : Host.Outcome State Fault Refusal :=
  .next (match s.glt.sess with
    | none => s
    | some g => match g.step, g.awaits with
      | .replies, w :: _ => (s.gltErr Reg.GLT_ERR_NO_REPLY).replyMissed g w
      | _, _ => s)

/-- SLOT_END (R244, R245): whether preamble energy was heard in it. -/
def execSlotEnd (energy : Bool) (s : State) : Host.Outcome State Fault Refusal :=
  .next (match s.glt.sess with
    | none => s
    | some g => match g.step with | .slots => s.slotEnd g energy | _ => s)

/-- PROOF_CHECK_DONE (R282 to R289): the proof check that an engine runs completes; one whose slot has been zeroized runs on no engine any more. -/
def execProofCheckDone (s : State) : Host.Outcome State Fault Refusal :=
  let glt (o : AeaOp) := o.ring == ringGlt
  let runs (e : Nat) := match (s.engine e).op with | some o => if glt o then some (e, o.cmd) else none | none => none
  let check (z : Bool) (t : State) (g : GSess) (k : GTok) (c : ProofCheck) := t.checkProof g k c (z || c.kek != t.key.kekGen)
  let judged (e : Nat) (p : Proof × State) : Proof × State := if p.1.cause = 2 then (p.1, p.2.bumpI Reg.AEA_ERR_TAG_FAIL e) else p
  let held := s.crypto.aeaWait ++ [s.crypto.aea0.op, s.crypto.aea1.op].filterMap id
  let lost (g : GSess) (c : ProofCheck) := !held.any (fun o => glt o && o.cmd == checkId g c.handle)
  let all := (match s.glt.sess with | some g => g.checks.map (fun c => (g, c)) | none => []) ++ s.glt.late
  let orphan := (all.find? (fun e => lost e.1 e.2)).map (fun e => checkId e.1 e.2.handle)
  .next (match if s.masksFlow then (runs 0).or (runs 1) else none with
    | some (e, id) => (s.engineDone e).finishCheck id (fun t g k c => judged e (check false t g k c))
    | none => match orphan with
      | some id => s.finishCheck id (check true)
      | none => s)

/-! ## Telegrams -/

/-- BUTTON_TELEGRAM (R269, R270): a BUTTON frame as received. In a sniff it wakes the device (E_106 + r). -/
def execButtonTelegram (rx : Fin 2) (rssi : BitVec 8) (frame : List Byte) (s : State) : Host.Outcome State Fault Refusal :=
  let away := rx.val = 0 ∧ s.glt.tuned.isSome
  .next (match airFrame false frame with
    | none => s
    | some f =>
      let u := uplink 0 f
      if !s.receives rx.val || decide away then s
      else if !(u.1 && u.2.1 == 0x40 && u.2.2.length == 12) then s.heardBy rx.val rssi u.1
      else
        let t := (s.validFrame rx.val rssi).passTelegram u.2.2
        if s.sleeping = 0 then t.wake 2 rx.val
        else
          let w := State.wake { t with glt := { t.glt with sniff := none } } 2 rx.val
          if w.sleeping = 0 then w.raise (106 + rx.val) else { w with glt := { w.glt with heldFrame := s.glt.heldFrame, trains := s.glt.trains } })

/-- DISCARDED_UPLINK (R241): a valid frame of another type counts and is discarded. Its CRC runs over the session's TAG, or over 0x00. -/
def execDiscardedUplink (rx : Fin 2) (rssi : BitVec 8) (frame : List Byte) (s : State) : Host.Outcome State Fault Refusal :=
  .next (match airFrame false frame with
    | none => s
    | some f =>
      let ok (p : Nat) := (uplink p f).1 && !(List.contains [0x81, 0x83, 0x85, 0x40] (uplink p f).2.1)
      let tag := match s.glt.sess with | some g => ok g.tag | none => false
      if s.receives rx.val then s.heardBy rx.val rssi (ok 0 || tag) else s)

/-- TELEGRAM_COUNTER_ACCEPTED (R297): the Locket has settled the counter write, and the next telegram is checked. -/
def execTelegramCounterAccepted (s : State) : Host.Outcome State Fault Refusal :=
  .next (match s.glt.held with
    | none => s
    | some h =>
      let p := s.settle .telegram
      match p.1 with
      | none => p.2
      | some w =>
        let t : State := { p.2 with glt := { p.2.glt with held := none } }
        let u := if w.state.ok && h.accepted then t.telegramAccepted h (w.state == .degraded) else t
        State.telegramPump u)

/-- PENDING_LAPSE (R295): 5.0 s ± 0.1 s after reception. -/
def execPendingLapse (cred : Nat) (s : State) : Host.Outcome State Fault Refusal :=
  let l := s.glt.pending.filter (fun p => !(p.cred == cred && s.since p.at_ 4900000))
  .next { s with glt := { s.glt with pending := l } }

/-! ## Lockouts -/

/-- LOCKOUT_END (R307): place 0 to 127, or 128 for the device; ± 1 s. -/
def execLockoutEnd (place : Fin 129) (s : State) : Host.Outcome State Fault Refusal :=
  .next (if s.lockRecorded place.val && decide (s.lockSeconds ≤ s.lockAge place.val + 1) then s.endLockout place.val 1 else s)

/-- End the lockout of a place when one is recorded (R313). -/
def State.clearPlace (s : State) (p : Nat) : State := if s.lockRecorded p then s.endLockout p 2 else s

/-- GLT_LOCKOUT_CLR's three actions. -/
def State.clrDevice (s : State) : State := s.clearPlace 128
def State.clrCred (s : State) (i : Nat) : State := match s.credPlace i with | some p => s.clearPlace p | none => s
def State.clrAll (s : State) : State := (List.range 129).foldl State.clearPlace s

/-! ## UHF -/

/-- SNIFF_WINDOW (R269): the window opens at its period; energy within it extends it. -/
def execSniffWindow (energy : Bool) (s : State) : Host.Outcome State Fault Refusal :=
  let r := s.reg Reg.UHF_CTRL_SNIFF
  let period := if s.sleeping = 3 then 980000 else 1000 * s.reg Reg.UHF_SNIFF_PER
  .next (if decide (1 ≤ s.sleeping ∧ s.sleeping ≤ 3) && !s.pwr.dip && bit (s.reg Reg.UHF_CTRL_EN) r && s.since s.glt.sniffAt period then
    { s with glt := { s.glt with sniff := some (r, s.now, energy), sniffAt := s.now } }
  else s)

/-- SNIFF_EXTENSION_END (R269): 17 ms ± 0.2 ms after the window opened. -/
def execSniffExtensionEnd (s : State) : Host.Outcome State Fault Refusal :=
  .next (match s.glt.sniff with
    | some w => if w.2.2 && s.since w.2.1 16800 then { s with glt := { s.glt with sniff := none } } else s
    | none => s)

/-- UHF_JAM (R271): RSSI has been above THRESH for 50 ms without a valid frame. -/
def execUhfJam (rx : Fin 2) (rssi : BitVec 8) (s : State) : Host.Outcome State Fault Refusal :=
  let above := decide (signed 8 (s.reg Reg.UHF_JAM_THRESH) < rssi.toInt)
  let u := { s.uhf rx.val with rssi := rssi.toNat }
  .next (if s.receives rx.val && above then
    if u.jam then s.setUhf rx.val u else (s.setUhf rx.val { u with jam := true }).raise (108 + rx.val)
  else s)

/-- UHF_JAM_CLEAR (R271): RSSI has been below THRESH for 50 ms. -/
def execUhfJamClear (rx : Fin 2) (rssi : BitVec 8) (s : State) : Host.Outcome State Fault Refusal :=
  let below := decide (rssi.toInt < signed 8 (s.reg Reg.UHF_JAM_THRESH))
  .next (if s.receives rx.val && below then s.setUhf rx.val { s.uhf rx.val with rssi := rssi.toNat, jam := false } else s)

/-- UHF_LOCK_LOST (Table 05-7). -/
def execUhfLockLost (rx : Fin 2) (s : State) : Host.Outcome State Fault Refusal :=
  .next ((s.setUhf rx.val { s.uhf rx.val with unlocked := true }).raise (110 + rx.val))

/-- GLT_ERR_CLR (Table 05-8). -/
def execGltErrClr (master : Nat) (s : State) : Host.Outcome State Fault Refusal :=
  .next (s.clearBy master Reg.GLT_ERR_CLR_CLR [Reg.GLT_ERR_CRC, Reg.GLT_ERR_TIMING, Reg.GLT_ERR_COLLISION, Reg.GLT_ERR_NO_REPLY])

end Sys2Proof.Machine
end

