-- ==== Sys2Proof/Machine/Hft.lean ====
section
/-! DEFINITION. Meanings of the commands of the enforcement tag (chapter 14). A command of the reader carries the frame as received, CRC_A included. -/
namespace Sys2Proof.Machine

/-- FIELD_ENTRY (R653, R654, R659, R684, R694, R700). -/
def execFieldEntry (s : State) : Host.Outcome State Fault Refusal :=
  .next (if s.hft.field then s
  else
    let d := s.draw 3
    let mode := if s.mainUp then 0 else if !s.aonLive then 2 else 1
    let h : Hft := { field := true, mode := mode, uid := 0x08 :: d.1, stalls := s.hft.stalls, events := d.2.hft.events }
    let t := State.wrapUp { d.2 with hft := h } Reg.HFT_COUNT_ENTRIES
    let u := if mode = 2 then let x := t.fillBuffer; x.loadTagPage (slice x.hft.buffer 0x1FC0 64) else t
    let v := u.tagEvent 176
    v.wake 4 0)

/-- FIELD_EXIT (R654, Table 14-3, R698). -/
def execFieldExit (s : State) : Host.Outcome State Fault Refusal := .next (if s.hft.field then s.leaveField else s)

/-- FD_N_CHANGE (R693): FD_N is active low. -/
def execFdNChange (asserted : Bool) (s : State) : Host.Outcome State Fault Refusal := .next { s with pins := { s.pins with fdN := some (!asserted) } }

/-- REQA and WUPA are answered alike in IDLE (R659, Table 14-3): ATQA 0x0004. -/
def State.tagRequest (s : State) : State :=
  if !s.tagOn || s.hft.st != .idle then s else State.tagSend { s.tagNew with hft := { s.tagNew.hft with part3 := 1 } } [0x04, 0x00]

/-- REQA. -/
def execReqa (s : State) : Host.Outcome State Fault Refusal := .next s.tagRequest

/-- WUPA. -/
def execWupa (s : State) : Host.Outcome State Fault Refusal := .next s.tagRequest

/-- UID and BCC, as 40 bits (R659). -/
def State.uidBits (s : State) : Nat := ofLe (s.hft.uid ++ [s.hft.uid.foldl (· ^^^ ·) 0])

/-- ANTICOLLISION at cascade level 1: the reader sends the first `valid` bits; a tag whose UID begins so answers with the rest. -/
def execAnticollision (valid : Fin 40) (uid : BitVec 40) (s : State) : Host.Outcome State Fault Refusal :=
  .next (if !s.tagOn || s.hft.st != .idle || s.hft.part3 != 1 || low valid s.uidBits != low valid uid.toNat then s.tagNew
  else s.tagNew.tagSend (leBytes ((40 - valid.val + 7) / 8) (s.uidBits / 2 ^ valid.val)))

/-- CASCADE_SELECT: 0x93 0x70 UID BCC: the tag whose UID it is answers SAK 0x20. -/
def execCascadeSelect (frame : List Byte) (s : State) : Host.Outcome State Fault Refusal :=
  .next (match openTagFrame frame with
    | some b =>
      if !s.tagOn || s.hft.st != .idle || s.hft.part3 != 1 || b.take 2 != [0x93, 0x70] then s
      else
        let hit := b.drop 2 == leBytes 5 s.uidBits
        let t : State := { s.tagNew with hft := { s.tagNew.hft with part3 := if hit then 2 else 0 } }
        if hit then t.tagSend ((0x20 : Byte) :: crcA [0x20]) else t
    | none => s)

/-- HLTA: the tag returns to IDLE and answers nothing. -/
def execHlta (s : State) : Host.Outcome State Fault Refusal := .next (if s.tagOn then s.tagNew.tagLeave else s)

/-- RATS (R660): 0xE0 and the parameter byte, whose high half is FSDI. -/
def execRats (frame : List Byte) (s : State) : Host.Outcome State Fault Refusal :=
  .next (match openTagFrame frame with
    | some [0xE0, p] =>
      if !s.tagOn || s.hft.st != .idle || s.hft.part3 != 2 then s
      else
        let fsd := [16, 24, 32, 40, 48, 64, 96, 128, 256].getD (p.toNat / 16) 256
        let t := s.tagNew
        let ats : List Byte := [0x05, 0x78, 0x00, 0x70, 0x00]
        State.tagSend { t with hft := { t.hft with st := .active, fsd := fsd, bn := true, fresh := true } } (ats ++ crcA ats)
    | _ => s)

/-- PPS (Table 14-2): accepted with DSI = DRI = 0, right after RATS. -/
def execPps (frame : List Byte) (s : State) : Host.Outcome State Fault Refusal :=
  .next (match openTagFrame frame with
    | some [0xD0, 0x11, 0x00] =>
      if !s.tagOn || s.hft.st != .active || !s.hft.fresh then s
      else State.tagSend { s.tagNew with hft := { s.tagNew.hft with fresh := false } } ((0xD0 : Byte) :: crcA [0xD0])
    | _ => s)

/-- DESELECT: S(DESELECT) is answered alike, and the tag returns to IDLE. -/
def execDeselect (s : State) : Host.Outcome State Fault Refusal :=
  .next (if s.tagOn && s.hft.st != .idle then State.tagSend s.tagNew.tagLeave ((0xC2 : Byte) :: crcA [0xC2]) else s)

/-- R_ACK with a block number: another than the tag's own continues a chained response; its own has the last block sent again. -/
def execRAck (bn : Bool) (s : State) : Host.Outcome State Fault Refusal :=
  .next (if !s.tagOn || s.hft.st == .idle then s
  else if bn == s.hft.bn then (if s.hft.last.isEmpty then s else s.tagNew.tagSend s.hft.last)
  else if s.hft.rest.isEmpty || s.hft.wtx then s
  else State.tagMore { s.tagNew with hft := { s.tagNew.hft with bn := bn } })

/-- R_NAK (R663): the last block is sent again; nothing is executed. -/
def execRNak (s : State) : Host.Outcome State Fault Refusal :=
  .next (if !s.tagOn || s.hft.st == .idle || s.hft.last.isEmpty then s else s.tagNew.tagSend s.hft.last)

/-- CHAINED_I_BLOCK: a block with the chaining bit; it is kept, and R(ACK) answers it. -/
def execChainedIBlock (frame : List Byte) (s : State) : Host.Outcome State Fault Refusal :=
  .next (match openTagFrame frame with
    | some (pcb :: inf) =>
      if !s.tagOn || s.hft.st == .idle || s.hft.waits != .none || !(pcb.toNat == 0x12 || pcb.toNat == 0x13) then s
      else
        let bn := !s.hft.bn
        let t : State := { s.tagNew with hft := { s.tagNew.hft with bn := bn, chain := s.hft.chain ++ inf, fresh := false } }
        t.tagBlock (0xA2 + ofBool bn) []
    | _ => s)

/-- S_WTX_RESPONSE (R662): the extended wait begins; an answer that is ready is sent. -/
def execSWtxResponse (s : State) : Host.Outcome State Fault Refusal :=
  .next (if !s.hft.wtx then s
  else
    let t : State := { s.tagNew with hft := { s.tagNew.hft with wtx := false } }
    if t.hft.waits == .none && !t.hft.rest.isEmpty then t.tagMore else t)

/-- CRC_A_FAIL: counted, not answered. -/
def execCrcAFail (s : State) : Host.Outcome State Fault Refusal := .next (if s.tagOn then s.tagNew.bump Reg.HFT_ERR_CRC else s)

/-- UNKNOWN_APDU (R680): CLA first, then INS. -/
def execUnknownApdu (frame : List Byte) (s : State) : Host.Outcome State Fault Refusal :=
  .next (match s.tagTake frame with
    | some (a, t) =>
      if a.cla ≠ 0 ∧ a.cla ≠ 0x0C then t.tagPlain [] 0x6E00
      else if (tagCommands.find? (fun p => p.1 == a.ins)).isNone then t.tagPlain [] 0x6D00
      else s
    | none => s)

/-! ## Open commands -/

/-- SELECT (Tables 14-3, 14-5): from ACTIVE, OPEN and SECURED. -/
def execSelect (frame : List Byte) (s : State) : Host.Outcome State Fault Refusal :=
  .next (s.tagCommand 0xA4 frame (fun t a =>
    if a.cla ≠ 0 then t.tagPlain [] 0x6982
    else if a.p1 ≠ 4 ∨ a.p2 ≠ 0x0C then t.tagPlain [] 0x6A86
    else if !a.ok || a.data.isEmpty then t.tagPlain [] 0x6700
    else if a.data != [0xF0, 0x53, 0x58, 0x44, 0x56, 0x37, 0x32, 0x34, 0x30] then t.tagPlain [] 0x6A82
    else
      let u := t.tagState .open_
      State.tagPlain { u with hft := { u.hft with nT := none } } [] 0x9000))

/-- An open command: its state, P1 and P2, length; then `k`. -/
def State.tagOpen (t : State) (a : Apdu) (p1 : Nat → Bool) (len : Nat) (le : Nat → Bool) (k : State → State) : State :=
  if a.cla ≠ 0 ∨ t.hft.st ≠ .open_ then t.tagPlain [] 0x6982
  else if !p1 a.p1 || a.p2 != 0 then t.tagPlain [] 0x6A86
  else if !a.ok || a.data.length != len || !le a.le then t.tagPlain [] 0x6700
  else k t

/-- GET_INFO. -/
def execGetInfo (frame : List Byte) (s : State) : Host.Outcome State Fault Refusal :=
  .next (s.tagCommand 0x30 frame (fun t a => t.tagOpen a (· == 0) 0 (fun _ => true) (fun u =>
    let flags := u.reg Reg.HFT_TAG_CFG_WS_EN + 2 * u.reg Reg.HFT_TAG_CFG_WS_TOKEN + 4 * ofBool u.enfAvailable
    u.tagPlain ([Config.tagVersion] ++ leBytes 1 u.hft.mode ++ leBytes 1 flags ++ [127]) 0x9000)))

/-- GET_CHALLENGE (R669): a fresh N_T. -/
def execGetChallenge (frame : List Byte) (s : State) : Host.Outcome State Fault Refusal :=
  .next (s.tagCommand 0x84 frame (fun t a => t.tagOpen a (· == 0) 0 (· == 16) (fun u =>
    let d := u.draw 16
    State.tagPlain { d.2 with hft := { d.2.hft with nT := some d.1 } } d.1 0x9000)))

/-- PUT_CERT (R667, R668): position 1 discards the chain; position 2 follows a CA certificate. -/
def execPutCert (frame : List Byte) (s : State) : Host.Outcome State Fault Refusal :=
  .next (if s.flag Reg.PKE_CTRL_EN && !s.flag Reg.PKE_STAT_KAT_FAIL && !s.pkeVerifies then s else s.tagCommand 0x32 frame (fun t a => t.tagOpen a (fun p => p == 1 || p == 2) 152 (fun _ => true) (fun u =>
    if !u.pkeVerifies then u.tagPlain [] 0x6985 else
    let c := a.data
    let before := if a.p1 = 1 then [] else u.hft.certs
    let signer := match before with
      | [ca] => if certIssuer c = certSubject ca then certKey ca else []
      | _ => if certIssuer c = 0 ∧ !u.areaDamaged 0 then u.authorityKey else []
    let placed := if a.p1 = 1 then certRole c == 1 || certRole c == 2 else certRole c == 2 && before.length == 1 && certRole (before.headD []) == 1
    let v := u.pkeVerify signer (c.take 88) (c.drop 88)
    let good := slice c 0 1 == [1] && placed && v.1 && v.2.certInTime c
    let x : State := { v.2 with hft := { v.2.hft with certs := if good then before ++ [c] else before } }
    x.tagPlain [] (if good then 0x9000 else 0x6300))))

/-- The reader certificate of a complete chain. -/
def State.readerCert (s : State) : Option (List Byte) := s.hft.certs.getLast?.filter (fun c => certRole c == 2)

/-- An authentication fails: SW 0x6300. -/
def State.authRefused (s : State) (deferred : Bool) : State := if deferred then s.tagFail.tagLate [] 0x6300 else s.tagFail.tagPlain [] 0x6300

/-- ENF_AUTH (R669, R670): its PKE work begins; in SLEEP it wakes the device, and S(WTX) bridges the wait. -/
def execEnfAuth (frame : List Byte) (s : State) : Host.Outcome State Fault Refusal :=
  .next (s.tagCommand 0x34 frame (fun t a => t.tagOpen a (· == 0) 128 (fun _ => true) (fun u =>
    if 3 ≤ u.hft.fails then u.tagPlain [] 0x6983
    else if !u.enfAvailable then u.tagPlain [] 0x6985
    else if u.readerCert.isNone || u.hft.nT.isNone then u.authRefused false
    else
      let x : State := { u with hft := { u.hft with enf := some { eR := a.data.take 64, sig := a.data.drop 64, since := s.now } } }
      if x.hft.mode = 1 then (x.askWtx .enf).wake 4 0 else { x with hft := { x.hft with waits := .enf } })))

/-- The first 16 bytes of a hash under a label (R669). -/
def enfKey (label : Nat) (z nT uid : List Byte) : List Byte := (sha256 ([0x48, 0x46, BitVec.ofNat 8 label] ++ z ++ nT ++ uid)).take 16

/-- ENF_AUTH_DONE (R669 steps 4 and 5): σ_R verified, E_R validated, the keys formed, E_T ‖ C ‖ T answered. E_R is a point of the curve and the scalars lie between 1 and
n − 1, so both products are points. -/
def execEnfAuthDone (s : State) : Host.Outcome State Fault Refusal :=
  .next (match s.hft.enf, s.readerCert, s.hft.nT with
    | some e, some c, some nT =>
      if s.hft.waits ≠ .enf ∨ s.hft.mode ≠ 0 then s
      else if !s.enfAvailable || !s.flag Reg.PKE_CTRL_EN || s.flag Reg.PKE_STAT_KAT_FAIL then s.tagLate [] 0x6985
      else if s.crypto.rng.state ≠ .ok ∧ s.since e.since 1000000 then s.tagLate [] 0x6985
      else if !s.pkeFree || s.crypto.rng.state ≠ .ok then s
      else
        let v := s.pkeVerify (certKey c) ([0x48, 0x46, 0x52, 0x44] ++ nT ++ s.hft.uid ++ e.eR) e.sig
        if !v.1 then v.2.authRefused true
        else if (pointOf e.eR).isNone then (v.2.pkeCount true true).authRefused true
        else
          let d := ((v.2.pkeCount false true).reseed.pkeBlind 1).random 32
          let k := 1 + ofBe d.1 % (pN - 1)
          let eT := publicKey k
          let u := (d.2.pkeCount false true).useSlot 253 useECDH [2] 0
          let w := u.2.useSlot 254 useSIGN [2] 0
          if u.1 ≠ 0 ∨ w.1 ≠ 0 then w.2.tagLate [] (if u.1 = 13 ∨ w.1 = 13 then 0x6F50 else 0x6985)
          else
            let z1 := (ecdh k e.eR).getD []
            let z2 := (ecdh (ofBe (w.2.slotRaw 253).key) e.eR).getD []
            let qT := publicKey (ofBe (w.2.slotRaw 253).key)
            let att := (w.2.pkeBlind 2).hallmarkSig ([0x54, 0x52, 0x4E, 0x53] ++ beBytes 8 s.devnum ++ qT)
            let k1 := enfKey 0x31 z1 nT s.hft.uid
            let ct := ccmSeal k1 8 (3 :: List.replicate 12 0) [] (qT ++ att.1 ++ beBytes 8 s.devnum)
            let x := ((att.2.pkeCount false true).pkeCount false true).pkeCount false true
            let f : Enf := { e with done := true, eT := eT, k2 := enfKey 0x32 (z1 ++ z2) nT s.hft.uid }
            State.tagLate { x with hft := { x.hft with enf := some f } } (eT ++ ct.1 ++ ct.2) 0x9000
    | _, _, _ => s)

/-- ENF_CONFIRM (R669 steps 6 and 7). -/
def execEnfConfirm (frame : List Byte) (s : State) : Host.Outcome State Fault Refusal :=
  .next (s.tagCommand 0x38 frame (fun t a => t.tagOpen a (· == 0) 8 (fun _ => true) (fun u =>
    if 3 ≤ u.hft.fails then u.tagPlain [] 0x6983
    else if !u.enfAvailable then u.tagPlain [] 0x6985
    else match u.hft.enf, u.readerCert with
    | some e, some c =>
      let tag := (ccmSeal e.k2 8 (4 :: List.replicate 12 0) ((0x52 : Byte) :: (e.eR ++ e.eT)) []).2
      if !e.done || tag != a.data then State.authRefused { u with hft := { u.hft with enf := none } } false
      else
        let own := (ccmSeal e.k2 8 (5 :: List.replicate 12 0) ((0x54 : Byte) :: (e.eT ++ e.eR)) []).2
        (u.tagPlain own 0x9000).tagSecure 1 e.k2 (bit (ofLe (slice c 2 1)) 0) (certSubject c)
    | _, _ => u.authRefused false)))

/-- WS_AUTH (R672, R673). -/
def execWsAuth (frame : List Byte) (s : State) : Host.Outcome State Fault Refusal :=
  .next (s.tagCommand 0x3A frame (fun t a => t.tagOpen a (· == 0) 24 (fun _ => true) (fun u =>
    if 3 ≤ u.hft.fails then u.tagPlain [] 0x6983
    else if !u.wsAvailable then u.tagPlain [] 0x6985
    else match u.hft.nT with
    | some nT =>
      let nR := a.data.take 16
      let k := u.kWs
      let tag := (ccmSeal k 8 ((6 : Byte) :: nT.take 12) ([0x57, 0x52] ++ nT ++ nR ++ u.hft.uid) []).2
      if tag != a.data.drop 16 then u.authRefused false
      else
        let own := (ccmSeal k 8 ((7 : Byte) :: nR.take 12) ([0x57, 0x54] ++ nR ++ nT ++ u.hft.uid) []).2
        (u.tagPlain own 0x9000).tagSecure 2 (aesEncrypt k (nT.take 8 ++ nR.take 8)) true 0
    | none => u.authRefused false)))

/-! ## Protected commands -/

/-- FM_READ (R685): 1 to 224 bytes of pages 0 to 126. -/
def execFmRead (frame : List Byte) (s : State) : Host.Outcome State Fault Refusal :=
  .next (s.tagCommand 0xB0 frame (fun t a => t.tagSecured a (fun u p =>
    if !a.ok || !p.isEmpty || a.le = 0 || decide (224 < a.le) then u.tagSealed [] 0x6700
    else if 0x1FC0 < a.offset + a.le then u.tagSealed [] 0x6B00
    else if u.fieldDamaged a.offset a.le then u.tagSealed [] 0x6F50
    else u.tagSealed (u.fieldBytes a.offset a.le) 0x9000)))

/-- FM_WRITE (R685, R686, R689 to R692, R697). In FIELD mode `collapse` gives how many records had been programmed when the field collapsed, the one in progress being torn (R691); in
RUN and SLEEP the Locket settles the write. -/
def execFmWrite (frame : List Byte) (collapse : Option Nat) (s : State) : Host.Outcome State Fault Refusal :=
  .next (s.tagCommand 0xD6 frame (fun t a => t.tagSecured a (fun u p =>
    let n := p.length
    let r := u.tagRange
    if !a.ok || n = 0 || decide (128 < n) then u.tagSealed [] 0x6700
    else if u.hft.noWrite || u.isStandby then u.tagSealed [] 0x6985
    else if a.offset < r.1 || decide (r.2 < a.offset + n) || !(u.hft.method == 2 || u.hft.mayWrite) then u.tagSealed [] 0x6B00
    else if u.hft.mode ≠ 2 && u.regI Reg.CLASP_OWNER 31 == 3 then (u.tagEvent 179).tagSealed [] 0x6F61
    else if u.hft.mode = 2 then
      let l := u.fieldRecords a.offset p
      if !u.fieldRoom l || u.lkt.worn then u.tagSealed [] 0x6F50
      else match collapse.filter (fun k => decide (k < l.length)) with
        | some k =>
          let x := (l.take k).foldl State.fieldAppend u
          let torn := (l.drop k).take 1
          (torn.foldl (fun y z => y.fieldAppend (z.1, { z.2 with valid := false })) x).leaveField
        | none =>
          let x := l.foldl State.fieldAppend u
          let seq := (l.getLast?.map (fun z => z.2.seq)).getD 0
          let keep := x.hft.damaged.filter (fun g => !(l.any (fun z => z.2.index == g)))
          let y : State := { x with hft := { x.hft with buffer := putBytes x.hft.buffer a.offset p, damaged := keep } }
          (y.wrapUp Reg.HFT_COUNT_WRITES).tagSealed (leBytes 4 seq) 0x9000
    else
      let z : State := { u with hft := { u.hft with span := (a.offset, n) } }
      let x := z.lktSubmit .field (z.runItems (0x6000 + a.offset) p)
      match x.settle .field with
      | (some w, y) => y.fmWriteDone w false
      | (none, y) => y.askWtx .write)))

/-- GET_STATUS (R692). -/
def execGetStatus (frame : List Byte) (s : State) : Host.Outcome State Fault Refusal :=
  .next (s.tagCommand 0x3C frame (fun t a => t.tagSecured a (fun u p =>
    if a.p1 ≠ 0 ∨ a.p2 ≠ 0 then u.tagSealed [] 0x6A86
    else if !a.ok || !p.isEmpty then u.tagSealed [] 0x6700
    else
      let st := u.lkt.fieldA
      let free := st.free + (if st.reserve.retired then 0 else sectorSlots - st.reserve.slots.length)
      u.tagSealed (leBytes 4 u.fieldLastSeq ++ leBytes 1 (ofBool u.pins.wpLow + 2 * ofBool (u.regI Reg.CLASP_OWNER 31 == 3) + 4 * ofBool u.pairDegraded) ++
        leBytes 2 (min free 0xFFFF)) 0x9000)))

/-- GET_HALLMARK: after the enforcement method only. -/
def execGetHallmark (frame : List Byte) (s : State) : Host.Outcome State Fault Refusal :=
  .next (s.tagCommand 0x36 frame (fun t a =>
    if t.hft.st = .secured ∧ t.hft.method ≠ 1 then t.tagPlain [] 0x6982
    else t.tagSecured a (fun u p =>
      if !a.ok || !p.isEmpty || a.le = 0 || decide (224 < a.le) then u.tagSealed [] 0x6700
      else u.tagSealed ((u.key.certificate.drop a.offset).take a.le) 0x9000)))

/-- AUTH_CMD (R681): the parts are joined; the last one hands the command to the check of Q_10 AUTH_COMMAND, and its answer comes when that has ended. -/
def execAuthCmd (frame : List Byte) (s : State) : Host.Outcome State Fault Refusal :=
  .next (s.tagCommand 0x42 frame (fun t a => t.tagSecured a (fun u p =>
    let whole := if a.p1 = 0 then p else u.hft.parts ++ p
    if 1 < a.p1 ∨ 1 < a.p2 then u.tagSealed [] 0x6A86
    else if !a.ok || p.isEmpty || decide (200 < p.length) || (a.p1 == 1 && u.hft.parts.isEmpty) || decide (400 < whole.length) then
      State.tagSealed { u with hft := { u.hft with parts := [] } } [] 0x6700
    else if u.hft.mode ≠ 0 ∨ u.isStandby then u.tagSealed [] 0x6985
    else if a.p2 = 0 then State.tagSealed { u with hft := { u.hft with parts := whole } } [] 0x9000
    else if u.auth.isSome then State.askWtx { u with hft := { u.hft with parts := whole } } .auth
    else
      let x := State.authBegin { u with hft := { u.hft with parts := [], waits := .auth } } .hf whole
      if x.hft.waits = .auth then x.askWtx .auth else x)))

/-- CLOSE: answered under the session key, then OPEN. -/
def execClose (frame : List Byte) (s : State) : Host.Outcome State Fault Refusal :=
  .next (s.tagCommand 0x3E frame (fun t a => t.tagSecured a (fun u p =>
    if a.p1 ≠ 0 ∨ a.p2 ≠ 0 then u.tagSealed [] 0x6A86
    else if !a.ok || !p.isEmpty then u.tagSealed [] 0x6700
    else (u.tagSealed [] 0x9000).tagState .open_)))

/-! ## Masters -/

/-- FIELD_BUSY_TIMEOUT (R688): the access stalled longest, 5 ms after its first stall. A REG_READ of the host ends with it: every word from there on reads as 0xDEAD_0FF5 (R709). -/
def execFieldBusyTimeout (s : State) : Host.Outcome State Fault Refusal :=
  .next (match s.hft.stalls with
    | x :: rest =>
      if !s.since x.since 4900 then s
      else
        let t := (State.bump { s with hft := { s.hft with stalls := rest } } Reg.HFT_ERR_FIELD_BUSY).tagEvent 179
        if x.width = 0 then (match t.runningSeq 6 x.addr with
          | some r => t.complete r blkLKT stFIELDBUSY 0 []
          | none => t)
        else if x.eeprom then
          let u : State := { t with hif := { t.hif with wip := false } }
          (u.set Reg.HIF_EE_ERR 1).set Reg.HIF_STAT_LAST_STATUS stFIELDBUSY
        else if x.master = 3 ∧ x.write then
          (match t.hifHeld true with
          | some (h, u) => u.hifWriteDone stFIELDBUSY h.since h.abandoned
          | none => t)
        else if x.master = 3 then
          let frame (y : Stall) : Bool := y.master == 3 && !y.write && y.since == x.since && y.width != 0
          let u := State.hostServed { t with hft := { t.hft with stalls := rest.filter (fun y => !frame y) } } stFIELDBUSY x.since
          let words := (x :: rest.filter frame).flatMap (fun _ => leBytes 4 0xDEAD0FF5)
          { u with hif := { u.hif with out := BitVec.ofNat 8 stFIELDBUSY :: u.hif.out.drop 1 ++ words } }
        else t.busFault kindField x.master x.addr x.write
    | [] => s)

/-- HF_STATUS (Table 14-9). -/
def execHfStatus (s : State) : Host.Outcome State Fault Refusal :=
  .next (s.withCmd 11 0x01 (fun r => s.complete r blkHFT stOK 0
    (s.regBytes Reg.HFT_STAT_FIELD 0 ++ s.regBytes Reg.HFT_COUNT_ENTRIES 0 ++ s.regBytes Reg.HFT_LAST_SEQ 0)))

/-- HF_CLOSE: ends a SECURED state at the end of the frame in progress; while one waits for its answer, the command waits. -/
def execHfClose (s : State) : Host.Outcome State Fault Refusal :=
  .next (s.withCmd 11 0x02 (fun r => if s.hft.st = .secured ∧ s.hft.waits ≠ .none then s else (if s.hft.st = .secured then s.tagLeave else s).complete r blkHFT stOK 0 []))

/-- HF_WAIT_EXIT: completes at the next field exit, at once without a field. -/
def execHfWaitExit (s : State) : Host.Outcome State Fault Refusal :=
  .next (s.withCmd 11 0x03 (fun r => if r.started then s else if s.hft.field then s.startCmd r else s.complete r blkHFT stOK 0 []))

/-- HFT_ERR_CLR (Table 14-10). -/
def execHftErrClr (master : Nat) (s : State) : Host.Outcome State Fault Refusal :=
  .next (s.clearBy master Reg.HFT_ERR_CLR_CLR [Reg.HFT_ERR_CRC, Reg.HFT_ERR_SM_FAIL, Reg.HFT_ERR_AUTH_FAIL, Reg.HFT_ERR_FIELD_BUSY])

end Sys2Proof.Machine
end

