-- ==== Sys2Proof/Machine/Authority.lean ====
section
/-! DEFINITION. What an authority command's writes do (R29 to R32, R461, R567, R683, R828, R866), and the commands that make them. -/
namespace Sys2Proof.Machine

/-! ## One write record -/

/-- The fields of a record's register that its MASK touches. -/
def AuthWrite.touched (w : AuthWrite) : List (Field × Nat) := (fieldsAt Reg.all w.addr).filter (fun p => bits w.mask p.1.lo p.1.width != 0)

/-- A value under MASK: the bits set in MASK change (R461). -/
def masked (old mask value : Nat) : Nat := old ^^^ ((old ^^^ value) &&& mask)

/-- What the record writes into a field. -/
def State.recordValue (s : State) (w : AuthWrite) (p : Field × Nat) : Nat :=
  masked (s.regI p.1 p.2) (bits w.mask p.1.lo p.1.width) (bits w.value p.1.lo p.1.width)

/-- A register's stored value, its fields together. -/
def State.storedReg (s : State) (addr : Nat) : Nat := (fieldsAt Reg.all addr).foldl (fun v p => v + s.regI p.1 p.2 * 2 ^ p.1.lo) 0

/-- Whether a field takes its part of a register word (R875): a value of its set; SYNC and STS_LEN of UWB_PROFILE not 64 symbols with 64 units (R361, assumption 102). -/
def fieldTakes (f : Field) (word : Nat) : Bool :=
  f.accepts (bits word f.lo f.width) && !((f.id == Reg.UWB_PROFILE_SYNC.id || f.id == Reg.UWB_PROFILE_STS_LEN.id) && bit word 8 && bit word 9)

/-- Whether a record's write reaches a field: the field takes its part of the word that the register would then hold. -/
def State.recordTakes (s : State) (w : AuthWrite) (p : Field × Nat) : Bool := fieldTakes p.1 (masked (s.storedReg w.addr) w.mask w.value)

/-- The part of a record that is made under R29: the fields of the protection set-up that take their value (R461, R875). -/
def State.fitting (s : State) (w : AuthWrite) : AuthWrite :=
  { w with mask := (w.touched.filter (fun p => p.1.prot && s.recordTakes w p)).foldl (fun m p => m + bits w.mask p.1.lo p.1.width * 2 ^ p.1.lo) 0 }

/-- Make the register write of a record; a ceiling of GOV reaches the field limiter. -/
def State.putRecord (s : State) (w : AuthWrite) : State :=
  let put (t : State) (p : Field × Nat) : State :=
    let u := t.setI p.1 p.2 (s.recordValue w p)
    if p.1.id = Reg.GOV_LF_CEIL_CEIL.id then u.reloadCeiling p.2 else u
  w.touched.foldl put s

/-! ## The overlay (R827, R828): FLOOR 4, COUNT 2, 0 2, records of ADDR, MASK, VALUE -/

/-- The overlay in force: its FLOOR and its records. -/
def State.overlayFloor (s : State) : Nat := s.lktWord (s.areaStart 1) 4
def State.overlayRecords (s : State) : List AuthWrite :=
  let a := s.areaStart 1
  (List.range (min 20 (s.lktWord (a + 4) 2))).map (fun i =>
    { addr := s.lktWord (a + 8 + 12 * i) 4, mask := s.lktWord (a + 12 + 12 * i) 4, value := s.lktWord (a + 16 + 12 * i) 4 })

/-- The bytes of an overlay copy. -/
def overlayBytes (floor : Nat) (l : List AuthWrite) : List Byte :=
  leBytes 4 floor ++ leBytes 2 l.length ++ [0, 0] ++ l.flatMap (fun r => leBytes 4 r.addr ++ leBytes 4 r.mask ++ leBytes 4 r.value)

/-- A record entered: merged with an earlier one for the same address. -/
def mergeRecord (l : List AuthWrite) (w : AuthWrite) : List AuthWrite :=
  if l.any (fun r => r.addr == w.addr) then
    l.map (fun r => if r.addr == w.addr then { r with mask := r.mask ||| w.mask, value := masked r.value w.mask w.value } else r)
  else l ++ [{ w with value := w.value &&& w.mask }]

/-! ## The region table area (R567): descriptors of 8 bytes at 0x0B40, the hashes of region k, read then write, at 0x0B80 + 32k (assumption 21) -/

/-- The logical bytes of the area that hold the register at an address, when it is one of LKT_RGN, LKT_RPH or LKT_WPH. -/
def regionTableAddr (f : Field) (i : Nat) : Nat :=
  if f.id = Reg.LKT_RPH_HASH.id then 0xB80 + 32 * (i / 4) + 4 * (i % 4)
  else if f.id = Reg.LKT_WPH_HASH.id then 0xB90 + 32 * (i / 4) + 4 * (i % 4)
  else 0xB40 + 8 * i

/-- The tag key page that the registers of HFT spell (Table 14-7). -/
def State.tagPageBytes (s : State) : List Byte :=
  (List.range 4).flatMap (fun w => leBytes 4 (s.regI Reg.HFT_WS_KEY_KEY w)) ++
    leBytes 1 (s.reg Reg.HFT_TAG_CFG_WS_EN + 2 * s.reg Reg.HFT_TAG_CFG_WS_TOKEN + 4 * s.reg Reg.HFT_TAG_CFG_ENF_EN) ++
    leBytes 1 (s.reg Reg.HFT_WR_RANGE_ENF_BASE) ++ leBytes 1 (s.reg Reg.HFT_WR_RANGE_ENF_PAGES) ++ leBytes 1 (s.reg Reg.HFT_WR_RANGE_WS_BASE) ++
    leBytes 1 (s.reg Reg.HFT_WR_RANGE_WS_PAGES) ++ List.replicate 43 0

/-! ## Making the writes -/

/-- The write at hand is not made: it leaves the list uncounted. -/
def State.authSkip (s : State) : State := { s with auth := s.auth.map (fun w => { w with left := w.left.tail }) }

/-- The write at hand is admitted, and takes effect when the Locket accepts the matching write (R31). -/
def State.authAwait (s : State) (x : AuthWrite) : State := { s with auth := s.auth.map (fun w => { w with left := w.left.tail, waiting := some x }) }

/-- The Locket has settled the write that waited: it takes effect, or is not made. -/
def State.authSettled (s : State) (ok : Bool) (act : AuthWrite → State → State) : State :=
  match s.auth with
  | none => s
  | some w => match w.waiting with
    | none => s
    | some x =>
      let t : State := { s with auth := some { w with waiting := none, applied := if ok then w.applied + 1 else w.applied } }
      State.authClose (if ok then act x t else t)

/-- GLT_LOCKOUT_CLR's actions for the bits that a record writes (R313). -/
def State.lockoutClear (s : State) (v : Nat) : State :=
  let s1 := if bit v 0 then s.clrDevice else s
  let s2 := if bit v 1 then s1.clrCred (bits v 16 12) else s1
  if bit v 2 then s2.clrAll else s2

/-- The tamper lock ends (R845). -/
def State.tamperUnlock (s : State) : State := { s with tmp := { s.tmp with locked := false } }

/-- The tamper page is cleared: the end of the lock waits for the Locket (R845). -/
def State.tamperClear (s : State) (x : AuthWrite) : State := (s.authAwait x).lktSubmit .tamperPage (s.runItems 0xF00 (List.replicate 64 0))

/-- Make the write at hand, or begin it. A write to anything that is not held under R29, and one that a range filter ignores, is not made; of a write to several fields
the filter ignores those whose value it does not take. -/
def State.authMake (s : State) (x : AuthWrite) : State :=
  match x.touched with
  | [] => s.authSkip
  | (f, i) :: _ =>
    let v := x.value &&& x.mask
    if f.id = Reg.GLT_LOCKOUT_CLR_DEVICE.id ∨ f.id = Reg.GLT_LOCKOUT_CLR_CRED.id ∨ f.id = Reg.GLT_LOCKOUT_CLR_ALL.id ∨ f.id = Reg.GLT_LOCKOUT_CLR_INDEX.id then
      (s.admitted.lockoutClear v)
    else if f.id = Reg.JNL_ADMIN_KEY.id then (if v = 0xF0 then s.admitted.authorityFormat else s.authSkip)
    else if f.addr = Reg.KEY_ZEROIZE_KEY.addr then (if bits v 8 8 = 0x5A then s.admitted.zeroizeWrite (bits v 0 8) 0x5A (bit v 16) true else s.authSkip)
    else if f.id = Reg.TMP_CLR_LOCK.id then (if bit v 0 then s.tamperClear x else s.authSkip)
    else if f.id = Reg.TMP_LATCH_LATCH.id then s.admitted.set f (s.reg f - (s.reg f &&& v))
    else
      let y := s.fitting x
      if y.mask = 0 then s.authSkip
      else if f.block = blkLKT then
        (s.authAwait y).lktSubmit .regionTable (s.runItems (regionTableAddr f i) (leBytes 4 ((s.putRecord y).storedReg y.addr)))
      else if f.block = blkHFT then (s.authAwait y).lktSubmit .tagKey (s.runItems tagKeyPage (s.putRecord y).tagPageBytes)
      else
        let l := mergeRecord s.overlayRecords y
        if 20 < l.length then s.authSkip else (s.authAwait y).lktSubmit .overlay (s.areaItems 1 (overlayBytes s.overlayFloor l))

/-- Make the writes in order until one waits for the Locket, or 10 ms have passed (R31); at most `n`. -/
def State.authPump : Nat → State → State
  | 0, s => s
  | n + 1, s => match s.auth with
    | none => s
    | some w =>
      if w.phase ≠ .writes ∨ w.waiting.isSome ∨ s.since w.openedAt 10000 then s
      else match w.left with
        | [] => s
        | x :: _ => State.authPump n (s.authMake x)

/-! ## Commands -/

/-- The next authority command that waits: one received by the tag, else the oldest of Q_10. -/
def State.authNext (s : State) : State :=
  if s.hft.waits = .auth ∧ !s.hft.parts.isEmpty then
    State.authBegin { s with hft := { s.hft with parts := [] } } .hf s.hft.parts
  else match s.que.running.find? (fun r => r.ring == 10 && r.entry.code == 0x10 && !r.started) with
    | none => s
    | some r =>
      let a := r.num 0 4
      let n := r.num 4 4
      if !s.inTurn pkeHolds r then s
      else if !s.rangeOk r.entry.master a n || decide (400 < n) then (s.raise 151).complete r blkKEY stPOLICY 0 []
      else (s.startCmd r).authBegin (.queue r.entry.seq) (s.bytes a n)

/-- AUTH_COMMAND (R459 to R462): the next command that waits is checked, its counter handed to the Locket; once that is accepted its writes are made in the order listed,
each that needs the Locket in its turn. Queue payload: address and length in the shared partition. -/
def execAuthCommand (s : State) : Host.Outcome State Fault Refusal :=
  .next (match s.auth with
    | none => if s.flag Reg.PKE_STAT_KAT_FAIL || s.pkeVerifies then s.authNext else s
    | some w => if w.phase = .writes then (s.authPump 17).authClose else s)

/-- AUTHORITY_WINDOW_EXPIRY (R31): 10 ms ± 1 ms after opening the named writes not yet admitted are dropped. -/
def execAuthorityWindowExpiry (s : State) : Host.Outcome State Fault Refusal :=
  .next (match s.auth with
    | none => s
    | some w =>
      if w.phase = .writes ∧ s.since w.openedAt 9000 then State.authClose { s with auth := some { w with left := [] } } else s)

/-- A row of GLT_LOCKOUT_CLR: the security core makes the named write, with the row's bit among those it sets. -/
def State.lockoutRow (s : State) (master b : Nat) (sel : Nat → Bool) : State :=
  match s.namedWrite master Reg.GLT_LOCKOUT_CLR_DEVICE with
  | some w => if bit (w.value &&& w.mask) b && sel (w.value &&& w.mask) then State.authClose ((s.admitted).lockoutClear (w.value &&& w.mask))
      else s.writeRefused master Reg.GLT_LOCKOUT_CLR_DEVICE
  | none => s.writeRefused master Reg.GLT_LOCKOUT_CLR_DEVICE

/-- LOCKOUT_CLR_DEVICE (R313): accepted only under R29. -/
def execLockoutClrDevice (master : Nat) (s : State) : Host.Outcome State Fault Refusal := .next (s.lockoutRow master 0 (fun _ => true))

/-- LOCKOUT_CLR_CRED (R313): for the credential that INDEX names. -/
def execLockoutClrCred (master : Nat) (index : Fin 4096) (s : State) : Host.Outcome State Fault Refusal :=
  .next (s.lockoutRow master 1 (fun v => bits v 16 12 == index.val))

/-- LOCKOUT_CLR_ALL (R313). -/
def execLockoutClrAll (master : Nat) (s : State) : Host.Outcome State Fault Refusal := .next (s.lockoutRow master 2 (fun _ => true))

/-- TAMPER_LOCK_CLEAR (R845): the named write of TMP_CLR.LOCK. -/
def execTamperLockClear (master : Nat) (s : State) : Host.Outcome State Fault Refusal :=
  .next (match s.namedWrite master Reg.TMP_CLR_LOCK with
    | some w => if bit (w.value &&& w.mask) 0 then s.tamperClear w else s.writeRefused master Reg.TMP_CLR_LOCK
    | none => s.writeRefused master Reg.TMP_CLR_LOCK)

/-- TAMPER_LATCH_CLEAR (R841): the named write of TMP_LATCH. -/
def execTamperLatchClear (master : Nat) (s : State) : Host.Outcome State Fault Refusal :=
  .next (match s.namedWrite master Reg.TMP_LATCH_LATCH with
    | some w => State.authClose ((s.admitted).set Reg.TMP_LATCH_LATCH (s.reg Reg.TMP_LATCH_LATCH - (s.reg Reg.TMP_LATCH_LATCH &&& (w.value &&& w.mask))))
    | none => s.writeRefused master Reg.TMP_LATCH_LATCH)

end Sys2Proof.Machine
end

