-- ==== Sys2Proof/Machine/FieldMap.lean ====
section
/-! DEFINITION. The field that the map store predicts (R366, R367). -/
namespace Sys2Proof.Machine

/-- A vector of three integers. -/
structure Vec where
  x : Int
  y : Int
  z : Int
  deriving DecidableEq, Repr

def Vec.dot (a b : Vec) : Int := a.x * b.x + a.y * b.y + a.z * b.z
def Vec.add (a b : Vec) : Vec := ⟨a.x + b.x, a.y + b.y, a.z + b.z⟩
def Vec.sub (a b : Vec) : Vec := ⟨a.x - b.x, a.y - b.y, a.z - b.z⟩
def Vec.map (a : Vec) (f : Int → Int) : Vec := ⟨f a.x, f a.y, f a.z⟩

/-- Three consecutive int16 of the map store. -/
def State.mapVec (s : State) (o : Nat) : Vec := ⟨s.mapInt o, s.mapInt (o + 2), s.mapInt (o + 4)⟩

/-- The scale of predicted fields: 2²⁰ steps to 1 µA/m. -/
def fieldScale : Int := 1048576

/-- Steps of a solver's position to 1 mm. -/
def posScale : Int := 256

/-- A point of the map store, in the solver's steps. -/
def Vec.steps (a : Vec) : Vec := a.map (· * posScale)

/-- The dipole term of R366 for aerial i with axis a (Q1.14) and moment constant k (0.0001 A·m²/A) at r steps from it, in µA/m per A at `fieldScale`; at the aerial itself, where the formula
has no value, it is free. With d the distance, h = k / (4π) · (3 (a·r) r − a d²) / d⁵. -/
def dipole (i k : Nat) (a r : Vec) : Vec :=
  let d2 := r.dot r
  let d := isqrt (d2.toNat * 2 ^ 64)
  let ar := a.dot r
  let up : Int := k * 100000000000 * fieldScale * 2 ^ 32 * 1000000000000000 * posScale ^ 3
  let down : Int := 4 * 3141592653589793 * 16384 * d2 * d2 * d
  if d2 = 0 then ⟨Config.fieldAtAerial (3 * i), Config.fieldAtAerial (3 * i + 1), Config.fieldAtAerial (3 * i + 2)⟩
  else ⟨up * (3 * ar * r.x - a.x * d2) / down, up * (3 * ar * r.y - a.y * d2) / down, up * (3 * ar * r.z - a.z * d2) / down⟩

/-- The grid header (Table 08-1): the lattice's corner, its step, its nodes along each axis, the aerials corrected. -/
def State.gridCorner (s : State) : Vec := s.mapVec 0x240
def State.gridStep (s : State) : Nat := s.mapNum 0x246 2
def State.gridNodes (s : State) : List Nat := (List.range 3).map (fun i => s.mapNum (0x248 + i) 1)

/-- Where a coordinate lies in the lattice along one axis, in the solver's steps: the lower node, and the way from it; none outside. -/
def latticeAt (corner step nodes p : Int) : Option (Int × Int) :=
  if step ≤ 0 ∨ nodes < 2 ∨ p < corner ∨ corner + step * (nodes - 1) < p then none
  else
    let i := min (nodes - 2) ((p - corner) / step)
    some (i, p - corner - step * i)

/-- A node's three grid values for a grid index (Table 08-1: the node's number runs along X first). -/
def State.gridNode (s : State) (j ix iy iz : Nat) : Vec :=
  let n := s.gridNodes
  let node := ix + n.getD 0 0 * (iy + n.getD 1 0 * iz)
  let o := 0x1000 + 3 * (s.mapNum 0x24B 1 * node + j)
  ⟨signed 8 (s.mapNum o 1), signed 8 (s.mapNum (o + 1) 1), signed 8 (s.mapNum (o + 2) 1)⟩

/-- g_i(p) × the cube of the lattice's step: the trilinear interpolation of a grid over the eight nodes around p; none outside the lattice. -/
def State.gridAt (s : State) (j : Nat) (p : Vec) : Option Vec :=
  let c := s.gridCorner.steps
  let st : Int := s.gridStep * posScale
  let n := s.gridNodes
  match latticeAt c.x st (n.getD 0 0) p.x, latticeAt c.y st (n.getD 1 0) p.y, latticeAt c.z st (n.getD 2 0) p.z with
  | some x, some y, some z =>
    let way (u : Int × Int) (b : Nat) : Int := if b = 1 then u.2 else st - u.2
    let corner (b : Nat) : Vec :=
      (s.gridNode j (x.1.toNat + b % 2) (y.1.toNat + b / 2 % 2) (z.1.toNat + b / 4)).map (fun v => v * way x (b % 2) * way y (b / 2 % 2) * way z (b / 4))
    some (((List.range 8).map corner).foldl Vec.add ⟨0, 0, 0⟩)
  | _, _, _ => none

/-- h_i(p) (R366), p in the solver's steps: the dipole term, corrected axis by axis by the grid where the aerial has a grid index and p lies inside the lattice. -/
def State.fieldPerAmp (s : State) (i : Nat) (p : Vec) : Vec :=
  let o := 16 * i
  let h := dipole i (s.mapNum (o + 12) 2) (s.mapVec (o + 6)) (p.sub (s.mapVec o).steps)
  let j := s.mapNum (o + 14) 1
  if j < 16 ∧ j < s.mapNum 0x24B 1 then
    match s.gridAt j p with
    | some g =>
      let m : Int := isqrt (h.dot h).toNat
      let st : Int := s.gridStep * posScale
      h.add (g.map (fun v => m * v / (128 * st * st * st)))
    | none => h
  else h

/-- H_b(p) (R367): the sum over a burst's enabled slots of AMPL × 1.466 mA and the cosine of the slot's phase after that of its group's reference, at `fieldScale`. `peer`: the aerials are
the partner's, 16 to 31. -/
def State.burstField (s : State) (slots : List FretSlot) (peer : Bool) (ref : Nat) (p : Vec) : Vec :=
  slots.foldl (fun v x =>
    let c := fxCos ((x.phase : Int) - ref) 256
    v.add ((s.fieldPerAmp (x.ch + (if peer then 16 else 0)) p).map (fun h => h * x.ampl * 1466 * c / (1000000 * fxOne)))) ⟨0, 0, 0⟩

/-- H_b(p) of burst b of a template, by the descriptors that GLT's session template names (R367, R369). -/
def State.predicted (s : State) (t : Template) (b : Nat) (p : Vec) : Vec :=
  match t.bursts.find? (fun x => x.1 == b) with
  | none => ⟨0, 0, 0⟩
  | some x =>
    let first := (t.runs.find? (fun r => r.any (fun y => y.1 == b))).bind (fun r => r.head?)
    let ref := match first with | some y => (((s.descriptorAt y.2.1).enabled).map FretSlot.phase).headD 0 | none => 0
    s.burstField (s.descriptorAt x.2.1).enabled x.2.2.2 ref p

end Sys2Proof.Machine
end

