-- ==== Sys2Proof/Machine/LocOps.lean ====
section
/-! DEFINITION. The solve of a position, the zone test and the Q_43 entry as operations (chapter 08). The damping of a run's steps is free (assumption 6); the steps themselves, and what they minimise, are not. -/
namespace Sys2Proof.Machine

/-- R365: whether a map store passes its checks. -/
def State.mapChecks (s : State) : Bool :=
  let sq (o : Nat) : Int := s.mapInt o * s.mapInt o
  let axis (i : Nat) := sq (16 * i + 6) + sq (16 * i + 8) + sq (16 * i + 10)
  let axisOk (i : Nat) := !bit (s.mapNum (16 * i + 15) 1) 0 || (decide (16384 * 16384 * 9801 ≤ axis i * 10000) && decide (axis i * 10000 ≤ 16384 * 16384 * 10201))
  let facesOk (z : Nat) := s.zoneFaces z == 0 || decide (4 ≤ s.zoneFaces z ∧ s.zoneFaces z ≤ 12)
  (List.range 32).all axisOk && (List.range 16).all facesOk && decide (s.mapNum 0x248 1 * s.mapNum 0x249 1 * s.mapNum 0x24A 1 ≤ 4096) && decide (s.mapNum 0x24B 1 ≤ 16)

/-! ## Observations (R368 to R370) -/

/-- The latest Q_42 entry of each burst of a handle, by burst. -/
def State.burstEntries (s : State) (session handle : Nat) : List Entry :=
  let l := s.evidence 42 session handle
  (List.range 16).filterMap (fun b => (l.filter (fun e => e.num 6 1 == b)).getLast?)

/-- The axes of a Q_42 entry, µA/m. -/
def Entry.axes (e : Entry) : List Int := (List.range 3).map (fun i => signed 32 (e.num (12 + 4 * i) 4))

/-- H_b · H_r. -/
def axesDot (a b : Entry) : Int := (List.zipWith (fun x y => x * y) a.axes b.axes).sum

/-- The template of a session that GLT holds. -/
def State.sessionTemplate (s : State) (session : Nat) : Option Template :=
  ([s.glt.sess, s.glt.last].findSome? (fun o => o.filter (fun g => g.number == session))).map (fun g => s.template g.template)

/-- The first burst of the group of a burst of a session's template. -/
def State.groupFirst (s : State) (session b : Nat) : Option Nat :=
  (s.sessionTemplate session).bind (fun t => ((t.runs.find? (fun r => r.any (fun y => y.1 == b))).bind (fun r => r.head?)).map (fun y => y.1))

/-- The valid burst of an index. -/
def validBurst (l : List Entry) (b : Nat) : Option Entry := l.find? (fun e => e.num 6 1 == b && e.num 7 1 == 1)

/-- The bursts that give a cosine: valid, not the first of their group, the first valid (R369). -/
def State.cosines (s : State) (session : Nat) (l : List Entry) : List (Entry × Entry) :=
  (l.filter (fun e => e.num 7 1 == 1)).filterMap (fun e => match s.groupFirst session (e.num 6 1) with
    | some f => if f = e.num 6 1 then none else (validBurst l f).map (fun r => (e, r))
    | none => none)

/-- The ranges of a block that take part in the fit (R370). -/
def State.fitRanges (s : State) (l : List Entry) : List Entry := l.filter (fun e => e.ok41 && s.portPresent (e.num 6 1))

/-- All that a run of the solver works on, as integers: the settings, the observations, the descriptors and the map. -/
def State.fitInputs (s : State) (session : Nat) (q42 q41 : List Entry) : List Int :=
  let n (x : Nat) : Int := x
  let first (e : Entry) : Int := match s.groupFirst session (e.num 6 1) with | some f => n f | none => -1
  [n (s.reg Reg.LOC_CFG_MAX_ITER), n (s.reg Reg.LOC_CFG_SIG_MAG), n (s.reg Reg.LOC_CFG_SIG_COS), n (s.reg Reg.LOC_CFG_SIG_D)] ++
    q42.flatMap (fun e => n (e.num 6 1) :: n (e.num 7 1) :: first e :: e.axes) ++
    (List.range 256).flatMap (fun i => (s.bytes (fretRam + 16 * i) 16).map (fun b => n b.toNat)) ++
    q41.flatMap (fun e => [n (e.num 6 1), e.bound]) ++ s.loc.map.map (fun b => n b.toNat)

/-- The result of a fit: whether a run converged, p in mm, UNC before R372's factor in mm at 2⁻¹⁶, β in mm, χ² in steps of 2⁻¹⁶. -/
structure Fit where
  converged : Bool
  x : Int
  y : Int
  z : Int
  unc : Nat
  beta : Int
  chi : Nat
  deriving DecidableEq, Repr

/-- No position. -/
def noFit : Fit := { converged := false, x := 0, y := 0, z := 0, unc := 65535, beta := 0, chi := 0 }

/-- The square root of the product of two lengths' squares, and the cosine between two vectors, at `fxOne` (R369); that with a vector of length 0 is free. -/
def vecCos (a b : Vec) : Int :=
  let n := (a.dot a).toNat * (b.dot b).toNat
  if n = 0 then Config.cosZero else a.dot b * fxOne * 65536 / isqrt (n * 2 ^ 32)

/-- The measured vector of a Q_42 entry, µA/m. -/
def Entry.vec (e : Entry) : Vec := ⟨e.axes.getD 0 0, e.axes.getD 1 0, e.axes.getD 2 0⟩

/-- A misfit over its σ, both at `fxOne`, in steps of 2⁻³². -/
def misfit (v sigma : Int) : Int := v * 2 ^ 32 / max 1 sigma

/-- The terms of R370 before they are squared, at a point and a common offset in the solver's steps: the logarithms of the magnitudes, the cosines within a group, the ranges in mm. -/
def State.misfits (s : State) (session : Nat) (q42 q41 : List Entry) (p : Vec) (beta : Int) : List Int :=
  let t := s.sessionTemplate session
  let field (e : Entry) : Vec := match t with | some x => s.predicted x (e.num 6 1) p | none => ⟨0, 0, 0⟩
  let good := q42.filter (fun e => e.num 7 1 == 1)
  let mag (e : Entry) : Int :=
    let h := field e
    misfit ((fxLn (e.vec.dot e.vec).toNat - fxLn (h.dot h).toNat + fxLn (fieldScale * fieldScale).toNat) / 2) (s.reg Reg.LOC_CFG_SIG_MAG * fxOne / 100)
  let ang (x : Entry × Entry) : Int := misfit (vecCos x.1.vec x.2.vec - vecCos (field x.1) (field x.2)) (s.reg Reg.LOC_CFG_SIG_COS * fxOne / 100)
  let far (e : Entry) : Int :=
    let r := p.sub (s.mapVec (0x200 + 8 * e.num 6 1)).steps
    let d : Int := isqrt ((r.dot r).toNat * 2 ^ 64)
    misfit (((e.bound * posScale - beta) * fxOne - d * 2 ^ 32) / posScale) (10 * s.reg Reg.LOC_CFG_SIG_D * fxOne)
  good.map mag ++ (s.cosines session q42).map ang ++ q41.map far

/-- χ² of R370 in steps of 2⁻¹⁶. -/
def chiOf (l : List Int) : Nat := (l.map (fun v => (v * v).toNat)).sum / 2 ^ 48

/-! ## Gauss–Newton (R371) -/

/-- The product of two lists. -/
def dotList (a b : List Int) : Int := (List.zipWith (fun x y => x * y) a b).sum

/-- A matrix without a row and a column, its determinant by its first row, and one with a column replaced. -/
def minorOf (m : List (List Int)) (i j : Nat) : List (List Int) := (m.eraseIdx i).map (fun r => r.eraseIdx j)
def detOf : Nat → List (List Int) → Int
  | 0, _ => 1
  | n + 1, m => ((List.range (n + 1)).map (fun j => (if j % 2 = 0 then 1 else -1) * (m.headD []).getD j 0 * detOf n (minorOf m 0 j))).sum
def withColumn (m : List (List Int)) (j : Nat) (g : List Int) : List (List Int) := List.zipWith (fun r v => r.set j v) m g

/-- The change of every term of R370 over 2 mm along each unknown, about a point: p's three coordinates and, of four unknowns, β. -/
def State.slopes (s : State) (session : Nat) (q42 q41 : List Entry) (q : Nat) (p : Vec) (beta : Int) : List (List Int) :=
  let f := s.misfits session q42 q41
  let d (v : Vec) (b : Int) : List Int := List.zipWith (fun x y => x - y) (f (p.add v) (beta + b)) (f (p.sub v) (beta - b))
  [d ⟨posScale, 0, 0⟩ 0, d ⟨0, posScale, 0⟩ 0, d ⟨0, 0, posScale⟩ 0] ++ (if q = 4 then [d ⟨0, 0, 0⟩ posScale] else [])

/-- The normal matrix of slopes. -/
def normalOf (j : List (List Int)) : List (List Int) := j.map (fun a => j.map (dotList a))

/-- The Gauss–Newton step from a point, in the solver's steps; none where the normal matrix has no inverse. -/
def State.newtonStep (s : State) (session : Nat) (q42 q41 : List Entry) (q : Nat) (p : Vec) (beta : Int) : Option (List Int) :=
  let j := s.slopes session q42 q41 q p beta
  let m := normalOf j
  let d := detOf q m
  let g := j.map (fun c => dotList c (s.misfits session q42 q41 p beta))
  if d = 0 then none else some ((List.range q).map (fun i => -(2 * posScale * detOf q (withColumn m i g)) / d))

/-- Where a run of the solver stands: whether it has converged, p and β in the solver's steps. -/
structure SolverAt where
  done : Bool
  p : Vec
  beta : Int
  deriving DecidableEq, Repr

/-- The steps of a run, at most `n` (R371): each is the Gauss–Newton step damped by a free factor. A run has converged when its Gauss–Newton step is shorter than 1 mm; that one is taken
whole (DESIGN CHOICE, assumption 6). -/
def State.newtonRun (s : State) (session : Nat) (q42 q41 : List Entry) (q z : Nat) : Nat → SolverAt → SolverAt
  | 0, a => a
  | n + 1, a => match s.newtonStep session q42 q41 q a.p a.beta with
    | none => a
    | some d =>
      let v : Vec := ⟨d.getD 0 0, d.getD 1 0, d.getD 2 0⟩
      let short := decide (v.dot v < posScale * posScale)
      let k : Int := if short then 65536 else 1 + Config.damping ((z : Int) :: (n : Int) :: a.p.x :: a.p.y :: a.p.z :: a.beta :: s.fitInputs session q42 q41) % 65536
      let b : SolverAt := { done := short, p := a.p.add (v.map (fun x => x * k / 65536)), beta := a.beta + d.getD 3 0 * k / 65536 }
      if short then b else s.newtonRun session q42 q41 q z n b

/-- The root of the summed variances of p from the inverse normal matrix (R372), in mm at 2⁻¹⁶; with a matrix that has no inverse, the largest UNC. -/
def State.spread (s : State) (session : Nat) (q42 q41 : List Entry) (q : Nat) (a : SolverAt) : Nat :=
  let m := normalOf (s.slopes session q42 q41 q a.p a.beta)
  let d := detOf q m
  if d = 0 then 65535 * 65536
  else isqrt (((List.range 3).map (fun i => detOf (q - 1) (minorOf m i i))).sum * 4 * 2 ^ 96 / d).toNat

/-- A value held in a signed 16-bit field. -/
def sat16 (v : Int) : Int := max (-32768) (min 32767 v)

/-- The nearest mm. -/
def toMm (v : Int) : Int := sat16 ((v + posScale / 2) / posScale)

/-- A run of the solver from the centroid of zone z (R371). With fewer than two ranges β is held at 0 and is no unknown. -/
def State.fitRun (s : State) (session : Nat) (q42 q41 : List Entry) (z : Nat) : Fit :=
  let q := if q41.length < 2 then 3 else 4
  let a := s.newtonRun session q42 q41 q z (s.reg Reg.LOC_CFG_MAX_ITER) { done := false, p := (s.mapVec (zoneAt z + 2)).steps, beta := 0 }
  { converged := a.done, x := toMm a.p.x, y := toMm a.p.y, z := toMm a.p.z, unc := s.spread session q42 q41 q a, beta := toMm a.beta, chi := chiOf (s.misfits session q42 q41 a.p a.beta) }

/-- The fit: of the runs from each zone that takes part (R376), the converged one with the least χ², the first of equal ones (R371). -/
def State.fitPosition (s : State) (session : Nat) (q42 q41 : List Entry) : Fit :=
  let runs := (((List.range 16).filter s.zoneOn).map (s.fitRun session q42 q41)).filter Fit.converged
  runs.foldl (fun (b : Fit) x => if !b.converged || decide (x.chi < b.chi) then x else b) noFit

/-- UNC (R372): a run's root times max(1, √(χ² / ν)), saturating. -/
def Fit.uncertainty (t : Fit) (nu : Nat) : Nat := min 65535 (t.unc * max 4294967296 (isqrt (t.chi * 2 ^ 48 / max 1 nu)) / 2 ^ 48)

/-! ## Zones (R375 to R379) -/

/-- R377: whether p satisfies plane face f of zone z, exactly. -/
def State.planeFace (s : State) (z f : Nat) (t : Fit) : Bool :=
  let o := zoneAt z + 24 + 8 * f
  decide (s.mapInt o * t.x + s.mapInt (o + 2) * t.y + s.mapInt (o + 4) * t.z ≤ s.mapInt (o + 6) * 16384)

/-- The enabled null face of zone z that names face f: SIGN, REF, SHAPED. -/
def State.nullFace (s : State) (z f : Nat) : Option (Bool × Nat × Nat) :=
  [120, 124].findSome? (fun o =>
    let a := s.mapNum (zoneAt z + o) 1
    let b := s.mapNum (zoneAt z + o + 1) 1
    if bit a 7 && bits a 0 4 == f then some (bit a 6, bits b 0 4, bits b 4 4) else none)

/-- A face: whether it is satisfied, and whether a null face decided it (1), fell back (2) or it is a plane (0) (R378). -/
def State.face (s : State) (z f : Nat) (t : Fit) (q42 : List Entry) : Bool × Nat :=
  match s.nullFace z f with
  | none => (s.planeFace z f t, 0)
  | some n =>
    match validBurst q42 n.2.2, validBurst q42 n.2.1 with
    | some b, some r =>
      let d := axesDot b r
      if d = 0 then (s.planeFace z f t, 2) else (if n.1 then decide (d < 0) else decide (0 < d), 1)
    | _, _ => (s.planeFace z f t, 2)

/-- The faces of every zone that takes part. -/
def State.allFaces (s : State) (t : Fit) (q42 : List Entry) : List (Nat × Bool × Nat) :=
  ((List.range 16).filter s.zoneOn).flatMap (fun z => (List.range (s.zoneFaces z)).map (fun f => (z, s.face z f t q42)))

/-- ZONES: the zones every face of which holds (R379). -/
def zonesOf (faces : List (Nat × Bool × Nat)) : List Nat :=
  ((faces.map (fun x => x.1)).eraseDups).filter (fun z => faces.all (fun x => x.1 != z || x.2.1))

/-! ## The entry (Table 08-4) -/

/-- CONF (R372): floor(255 / max(1, χ²/ν)). -/
def confOf (chi nu : Nat) : Nat := if chi ≤ 65536 * nu then 255 else 255 * 65536 * nu / chi

/-- The Q_43 payload. -/
def q43Payload (v : Solve) (cause zone zones : Nat) (t : Fit) (conf flags time : Nat) : List Byte :=
  leBytes 4 v.session ++ leBytes 2 v.handle ++ leBytes 1 (v.block.getD 0xFF) ++ leBytes 1 (if conf = 0 then stZONE else stOK) ++ leBytes 1 cause ++ leBytes 1 zone ++
    leBytes 2 zones ++ leBytes 2 (unsigned 16 t.x) ++ leBytes 2 (unsigned 16 t.y) ++ leBytes 2 (unsigned 16 t.z) ++ leBytes 2 t.unc ++ leBytes 2 (unsigned 16 t.beta) ++
    leBytes 1 conf ++ leBytes 1 flags ++ leBytes 6 time ++ [0, 0]

/-- Solve the position that is due and enter it on Q_43 (R368 to R381). A solve that has used no Q_41 and no Q_42 entry, for which R50 and Table 08-4 give no TIME, carries the timebase of the
solve (DESIGN CHOICE, assumption 98). -/
def State.solveOne (s : State) (v : Solve) : State :=
  let q42 := s.burstEntries v.session v.handle
  let blk := match v.block with | some b => (s.evidence 41 v.session v.handle).filter (fun e => e.num 10 1 == b) | none => []
  let q41 := s.fitRanges blk
  let good := q42.filter (fun e => e.num 7 1 == 1)
  let n := good.length + (s.cosines v.session q42).length + q41.length
  let q := if q41.length < 2 then 3 else 4
  let t := s.fitPosition v.session q42 q41
  let cause : Nat := if v.off then 4 else if !s.loc.mapValid then 3 else if n < q + 1 then 1 else if !t.converged then 2 else 0
  let conf : Nat := if cause = 0 then confOf t.chi (n - q) else 0
  let faces := if conf = 0 then [] else s.allFaces t q42
  let zs := zonesOf faces
  let back := (faces.filter (fun x => x.2.2 == 2)).length
  let used := if conf = 0 then noFit else { t with unc := t.uncertainty (n - q) }
  let flags := ofBool (faces.any (fun x => x.2.2 == 1)) + 2 * ofBool (decide (0 < back)) + 4 * ofBool (decide (q41.length < 2))
  let times := good.map (fun e => e.num 24 6) ++ q41.map (fun e => e.num 24 6)
  let time := match times with | [] => s.timebase | x :: r => r.foldl min x
  let zone := zs.headD 0
  let s1 := s.emit 43 blkLOC (q43Payload v cause zone (maskOf zs) used conf flags time)
  let s2 := (((((s1.wrapUp Reg.LOC_STAT_SOLVES).set Reg.LOC_LAST_XY_X (unsigned 16 used.x)).set Reg.LOC_LAST_XY_Y (unsigned 16 used.y)).set Reg.LOC_LAST_Z_Z
    (unsigned 16 used.z)).set Reg.LOC_LAST_Z_ZONE zone).set Reg.LOC_LAST_Z_CONF conf
  let s3 := if cause = 1 then s2.bump Reg.LOC_ERR_FEW_OBS else if cause = 2 then s2.bump Reg.LOC_ERR_NO_CONV else s2
  let s4 := (List.range back).foldl (fun u _ => u.bump Reg.LOC_ERR_FALLBACK) s3
  let s5 := if conf = 0 then s4.raise 129 else s4.raise 128
  if 0 < back then s5.raise 130 else s5

end Sys2Proof.Machine
end

