-- ==== Sys2Proof/Machine/ImageOps.lean ====
section
/-! DEFINITION. The Odotte image: its layout, its checks, what its sections write (R812 to R816, R134). -/
namespace Sys2Proof.Machine

/-! ## Layout (Table 17-3) -/

/-- A section table entry. -/
structure Section where
  typ : Nat
  live : Bool
  flags : Nat
  off : Nat
  len : Nat
  zero : Nat
  hash : List Byte
  deriving DecidableEq, Repr

/-- A little-endian field of an image. -/
def imgNum (b : List Byte) (o n : Nat) : Nat := ofLe (slice b o n)

/-- Fields of the header. -/
def imgGen (b : List Byte) : Nat := imgNum b 8 4
def imgFloor (b : List Byte) : Nat := imgNum b 12 4
def imgLength (b : List Byte) : Nat := imgNum b 16 4

/-- The section table. -/
def imgSections (b : List Byte) : List Section :=
  (List.range (min 13 (imgNum b 6 2))).map (fun i =>
    let o := 64 + 48 * i
    { typ := imgNum b o 2, live := bit (imgNum b (o + 2) 2) 0, flags := imgNum b (o + 2) 2, off := imgNum b (o + 4) 4, len := imgNum b (o + 8) 4,
      zero := imgNum b (o + 12) 4, hash := slice b (o + 16) 32 })

/-- The section of a type, and its bytes. -/
def imgSection (b : List Byte) (typ : Nat) : Option Section := (imgSections b).find? (fun x => x.typ == typ)
def sectionBytes (b : List Byte) (x : Section) : List Byte := slice b x.off x.len
def imgBytes (b : List Byte) (typ : Nat) : List Byte := match imgSection b typ with | some x => sectionBytes b x | none => []

/-- The records of REG_INIT or CAL. -/
def imgRecords (b : List Byte) (typ : Nat) : List AuthWrite :=
  let l := imgBytes b typ
  (List.range (l.length / 12)).map (fun i => { addr := imgNum l (12 * i) 4, mask := imgNum l (12 * i + 4) 4, value := imgNum l (12 * i + 8) 4 })

/-- The save list's addresses (R134). -/
def imgSaveList (b : List Byte) : List Nat := let l := imgBytes b 0x0D; (List.range (l.length / 4)).map (fun i => imgNum l (4 * i) 4)

/-! ## The checks (Table 17-5) -/

/-- Cause 1. -/
def imgFormat (b : List Byte) : Bool :=
  let n := imgNum b 6 2
  let l := imgSections b
  let inside (x : Section) := decide (64 + 48 * n ≤ x.off) && decide (x.off + x.len + 64 ≤ imgLength b) && x.off % 256 == 0 && x.zero == 0 &&
    decide (x.flags ≤ 1) && decide (1 ≤ x.typ ∧ x.typ ≤ 13)
  let apart (i j : Nat) := match l[i]?, l[j]? with
    | some x, some y => i == j || (x.typ != y.typ && (decide (x.off + x.len ≤ y.off) || decide (y.off + y.len ≤ x.off)))
    | _, _ => true
  imgNum b 0 4 == 0x4554444F && imgNum b 4 1 == 1 && imgNum b 5 1 == 0x43 && decide (5 ≤ n ∧ n ≤ 13) && decide (imgLength b ≤ 0x200000) &&
    decide (imgLength b ≤ b.length) && decide (128 + 48 * n ≤ imgLength b) && (slice b 28 36).all (· == 0) && l.all inside &&
    (List.range n).all (fun i => (List.range n).all (fun j => apart i j)) && ([1, 2, 3, 5, 6] : List Nat).all (fun t => (imgSection b t).isSome)

/-- The largest size of a section, bytes (Tables 17-4, 10-4, 14-7; the ring table and region table layouts: assumption 21). -/
def sectionMax (typ : Nat) : Nat :=
  if typ = 1 then 0x70000 else if typ = 2 then 0x100000 else if typ = 5 then 0x40000 else if typ = 6 then 4864 else if typ = 7 then 128 else if typ = 8 then 256
  else if typ = 9 then 192 + 128 * 4096 + 64 else if typ = 10 then 0x140 else if typ = 11 then 128 else if typ = 12 then 64 else if typ = 13 then 384 else 0x200000

/-- Whether an address lies in a block window (Table 01-1). -/
def inWindows (a : Nat) : Bool := decide (0x40000000 ≤ a) && decide (a < 0x401F0000)

/-- Blocks of R131 whose configuration registers are kept: LOC, VRD, GOV, CRD, KEY. -/
def secureBlocks : List Nat := [10, 11, 12, 13, 14]

/-- Whether a register belongs to the secure retention set (R131): the protection set-up, and the configuration registers and lock bits of its blocks. -/
def secureField (f : Field) : Bool := f.prot || (secureBlocks.contains f.block && (f.acc == .rwl || lockFields.contains f))

/-- Fields that a CAL record may name (R814). -/
def calFields : List Nat :=
  (Reg.all.filter (fun f => [Reg.LFA_CH_CAL_GAIN.addr, Reg.LFA_PRES_CFG_DF_THRESH.addr, Reg.TCH_CFG_THRESH.addr, Reg.UWB_PORT_CAL_TX_DLY.addr, Reg.UWB_PORT_PH_PH_OFS.addr].contains f.addr &&
    (f.addr != Reg.TCH_CFG_THRESH.addr || f.id == Reg.TCH_CFG_THRESH.id))).map Field.id ++ [Reg.LFA_CH_CFG_DETUNE_LIM.id]

/-- Whether a REG_INIT or CAL record names a register that it may write (cause 7). -/
def recordAllowed (cal : Bool) (w : AuthWrite) : Bool :=
  let l := fieldsAt Reg.all w.addr
  let barred (f : Field) := lockFields.contains f || [Reg.LKT_RGN_BASE.addr, Reg.LKT_RPH_HASH.addr, Reg.LKT_WPH_HASH.addr, Reg.HFT_TAG_CFG_WS_EN.addr,
    Reg.HFT_WR_RANGE_ENF_BASE.addr, Reg.HFT_WS_KEY_KEY.addr].contains f.addr
  inWindows w.addr && w.addr % 4 == 0 && !l.isEmpty && !l.any (fun p => barred p.1) && (!cal || w.touched.all (fun p => calFields.contains p.1.id))

/-- Whether a save list is one of R134. -/
def saveListOk (l : List Nat) : Bool := l.all (fun a => inWindows a && !(fieldsAt Reg.all a).any (fun p => secureField p.1))

/-- Cause 7. -/
def imgContents (b : List Byte) : Bool :=
  (imgRecords b 3).all (recordAllowed false) && (imgRecords b 4).all (recordAllowed true) &&
    (imgSections b).all (fun x => decide (x.len ≤ sectionMax x.typ) && (!x.live || x.typ == 2 || x.typ == 4)) && saveListOk (imgSaveList b)

/-- The maker key for cause 5: the anchor record's, or the image's while the record is empty; none when there is neither. -/
def State.imageKey (s : State) (b : List Byte) : Option (List Byte) :=
  if s.areaDamaged 0 then none
  else if s.anchorEmpty then (if (imgSection b 7).isSome then some (slice (imgBytes b 7) 64 64) else none)
  else some s.makerKey

/-- A firmware section's signature (R815). -/
def State.firmwareOk (s : State) (b : List Byte) (typ : Nat) : Bool :=
  let l := imgBytes b typ
  let n := l.length - 64
  decide (64 ≤ l.length) && ecdsaVerify s.fwKey (sha256 (l.take n)) (l.drop n)

/-- Causes 1 to 3, made on the header (Table 17-6, step 2). -/
def State.headerCause (s : State) (b : List Byte) : Nat :=
  if !imgFormat b then 1
  else if imgNum b 20 8 ≠ 0 ∧ imgNum b 20 8 ≠ s.devnum then 2
  else if imgGen b < s.overlayFloor ∨ imgGen b < imgFloor b ∨ imgGen b = 0 then 3
  else 0

/-- R816: the cause of Table 17-5, 0 for a valid image. -/
def State.imageCause (s : State) (b : List Byte) : Nat :=
  let c := s.headerCause b
  if c ≠ 0 then c
  else if !(imgSections b).all (fun x => sha256 (sectionBytes b x) == x.hash) then 4
  else
    let n := imgLength b
    let signed_ := match s.imageKey b with | some k => ecdsaVerify k (sha256 (b.take (n - 64))) (slice b (n - 64) 64) | none => false
    if !signed_ then 5
    else if !s.firmwareOk b 1 || !s.firmwareOk b 2 then 6
    else if !imgContents b then 7
    else 0

/-- The verifications that judging an image takes, in their order, up to the first that fails (R815, R816). -/
def State.imageVerifies (s : State) (b : List Byte) : List Bool :=
  let c := s.imageCause b
  if c = 1 ∨ c = 2 ∨ c = 3 ∨ c = 4 ∨ (c = 5 ∧ (s.imageKey b).isNone) then []
  else if c = 5 then [false]
  else if c = 6 then (if s.firmwareOk b 1 then [true, true, false] else [true, false])
  else [true, true, true]

/-- The messages that are hashed for it: each section, then what the signatures cover. -/
def State.imageHashes (s : State) (b : List Byte) : List Nat :=
  if s.headerCause b ≠ 0 then []
  else (imgSections b).map (fun x => x.len) ++ ([imgLength b - 64, (imgBytes b 1).length - 64, (imgBytes b 2).length - 64] : List Nat).take (s.imageVerifies b).length

/-- Judge an image: its cause, and what PKE and HSH count for it. -/
def State.imageJudge (s : State) (b : List Byte) : Nat × State :=
  (s.imageCause b, (s.imageVerifies b).foldl (fun t ok => t.pkeCount false ok) (s.hashed (s.imageHashes b)))

/-- Status of a cause of Table 17-5 or 17-9. -/
def imgStatus (c : Nat) : Nat :=
  if c = 0 then stOK else if c = 4 ∨ c = 5 ∨ c = 6 then stAUTH else if c = 10 then stFULL else if c = 11 then stNV else stPOLICY

/-! ## Writing the registers (Table 17-4, R866, R875) -/

/-- A record's write of one field: RW and RWL fields that are not locked and not held under R29 take their value, unless it lies outside the field's set. `calWrite`: CFG's own path
of a live update, which passes the lock bits (R837). -/
def State.imageField (w : AuthWrite) (calWrite : Bool) (s : State) (p : Field × Nat) : State :=
  let v := s.recordValue w p
  if (p.1.acc = .rw ∨ p.1.acc = .rwl) ∧ !p.1.windowOnly ∧ (calWrite ∨ p.1.acc = .rw ∨ !s.locked p.1 p.2) ∧ s.recordTakes w p then s.setI p.1 p.2 v else s

/-- A record's write. -/
def State.imageRecord (calWrite : Bool) (s : State) (w : AuthWrite) : State := w.touched.foldl (State.imageField w calWrite) s

/-- The bytes of a NOR bank of images. -/
def State.imageBank (s : State) (b : Nat) : List Byte := if b = 0 then s.nor.imageA else s.nor.imageB
def State.setImageBank (s : State) (b : Nat) (d : List Byte) : State :=
  if b = 0 then { s with nor := { s.nor with imageA := d } } else { s with nor := { s.nor with imageB := d } }

/-- The running image, empty when there is none. -/
def State.runningImage (s : State) : List Byte := match s.nor.running with | some b => s.imageBank b | none => []

end Sys2Proof.Machine
end

