-- ==== Sys2Proof/Machine/Lfa.lean ====
section
/-! DEFINITION. Meanings of the LF array's and the touch controller's commands (chapter 04). -/
namespace Sys2Proof.Machine

/-- LFA_ENABLE (R171, R212): a write of 1 to LFA_CTRL.EN. Every enabled channel waits for its seeding ping. -/
def execLfaEnable (master : Nat) (s : State) : Host.Outcome State Fault Refusal :=
  .next (if !s.mayWriteField master Reg.LFA_CTRL_EN then s.writeRefused master Reg.LFA_CTRL_EN
  else if s.mayStore master Reg.LFA_CTRL_EN 0 && !s.flag Reg.LFA_CTRL_EN then
    let t := s.set Reg.LFA_CTRL_EN 1
    { t with lfa := { t.lfa with frets := 0, seeds := (List.range 16).filter (fun ch => t.regI Reg.LFA_CH_CFG_EN ch == 1) } }
  else s)

/-- A write of 0 to LFA_CTRL.EN (Table 04-3): the running sequence ends at once with cause 8. Sequences that still wait, and a FREQ that waits, go on waiting until EN is set again (DESIGN
CHOICE, assumption 96). -/
def State.lfaDisable (s : State) (master : Nat) : State :=
  if s.mayStore master Reg.LFA_CTRL_EN 0 && s.flag Reg.LFA_CTRL_EN then
    let t := (s.set Reg.LFA_CTRL_EN 0).lfaStop 8
    State.gltBoundary { t with lfa := { t.lfa with seeds := [], pings := [] } }
  else s

/-- LFA_CARRIER_WRITE (R169). A write made while EN is clear takes effect at once and replaces one that still waits (DESIGN CHOICE, assumption 96). -/
def execLfaCarrierWrite (master freq : Nat) (s : State) : Host.Outcome State Fault Refusal :=
  .next (if !s.mayWriteField master Reg.LFA_CARRIER_FREQ then s.writeRefused master Reg.LFA_CARRIER_FREQ
    else if !s.mayStore master Reg.LFA_CARRIER_FREQ 0 || decide (freq < 100000) || decide (150000 < freq) then s
    else if s.flag Reg.LFA_CTRL_EN then { s with lfa := { s.lfa with carrier := some freq } }
    else State.set { s with lfa := { s.lfa with carrier := none } } Reg.LFA_CARRIER_FREQ freq)

/-- LFA_STOP (R183): stops the running Q_2 or Q_13 sequence at the next boundary; STOP reads 1 until then. -/
def execLfaStop (master : Nat) (s : State) : Host.Outcome State Fault Refusal :=
  .next (if !s.mayWriteField master Reg.LFA_CTRL_STOP then s.writeRefused master Reg.LFA_CTRL_STOP
  else match s.lfa.seq with
    | some q => if q.issuer != 1 then State.set { s with lfa := { s.lfa with seq := some { q with stop := true } } } Reg.LFA_CTRL_STOP 1 else s
    | none => s)

/-- FRET_BOUNDARY (R179, R189): `driven` gives the cycles that a channel was driven in the Fret that ends where that is not all of it, `sensed` the amplitude and
phase of its last 32 driven cycles. -/
def execFretBoundary (driven : List (Nat × Nat)) (sensed : List (Nat × Nat × Nat)) (s : State) : Host.Outcome State Fault Refusal :=
  .next (if s.flag Reg.LFA_CTRL_EN then ((s.fretBoundary driven sensed).gltBoundary).rangePump else s)

/-- A channel's fault marks the Fret not valid (R201); `off`: the channel is off until the Fret ends. -/
def State.fretFault (s : State) (ch : Nat) (off : Bool) : State :=
  s.onFret (fun f => if off then { f.switchOff [ch] s.now with bad := true } else { f with bad := true })

/-- VDRV_UNDERVOLTAGE (R168). -/
def execVdrvUndervoltage (bank : Fin 4) (s : State) : Host.Outcome State Fault Refusal :=
  let chs := (List.range 4).map (4 * bank.val + ·)
  let add (l : List Nat) := (bank.val :: l).eraseDups
  let s1 : State := { s with pwr := { s.pwr with vdrvLow := add s.pwr.vdrvLow }, lfa := { s.lfa with bankOff := add s.lfa.bankOff } }
  .next ((chs.foldl (fun t ch => t.latch Reg.LFA_CH_STAT_VDRV_LOW ch) s1).onFret (fun f =>
    let hit := f.slots.any (fun x => chs.contains x.1)
    if hit then { f.switchOff chs s.now with bad := true } else f))

/-- VDRV_RECOVERED (R168): VDRV_OK has been set for 1 ms without a break. -/
def execVdrvRecovered (bank : Fin 4) (s : State) : Host.Outcome State Fault Refusal :=
  let del (l : List Nat) := l.filter (· != bank.val)
  .next { s with pwr := { s.pwr with vdrvLow := del s.pwr.vdrvLow }, lfa := { s.lfa with bankOff := del s.lfa.bankOff } }

/-- CHANNEL_OVERCURRENT (Table 04-4). -/
def execChannelOvercurrent (ch : Fin 16) (s : State) : Host.Outcome State Fault Refusal :=
  .next (if s.drives ch.val then
    ((s.latch Reg.LFA_CH_STAT_OVERCURRENT ch.val).fretFault ch.val true).onFret (fun f => { f with oc := (ch.val :: f.oc).eraseDups })
  else s)

/-- Whether a current in µA lies within 2 % of target T (R173). -/
def nearTarget (target current : Nat) : Bool := decide (((current : Int) * 1023 - (target : Int) * 1500000).natAbs * 50 ≤ target * 1500000)

/-- Whether a phase lies within 4 steps of another. -/
def nearPhase (a b : Nat) : Bool := decide ((a + 256 - b % 256) % 256 ≤ 4) || decide ((b + 256 - a % 256) % 256 ≤ 4)

/-- CHANNEL_SETTLE_CHECK (Table 04-4): the peak current in µA and the phase as sensed at a driven cycle, the 8th or a later one. -/
def execChannelSettleCheck (ch : Fin 16) (cycle current phase : Nat) (s : State) : Host.Outcome State Fault Refusal :=
  let slot : Option (Nat × Nat × Nat) := match s.lfa.fret with | some f => f.slots.find? (fun x => x.1 == ch.val) | none => none
  .next (match slot with
    | some x =>
      if !s.drives ch.val || decide (cycle < 8) then s
      else
        let phErr (t : State) := if nearPhase phase (s.targetPhase ch.val x.2.2) then t else (t.latch Reg.LFA_CH_STAT_PHASE_ERR ch.val).fretFault ch.val false
        if 8 < cycle then phErr s
        else
          let vok := !s.pwr.vdrvLow.contains (ch.val / 4)
          let s1 := if 256 ≤ x.2.1 ∧ current < 30000 then (s.latch Reg.LFA_CH_STAT_OPEN_LOAD ch.val).fretFault ch.val true else s
          let s2 := if vok && !nearTarget (s.target ch.val x.2.1) current then (s1.latch Reg.LFA_CH_STAT_SATURATED ch.val).fretFault ch.val false else s1
          phErr s2
    | none => s)

/-! ## Pings and presence -/

/-- The scheduler's ping period in µs; none where no ping runs (R207). -/
def State.pingPeriod (s : State) : Option Nat :=
  if s.sleeping = 1 then some (1000 * s.reg Reg.LFA_PING_PER_PER_S1) else if s.sleeping = 2 then some 250000
  else if s.sleeping = 0 && s.flag Reg.LFA_CTRL_RUN_PING then some (1000 * s.reg Reg.LFA_PING_PER_PER_RUN) else none

/-- PING_DUE (R207, R208). The 250 ms of S2 may come 2 % early. -/
def execPingDue (s : State) : Host.Outcome State Fault Refusal :=
  .next (match s.pingPeriod with
    | some p =>
      let early := if s.sleeping = 2 then p / 50 else 0
      if s.flag Reg.LFA_CTRL_EN && s.lfa.pings.isEmpty && s.since s.lfa.pingAt (p - early) then
        { s with lfa := { s.lfa with pings := (List.range 16).filter (fun ch => bit (s.reg Reg.LFA_PING_CFG_MASK) ch), pingNew := true } }
      else s
    | none => s)

/-- The presence of a channel. -/
def State.presence (s : State) (ch : Nat) : Presence := storeGet {} s.lfa.presence ch
def State.setPresence (s : State) (ch : Nat) (p : Presence) : State := { s with lfa := { s.lfa with presence := storeSet {} s.lfa.presence ch p } }

/-- Set a channel's baselines. -/
def State.setBase (s : State) (ch : Nat) (df q : Int) : State :=
  (s.setI Reg.LFA_CH_BASE_DF_BASE ch (unsigned 16 df)).setI Reg.LFA_CH_BASE_Q_BASE ch (unsigned 8 q)

/-- Whether a reading departs from the baselines (R209). -/
def State.pingDeparts (s : State) (ch : Nat) (df : Int) (q : Nat) : Bool :=
  let qb := s.regI Reg.LFA_CH_BASE_Q_BASE ch
  decide (s.reg Reg.LFA_PRES_CFG_DF_THRESH ≤ (df - signed 16 (s.regI Reg.LFA_CH_BASE_DF_BASE ch)).natAbs) ||
    decide (s.reg Reg.LFA_PRES_CFG_Q_THRESH * qb ≤ 100 * ((q : Int) - qb).natAbs)

/-- Presence after a ping (R209, R210). -/
def State.judgePing (s : State) (ch : Nat) (df : Int) (q : Nat) : State :=
  let p := s.presence ch
  let n := if s.pingDeparts ch df q then min 4 (p.count + 1) else 0
  let here := decide (s.reg Reg.LFA_PRES_CFG_PRES_COUNT < n)
  let begins := here && !p.present
  let s1 := s.setPresence ch { count := n, present := here, since := if begins then s.now else if here then p.since else 0 }
  if here then
    if begins then (let u := s1.raise (80 + ch)
      (if s.sleeping = 0 then u.entryTrigger ch s.now else u).wake 1 ch) else s1
  else
    let a := s1.toward 64 (signed 16 (s1.regI Reg.LFA_CH_BASE_DF_BASE ch)) df
    let b := a.2.toward 64 (s1.regI Reg.LFA_CH_BASE_Q_BASE ch) q
    b.2.setBase ch a.1 b.1

/-- PING_RESULT (R206, R209 to R212): a channel's ring-down gives DF and Q. -/
def execPingResult (ch : Fin 16) (df : BitVec 16) (q : BitVec 8) (s : State) : Host.Outcome State Fault Refusal :=
  .next (if s.lfa.ringing.contains ch.val then
    let c := ch.val
    let seed := s.lfa.seeding.contains c
    let s1 := (s.setI Reg.LFA_CH_RING_DF c df.toNat).setI Reg.LFA_CH_RING_Q c q.toNat
    let s2 := if 50 * s.regI Reg.LFA_CH_CFG_DETUNE_LIM c < df.toInt.natAbs then s1.latch Reg.LFA_CH_STAT_DETUNED c else s1
    let keep (l : List Nat) := l.filter (· != c)
    let s3 : State := { s2 with lfa := { s2.lfa with ringing := keep s2.lfa.ringing, seeding := keep s2.lfa.seeding } }
    if seed then s3.setBase c df.toInt q.toNat else s3.judgePing c df.toInt q.toNat
  else s)

/-- PRESENCE_HOLD_EXPIRY (R211). -/
def execPresenceHoldExpiry (ch : Fin 16) (s : State) : Host.Outcome State Fault Refusal :=
  let c := ch.val
  let p := s.presence c
  .next (if p.present && s.since p.since (1000000 * s.reg Reg.LFA_PRES_CFG_PRES_HOLD) then
    ((s.setPresence c {}).setBase c (signed 16 (s.regI Reg.LFA_CH_RING_DF c)) (s.regI Reg.LFA_CH_RING_Q c)).latch Reg.LFA_CH_STAT_STUCK c
  else s)

/-! ## Touch -/

/-- A touch channel. -/
def State.touchOf (s : State) (k : Nat) : Touch := storeGet {} s.lfa.touch k
def State.setTouch (s : State) (k : Nat) (t : Touch) : State := { s with lfa := { s.lfa with touch := storeSet {} s.lfa.touch k t } }

/-- The scan of one channel (R215 to R217). -/
def State.scanTouch (s : State) (kc : Nat × Nat) : State :=
  let k := kc.1
  let c := low 12 kc.2
  if 8 ≤ k ∨ !bit (s.reg Reg.TCH_CTRL_EN) k then s
  else
    let t := s.touchOf k
    let base := s.regI Reg.TCH_STAT_BASE k
    let thr := s.regI Reg.TCH_CFG_THRESH k
    let n := if base + thr ≤ c then min 4 (t.count + 1) else 0
    let stays := t.touched && decide (2 * base + thr ≤ 2 * c)
    let begins := !t.touched && decide (s.regI Reg.TCH_CFG_DEB k < n)
    let u := s.setTouch k { c := c, count := n, touched := stays || begins, since := if begins then s.now else if stays then t.since else 0 }
    if begins then (if s.sleeping = 0 then (u.raise (80 + s.regI Reg.TCH_CFG_AERIAL k)).entryTrigger (s.regI Reg.TCH_CFG_AERIAL k) s.now else u).wake 3 k
    else if stays then u
    else
      let b := u.toward 32 base c
      b.2.setI Reg.TCH_STAT_BASE k (unsigned 12 b.1)

/-- TOUCH_SCAN (R214): the capacitance of each electrode, in steps of 0.05 pF. -/
def execTouchScan (c : List (Nat × Nat)) (s : State) : Host.Outcome State Fault Refusal :=
  let period := 1000 * (if s.sleeping = 0 then s.reg Reg.TCH_SCAN_PER_RUN else s.reg Reg.TCH_SCAN_PER_SLEEP)
  .next (if decide (s.sleeping ≤ 3) && s.since s.lfa.scanAt period then
    c.foldl State.scanTouch { s with lfa := { s.lfa with scanAt := s.now } }
  else s)

/-- TOUCH_HOLD_EXPIRY (R217): 30 s ± 1 s of continuous touch. -/
def execTouchHoldExpiry (k : Fin 8) (s : State) : Host.Outcome State Fault Refusal :=
  let t := s.touchOf k.val
  .next (if t.touched && s.since t.since 29000000 then (s.setTouch k.val { c := t.c }).setI Reg.TCH_STAT_BASE k.val t.c else s)

/-! ## Queue commands (Table 04-5) -/

/-- The oldest running command of a ring and code that has not been made a sequence. -/
def State.lfCommand (s : State) (ring code issuer : Nat) : Option Running :=
  let mine (x : Running) (q : LfSeq) := q.issuer == issuer && q.cmd == x.entry.seq
  s.que.running.find? (fun x => x.ring == ring && x.entry.code == code && !s.lfa.waiting.any (mine x) && !s.lfa.seq.any (mine x))

/-- A queue sequence waits for its boundary, or completes with cause 8 while EN is clear (R192). -/
def State.lfIssue (s : State) (r : Running) (q : LfSeq) : State :=
  if !s.flag Reg.LFA_CTRL_EN then s.complete r blkLFA stBLOCKOFF 8 (leBytes 4 0)
  else { s with lfa := { s.lfa with waiting := s.lfa.waiting ++ [q] } }

/-- LF_RUN (R220): 1 to 3 descriptors of kind IDLE, CW or PING in a source range, run once in order. A kind that it does not allow ends it with cause 7; a source that names no 1 to 3
whole descriptors, or no memory of its issuer's, with REFUSED_POLICY (DESIGN CHOICE, assumption 96) and CAUSE 0, since the table names no cause (R716). -/
def execLfRun (s : State) : Host.Outcome State Fault Refusal :=
  .next (match s.lfCommand 2 1 2 with
    | none => s
    | some r =>
      let a := r.num 0 4
      let n := r.num 4 4
      let raw := (List.range (n / 16)).map (fun i => s.bytes (a + 16 * i) 16)
      let last := n / 16 - 1
      let link (p : Nat × List Byte) := p.2.set 2 (if p.1 = last then 0xFF else BitVec.ofNat 8 (241 + p.1))
      let allowed (l : List Byte) := [0, 2, 3].contains (descriptor l).kind
      if n % 16 ≠ 0 ∨ n = 0 ∨ 48 < n ∨ !s.rangeOk r.entry.master a n then s.complete r blkLFA stPOLICY 0 (leBytes 4 0)
      else if !raw.all allowed then s.complete r blkLFA stPOLICY 7 (leBytes 4 0)
      else s.lfIssue r { issuer := 2, cmd := r.entry.seq, descs := ((List.range raw.length).zip raw).map link })

/-- LF_STOP (Table 04-5). -/
def execLfStop (s : State) : Host.Outcome State Fault Refusal :=
  .next (s.withCmd 2 2 (fun r =>
    let seq := s.lfa.seq.map (fun q => if q.issuer == 2 then { q with stop := true } else q)
    State.complete { s with lfa := { s.lfa with seq := seq } } r blkLFA stOK 0 []))

/-- The bytes of an LF_CAL descriptor: CW with CAPTURE, one channel. -/
def calDescriptor (ch ampl frets next : Nat) : List Byte :=
  leBytes 1 (2 + 16) ++ leBytes 1 (frets - 1) ++ leBytes 1 next ++ [0] ++ leBytes 3 (ch + 16 + low 10 ampl * 32) ++ List.replicate 9 0

/-- LF_CAL (Table 04-5): channel mask, AMPL, CW Frets for each channel, REF_OUT. A mask of no channel, an AMPL over 1,023 or a number of Frets outside 1 to 64 ends it with REFUSED_POLICY
(DESIGN CHOICE, assumption 96) and CAUSE 0 (R716). -/
def execLfCal (s : State) : Host.Outcome State Fault Refusal :=
  .next (match s.lfCommand 13 0x20 3 with
    | none => s
    | some r =>
      let chs := (List.range 16).filter (fun ch => bit (r.num 0 2) ch)
      let n := r.num 4 1
      let index (i : Nat) := if chs.length = 16 then (if i = 0 then 255 else 239 + i) else 240 + i
      let one (p : Nat × Nat) := calDescriptor p.2 (r.num 2 2) n (if p.1 + 1 = chs.length then 0xFF else index (p.1 + 1))
      if n = 0 ∨ 64 < n ∨ 1023 < r.num 2 2 ∨ chs.isEmpty then s.complete r blkLFA stPOLICY 0 (leBytes 4 0)
      else s.lfIssue r { issuer := 3, cmd := r.entry.seq, descs := ((List.range chs.length).zip chs).map one, refOut := if bit (r.num 5 1) 0 then some 0 else none })

/-- LF_STATUS (Table 04-5). -/
def execLfStatus (s : State) : Host.Outcome State Fault Refusal :=
  .next (s.withCmd 13 0x21 (fun r =>
    s.completeTo r blkLFA ((List.range 16).flatMap (fun ch => s.regBytes Reg.LFA_CH_STAT_OVERCURRENT ch ++ s.regBytes Reg.LFA_CH_RING_DF ch))))

end Sys2Proof.Machine
end

