-- ==== Sys2Proof/Machine/BootOps.lean ====
section
/-! DEFINITION. The mount at the memory stage, what takes effect as the logic stage completes, and the boot steps of Table 17-6 as operations (R136, R817 to R832, R591, R567, R683,
R846, R871). -/
namespace Sys2Proof.Machine

/-! ## The ring table (R590, R591): 64 entries of 2 bytes at 0x0C80, BASE 1 and [5:0] PAGES with [7] EN (assumption 21) -/

/-- Base page and pages of an entry, and whether it names a ring. -/
def entryBase (e : Nat) : Nat := bits e 0 8
def entryPages (e : Nat) : Nat := bits e 8 6
def entryOn (e : Nat) : Bool := bit e 15 && decide (2 ≤ entryPages e ∧ entryPages e ≤ 32) && decide (34 ≤ entryBase e ∧ entryBase e + entryPages e ≤ 96)

/-- Entry r as recorded in the Locket, and as an image gives it. -/
def State.ringRecorded (s : State) (r : Nat) : Nat := s.lktWord (0xC80 + 2 * r) 2
def imgRing (b : List Byte) (r : Nat) : Nat := imgNum (imgBytes b 0x0B) (2 * r) 2

/-- The rings of the image's numbers. -/
def imageRings : List Nat := (List.range 56).map (· + 8)

/-- The device's rings (Table 12-7) and those that entries name. A ring that is known keeps its slots. -/
def State.setRings (s : State) (entry : Nat → Nat) : State :=
  let own : List (Nat × Nat × Nat) := [(0, 0, 16), (1, 16, 16), (2, 32, 2)]
  let named := imageRings.filterMap (fun r => if entryOn (entry r) then some (r, entryBase (entry r), entryPages (entry r)) else none)
  let l := (own ++ named).map (fun w => match s.ringOf w.1 with | some x => x | none => { num := w.1, base := w.2.1, pages := w.2.2 })
  { s with lkt := { s.lkt with rings := l } }

/-- The memory stage mounts the Locket (R585 to R588): the shadow, the rings, the region table and the tag key page. -/
def State.mountAll (s : State) : State :=
  let t := s.lktMount
  ((t.setRings t.ringRecorded).loadRegionTable).loadTagPage (t.lktBytes tagKeyPage 64)

/-- The boot records the image's ring table in entries still unused (R591); with WP_N low it serves this boot only (R821). -/
def State.bootRings (s : State) (b : List Byte) : State :=
  if (imgSection b 0x0B).isNone then s
  else
    let free (r : Nat) : Bool := s.ringRecorded r == 0 && !s.ringHurt r
    let new := imageRings.filter (fun r => free r && entryOn (imgRing b r))
    let diff := imageRings.any (fun r => !free r && s.ringRecorded r != imgRing b r)
    let s1 : State := { s with lkt := { s.lkt with ringDiff := diff } }
    if s1.pins.wpLow then s1.setRings (fun r => if free r then imgRing b r else s1.ringRecorded r)
    else
      let l := new.flatMap (fun r => runWrite (0xC80 + 2 * r) (leBytes 2 (imgRing b r)))
      let s2 := if l.isEmpty then s1 else (s1.lktNow (s1.byteItems l)).2
      s2.setRings s2.ringRecorded

/-- The boot writes the region table and the password hashes while their area is empty (R567, R821). -/
def State.bootRegions (s : State) (b : List Byte) : State :=
  if (imgSection b 0x0A).isNone || !s.regionTableEmpty then s
  else
    let l := slice (imgBytes b 0x0A) 0 0x140
    if s.pins.wpLow then
      let t := (s.setBytes (lktBase + 0xB40) l).loadRegionTable
      { t with mem := s.mem }
    else ((s.lktNow (s.runItems 0xB40 l)).2).loadRegionTable

/-- The boot writes the tag key page while it is all zeros (R683, R821, R871). -/
def State.bootTagKey (s : State) (b : List Byte) : State :=
  let l := slice (imgBytes b 0x0C) 0 64
  if (imgSection b 0x0C).isNone || s.damagedRange tagKeyPage 64 || !(s.lktBytes tagKeyPage 64).all (· == 0) then s
  else if s.pins.wpLow then s.loadTagPage l
  else ((s.lktNow (s.runItems tagKeyPage l)).2).loadTagPage l

/-- The anchors of the image go to an empty anchor record (R453, Table 17-6 step 4); with WP_N low they serve this boot only (R821). -/
def State.bootAnchors (s : State) (b : List Byte) : State :=
  if (imgSection b 7).isNone || !s.anchorEmpty then s
  else
    let l := imgBytes b 7
    if s.pins.wpLow then { s with key := { s.key with bootAnchors := some (slice l 0 128) } }
    else
      let w := s.lktNow (s.anchorItems (slice l 0 64) (slice l 64 64) 0)
      if w.1 then w.2.set Reg.SYS_BOOT_FIRST 1 else w.2

/-! ## Damage found at the mount (R871) -/

/-- A damaged lockout place, failure log or device lockout: the damaged groups are rewritten as holding no entry, and a device lockout begins. -/
def State.repairLocks (s : State) : State :=
  let hurt := s.lkt.damaged.filter (fun g => decide (0x40 ≤ g ∧ g < 0xD8) || g == 0xDE)
  if hurt.isEmpty then s else State.beginLockout (s.lktNow (hurt.map (fun g => LktItem.group g 0))).2 128 0xFFFF

/-! ## The logic stage (R136, R99, R846, R851, R154) -/

/-- The response bits of a sensor, as TMP_RESP_s has them. -/
def State.tmpResp (s : State) (k : Nat) : Nat := 2 * s.regI Reg.TMP_RESP_LOCK k + 4 * s.regI Reg.TMP_RESP_ZERO k + 8 * s.regI Reg.TMP_RESP_RST k

/-- The TAMPER record (R848). -/
def State.tamperRecord (s : State) (sensor resp st value time : Nat) : State :=
  s.journalNotice blkTMP 0x0060 (leBytes 1 sensor ++ leBytes 1 resp ++ leBytes 1 st ++ leBytes 2 value ++ leBytes 6 time)

/-- The tamper lock comes into force (R844, R845): the Locket's page gets the sensors that locked and the TIME of the first detection. Page: byte 0 the sensors, bytes 1 to 6 TIME,
byte 7 bit 0 the lock in force (assumption 23). -/
def State.tamperLock (s : State) (sensors time : Nat) : State :=
  let old := s.lktWord 0xF00 1
  let first := if bit (s.lktWord 0xF07 1) 0 then s.lktWord 0xF01 6 else time
  let t : State := { s with tmp := { s.tmp with locked := true } }
  t.lktSubmit .tamperPage (t.runItems 0xF00 (leBytes 1 (old ||| sensors) ++ leBytes 6 first ++ [1] ++ List.replicate 56 0))

/-- A FAULT record (R863). -/
def State.faultRecord (s : State) (kind block master status addr aborted discarded epoch : Nat) : State :=
  s.journalNotice blkTMP 0x0061 (leBytes 1 kind ++ leBytes 1 block ++ leBytes 1 master ++ leBytes 1 status ++ leBytes 4 addr ++ leBytes 2 aborted ++ leBytes 2 discarded ++ leBytes 4 epoch)

/-- Whether the secure retention set and the LISTEN domain's configuration come through from a sleep state (R131, Table 03-7). -/
def State.secureKept (s : State) : Bool := decide (1 ≤ s.pwr.wakeFrom ∧ s.pwr.wakeFrom ≤ 3)

/-- Detections that AON held take effect (R846, R847): the lock, the zeroize marks, the records; a sensor with RST raises its class T reset as in run. -/
def State.heldTamper (s : State) : State :=
  let l := s.tmp.held
  let lockers := l.filter (fun h => s.regI Reg.TMP_RESP_LOCK h.sensor == 1)
  let hold := l.any (fun h => h.state == 5 && s.regI Reg.TMP_RESP_ZERO h.sensor == 1)
  let s1 : State := { s with tmp := { s.tmp with held := [] } }
  let s2 : State := if hold then { s1 with key := { s1.key with aonMarks := List.range 248 ++ [255] } } else s1
  let s3 := match lockers with
    | [] => s2
    | h :: _ => s2.tamperLock (maskOf (lockers.map Held.sensor)) h.time
  let s4 := l.foldl (fun t h => t.tamperRecord h.sensor (s.tmpResp h.sensor) h.state h.value h.time) s3
  let s5 : State := if s4.key.aonMarks.isEmpty then s4
    else
      let u := s4.markSelector.submitMarks s4.key.aonMarks
      if s.secureKept then u.startVault [] none else u
  if l.any (fun h => s.regI Reg.TMP_RESP_RST h.sensor == 1) then { s5 with tmp := { s5.tmp with reset := some s5.now } } else s5

/-- A SUPPLY_DIP record: VMIN, DURATION, SESSIONS, FLAGS (R153). -/
def State.dipRecord (s : State) (d : Nat × Nat × Nat × Nat) : State :=
  s.journalNotice blkPWR 0x0010 (leBytes 2 d.1 ++ leBytes 4 d.2.1 ++ leBytes 1 d.2.2.1 ++ leBytes 1 d.2.2.2)

/-- What the AON domain hands over as the logic stage completes: the timebase starts, outputs are driven, level P1, times in timebase form start again (R312, R428), and what waited in
AON is recorded; after a reset and a wake from S4 KEY loads its fuse slots (R486). -/
def State.logicDone (s : State) : State :=
  let wake := decide (0 < s.pwr.wakeFrom)
  let fresh := bit s.pwr.causes 0 && s.tim.rtc.isNone
  let p := { s.pwr with granted := 1, clkLevel := 1, vcoreLevel := 1, busy := false, nextLevel := none, lfCap := 4, levelCap := 0, droop := false, stepDownAt := none, coolSince := none, causes := 0 }
  let pins := { s.pins with relA := some false, relBn := some true }
  let s1 : State := State.set { s with pwr := p, pins := pins, tim := { s.tim with mainUp := s.now } } Reg.PWR_RST_CAUSE_CAUSE s.pwr.causes
  let s2 := ((s1.restartLockouts fresh).restartHistory fresh).repairLocks.repairHistory
  let s3 : State := { s2 with tmp := { s2.tmp with locked := s2.tmp.locked || bit (s2.lktWord 0xF07 1) 0 } }
  let s4 := s3.heldTamper
  let dips := s4.pwr.dipOwed
  let s5 := dips.foldl (fun t d => t.dipRecord d) { s4 with pwr := { s4.pwr with dipOwed := [] } }
  let owed := s5.tmp.owed
  let s6 := owed.foldl (fun t o => t.faultRecord o.1 o.2 0 0 0 0 (t.reg Reg.TMP_FENCE_DISCARDED) (t.epoch o.2)) { s5 with tmp := { s5.tmp with owed := [] } }
  let skips := s6.lfa.sleepSkips
  let s7 := skips.foldl (fun (t : State) (x : Nat × Nat) => t.fieldLimit x.1 x.2 1) { s6 with lfa := { s6.lfa with sleepSkips := [], recorded := if wake then skips.map (·.1) ++ s6.lfa.recorded else [] } }
  (if s.secureKept then s7 else s7.loadFuses).tagWake

/-! ## The boot (Table 17-6) -/

/-- The BOOT_STAT pins and what they say (R824). -/
def State.bootCode (s : State) (c : Nat) : State := { s with pins := { s.pins with bootStat := some c } }

/-- Set the lock bit of every block (step 8). -/
def State.lockAll (s : State) : State := lockFields.foldl (fun t f => (List.range f.count).foldl (fun u i => u.setI f i 1) t) s

/-- Load what the sections of an image carry beside registers: firmware, map, LF schedule, operator keys, save list. MAP_VALID that clears raises
E_131 (R411). -/
def State.bootLoad (s : State) (b : List Byte) : State :=
  let app := imgBytes b 2
  let lf := imgBytes b 6
  let s1 := ((((s.setBytes 0x10000000 (imgBytes b 1)).setBytes sharedLo app).setBytes fretRam (lf.take 3840))).setBytes templateRam (slice lf 3840 1024)
  let ops := imgBytes b 8
  let keys := (List.range (ops.length / 64)).map (fun i => slice ops (64 * i) 64)
  let l := { s1.loc with map := imgBytes b 5 }
  let s2 : State := { s1 with loc := l, appFwBytes := (app.length + 4095) / 4096 * 4096, key := { s1.key with opKeys := keys }, pwr := { s1.pwr with saveList := imgSaveList b } }
  let s3 : State := { s2 with loc := { s2.loc with mapValid := s2.mapChecks } }
  if s.loc.mapValid && !s3.loc.mapValid then s3.raise 131 else s3

/-- The overlay's records are applied in order (R829); a DAMAGED overlay gives none. A record that has been filtered when it was made (R461) is not filtered again, whatever the image has
made of the register's other bits (DESIGN CHOICE, assumption 107). -/
def State.bootOverlay (s : State) : State := if s.areaDamaged 1 then s else s.overlayRecords.foldl State.putRecord s

/-- The watchdogs run on after a wake from where they paused (R849); after a reset they start afresh. -/
def State.wdgResume (s : State) : Tmp :=
  let go (w : Wdg) : Wdg := if s.pwr.wakeFrom = 0 then { loadedAt := s.now } else { w with loadedAt := s.now - w.loadedAt }
  { s.tmp with wdg0 := go s.tmp.wdg0, wdg1 := go s.tmp.wdg1 }

/-- Steps 4 to 8 with the image of a bank: it is applied, the vault and the credential bank are loaded, every block is locked, and both cores enter firmware. After a wake from S1
to S3 the key slots and the credential table stand (R489). -/
def State.bootApply (s : State) (bank : Nat) : State :=
  let b := s.imageBank bank
  let n : Nor := { s.nor with running := some bank }
  let s1 := (State.set { s with nor := n } Reg.SYS_BOOT_SOURCE bank).set Reg.SYS_IMG_GEN_GEN (imgGen b)
  let s2 := if s1.pins.wpLow then s1.set Reg.SYS_BOOT_WP 1 else s1
  let s3 := (imgRecords b 4).foldl (State.imageRecord false) ((imgRecords b 3).foldl (State.imageRecord false) s2)
  let s4 := if s3.paired then s3 else (s3.releaseLate 5).bootAnchors b
  let s5 := (((s4.bootLoad b).bootRings b).bootRegions b).bootTagKey b
  let s6 := s5.bootOverlay
  let s7 := (List.range 16).foldl State.reloadCeiling s6
  let top := s7.ringValue 0
  let s8 : State := { s7 with key := { s7.key with invocNext := top, invocTop := top } }
  let s9 := (if s.secureKept then s7 else (s8.loadVault).crdBoot).lockAll
  let seeds := if s9.flag Reg.LFA_CTRL_EN && !s.secureKept then (List.range 16).filter (fun ch => s9.regI Reg.LFA_CH_CFG_EN ch == 1) else []
  let t := { s9.tsu with decideFrom := s9.now, link := if s9.flag Reg.TSU_CTRL_EN then .training else .down, role := if s9.paired then s9.tsu.role else .active }
  State.bootCode { s9 with lfa := { s9.lfa with seeds := seeds }, tsu := t, tmp := s9.wdgResume, pwr := { s9.pwr with phase := .boot } } 3

/-- NO_IMAGE (R818): the MAIN-domain outputs are held as R60 requires. -/
def State.noImage (s : State) : State :=
  State.bootCode { s with pwr := { s.pwr with phase := .noImage }, pins := { s.pins with relA := none, relBn := none } } 6

/-- Steps 2 and 3: the candidate, and the other bank when the candidate fails checks 4 to 7; without a valid image the device enters NO_IMAGE (R818). -/
def State.bootImage (s : State) : State :=
  let a := s.nor.imageA
  let b := s.nor.imageB
  let okA := s.headerCause a == 0
  let okB := s.headerCause b == 0
  let first := if okA && okB then (if imgGen a < imgGen b then 1 else 0) else if okB then 1 else 0
  let second := 1 - first
  if !okA && !okB then s.noImage
  else
    let x := s.imageJudge (s.imageBank first)
    if x.1 = 0 then x.2.bootApply first
    else if okA && okB then
      let y := x.2.imageJudge (s.imageBank second)
      if y.1 = 0 then (y.2.set Reg.SYS_BOOT_FALLBACK 1).bootApply second else (y.2.set Reg.SYS_BOOT_FALLBACK 1).noImage
    else x.2.noImage

/-- Hardware restores the registers of the legacy save list in list order (R133). -/
def State.restoreSaved (s : State) : State :=
  let put (t : State) (x : Nat × Nat) : State := (fieldsAt Reg.all x.1).foldl (fun u p => if p.1.live then u else u.setI p.1 p.2 (bits x.2 p.1.lo p.1.width)) t
  let t := (s.pwr.saveList.zip s.pwr.saved).foldl put s
  { t with pwr := { t.pwr with saved := [] } }

/-- The boot resumes firmware from the resume record (R135, R825): nothing is read from the NOR, and the secure retention set stands. -/
def State.bootResume (s : State) : State :=
  let t := (s.set Reg.SYS_BOOT_SOURCE 2).set Reg.SYS_IMG_GEN_GEN (imgGen s.runningImage)
  let u := if t.pins.wpLow then t.set Reg.SYS_BOOT_WP 1 else t
  State.bootCode { u with tmp := u.wdgResume, pwr := { u.pwr with phase := .boot } } 3

/-- A trigger that woke the device is latched once VRD is up, its deadline counted from the wake (R383, R384). -/
def State.wakeTrigger (s : State) : State :=
  let src := s.reg Reg.PWR_WAKE_SRC_SOURCE
  let i := s.reg Reg.PWR_WAKE_SRC_INDEX
  if s.pwr.wakeFrom = 0 then s
  else if src = 1 then s.entryTrigger i s.pwr.wakeAt
  else if src = 3 then (s.raise (80 + s.regI Reg.TCH_CFG_AERIAL i)).entryTrigger (s.regI Reg.TCH_CFG_AERIAL i) s.pwr.wakeAt
  else s

/-- The power-up stages are complete (R817, R825, R830, R135): recovery, a resume, or the boot from the NOR. `recordOk`: the resume record in retention bank 0 reads. -/
def State.powerUp (s : State) (recordOk : Bool) : State :=
  let resume := s.secureKept && bit (s.reg Reg.PWR_RET_CFG_BANKS) 0 && recordOk
  let s1 := s.logicDone
  let s2 := if s.secureKept && s.flag Reg.PWR_RET_CFG_MODE then s1.restoreSaved else s1
  let s3 := if resume then s2.bootResume
    else if s.pins.recovLow && s.pwr.wakeFrom == 0 then State.bootCode { s2 with pwr := { s2.pwr with phase := .recovery } } 5
    else s2.bootImage
  let s4 : State := if s3.tsu.pairSlept then { s3 with can := { s3.can with wakeSent := s3.can.wakeSent + 1 }, tsu := { s3.tsu with pairSlept := false } } else s3
  let listen := s.pwr.wakeFrom == 3 && (s.reg Reg.PWR_WAKE_SRC_SOURCE == 2 || s.reg Reg.PWR_WAKE_SRC_SOURCE == 3)
  let s5 := State.wakeTrigger (if listen then { s4 with pwr := { s4.pwr with listenSince := some s4.now } } else s4)
  match s5.glt.heldFrame with
  | none => s5
  | some x => State.telegramPump { s5 with glt := { s5.glt with heldFrame := none, queue := s5.glt.queue ++ [x] } }

end Sys2Proof.Machine
end

