-- ==== Sys2Proof/Machine/ResetOps.lean ====
section
/-! DEFINITION. Resets of the device, and what a sleep state loses (R156 to R162, Table 03-7). -/
namespace Sys2Proof.Machine

/-! ## What survives (Table 03-7) -/

/-- Address ranges: SRAM, retention SRAM, credential RAM, Locket shadow, block windows. -/
def sramLo : Nat := 0x10000000
def retLo : Nat := 0x10400000
def retHi : Nat := 0x10440000

/-- Whether address a lies in a retention bank that PWR_RET_CFG.BANKS selects. -/
def State.retained (s : State) (a : Nat) : Bool := decide (retLo ≤ a) && decide (a < retHi) && bit (s.reg Reg.PWR_RET_CFG_BANKS) ((a - retLo) / 0x10000)

/-- Keep the bytes of memory that satisfy a test; the rest reads 0. -/
def State.keepMem (s : State) (p : Nat → Bool) : State := { s with mem := s.mem.filter (fun c => p c.1) }

/-- Memory across a reset: the retention banks selected (not A; T zeroes them), the Locket's shadow (not A). -/
def State.resetMem (s : State) (c : ResetClass) : State :=
  s.keepMem (fun a => (c != .A && c != .T && s.retained a) || (c != .A && decide (lktBase ≤ a) && decide (a < lktBase + 0x8000)))

/-- The queues keep their internal sequence counters (not A). -/
def Que.afterReset (q : Que) (c : ResetClass) : Que := { intSeq := if c = .A then [] else q.intSeq }

/-- The journal keeps what its NAND holds, and its next SEQ (not A). -/
def Jnl.afterReset (j : Jnl) (c : ResetClass) : Jnl :=
  { nand := j.nand, slotNext := j.slotNext, next := if c = .A then 0 else j.next, journalId := j.journalId, q46Seq := if c = .A then 0 else j.q46Seq, badBlocks := j.badBlocks, nandGbit := j.nandGbit }

/-- The Locket keeps flash, rings and every accepted write; its writers, grants and passwords go, and with them the INDEX records of their flushes: a half-written one is dropped, and
what the oldest entry has programmed with it. Class A loses the shadow, and what is left of the backlog. -/
def Lkt.afterReset (l : Lkt) (c : ResetClass) : Lkt :=
  let cut : Bool := c = .A || (match l.backlog.head? with | some (.index _) => true | _ => false)
  { shadowValid := l.shadowValid && c != .A, damaged := l.damaged, backlog := if c = .A then [] else l.backlog.filter (fun e => match e with | .index _ => false | _ => true),
    done := if cut then 0 else l.done, current := if cut then [] else l.current, mainA := l.mainA, mainB := l.mainB, fieldA := l.fieldA, fieldB := l.fieldB,
    nextSeq := l.nextSeq, lastSeq := l.lastSeq, repairs := l.repairs, worn := l.worn, rings := l.rings }

/-- KEY keeps its fuses, the KEK generation and the marks that AON holds (not A). -/
def Key.afterReset (k : Key) (c : ResetClass) : Key :=
  { fuses := k.fuses, certificate := k.certificate, kekGen := k.kekGen, aonMarks := if c = .A then [] else k.aonMarks }

/-- A reset before the Locket accepts a selector leaves the earlier one in force, and the earlier key of the vault with its ceiling (R472, R490). -/
def State.unselect (s : State) : State :=
  let t := s.undoWrites (fun _ => true)
  match t.key.vaultJob with
  | some j => (j.undo.filter (fun u => decide (u.1 < 248))).foldr (fun u v => v.lktPlace (v.ceilingItems u.1 u.2.ceiling)) t
  | none => t

/-- The NOR's bytes after a job was cut: the area's old bytes, or as many of the new ones as a free number says. -/
def cutArea (old data : List Byte) (free : Nat) : List Byte := if free % 2 = 0 then old else data.take (free / 2 % (data.length + 1))

/-- Store an area's bytes. -/
def Nor.put (n : Nor) (a : NorArea) (d : List Byte) : Nor :=
  match a with
  | .image b => if b = 0 then { n with imageA := d } else { n with imageB := d }
  | .cred b => if b = 0 then { n with credA := d } else { n with credB := d }
  | .setCopy => { n with setCopy := d }
  | .vault b => if b = 0 then { n with vaultA := d } else { n with vaultB := d }

/-- An area's bytes. -/
def Nor.get (n : Nor) (a : NorArea) : List Byte :=
  match a with
  | .image b => if b = 0 then n.imageA else n.imageB
  | .cred b => if b = 0 then n.credA else n.credB
  | .setCopy => n.setCopy
  | .vault b => if b = 0 then n.vaultA else n.vaultB

/-- A job that ends before its time leaves its area with bytes that no rule gives; the issued-set copy then holds none that counts (R811). -/
def State.norCut (s : State) (j : NorJob) : State :=
  let d := s.draw 4
  { d.2 with nor := d.2.nor.put j.area (if j.area = .setCopy then [] else cutArea (d.2.nor.get j.area) j.data (ofLe d.1)) }

/-- The NOR across a reset: the running job is cut, the waiting ones are gone. -/
def State.norReset (s : State) : State :=
  let t : State := match s.nor.jobs with | [] => s | j :: _ => s.norCut j
  { t with nor := { t.nor with jobs := [], running := none, drain := none } }

/-- The pair link: the pin PAIR_ID as sampled; PAIR_ARB is released. -/
def Tsu.afterReset (t : Tsu) (now : Nat) : Tsu :=
  { secondary := t.secondary, arbHigh := t.arbHigh || t.drivesArb, arbHighSince := if t.drivesArb then now else t.arbHighSince }

/-- TMP: detections held, the lock and owed records live in AON (not A). -/
def Tmp.afterReset (t : Tmp) (c : ResetClass) : Tmp := if c = .A then {} else { held := t.held, locked := t.locked, owed := t.owed }

/-- Whether VCORE is in regulation (R138). -/
def State.vcoreUp (s : State) : Bool :=
  match s.pwr.phase with
  | .off => false
  | .held n => n == 2
  | .stage n => decide (1 ≤ n)
  | .bootFault c => decide (2 ≤ c)
  | .sleep _ => false
  | _ => true

/-- The phase that a reset class leads to (Table 03-6, R138, R867); a device without supply stays so, though AON records the class (R78, R156). -/
def State.phaseAfter (s : State) (c : ResetClass) : Phase :=
  let n := if s.vcoreUp then 2 else 0
  if c = .A ∨ c = .B ∨ s.pwr.phase = .off then .off else if c = .P ∨ c = .X then .held n else .stage n

/-- The bit of a class in PWR_RST_CAUSE: A, B, P, W, T, S, X (Table 03-8). -/
def causeBit (c : ResetClass) : Nat :=
  match c with | .A => 0 | .B => 1 | .P => 2 | .W => 3 | .T => 4 | .S => 5 | .X => 6 | .L => 7

/-- Power across a reset: the caps return to their defaults; a dip that ends in class B is told at the next boot (R154); a dip stands through the other classes until VSUP has risen
(R152). -/
def State.pwrAfter (s : State) (c : ResetClass) : Pwr :=
  let p := s.pwr
  let stands : Bool := p.dip && c != .A && c != .B
  { dip := stands, dipAt := if stands then p.dipAt else 0, dipMin := if stands then p.dipMin else 0, dipSessions := if stands then p.dipSessions else 0
    dipRise := if stands then p.dipRise else none, aonUp := p.aonUp && c != .A
    phase := s.phaseAfter c, stageAt := s.now, causes := if c = .A then 1 else p.causes ||| 2 ^ causeBit c, tj := p.tj, dayAt := if c = .A then s.now else p.dayAt, vioLow := p.vioLow
    vioBackAt := p.vioBackAt, vdrvLow := p.vdrvLow, holdupOut := p.holdupOut
    dipOwed := if c = .A then [] else if c = .B ∧ p.dip then p.dipOwed ++ [(p.dipMin, min 0xFFFFFFFF (s.now - p.dipAt), min 255 p.dipSessions, 1)] else p.dipOwed }

/-- The field limiter's duty counts, ceilings and the records that it owes stand through every class but A (R198); a bank stays held off until VDRV is back (R168). The rest of LF goes. -/
def Lfa.afterReset (l : Lfa) (c : ResetClass) : Lfa := if c = .A then { bankOff := l.bankOff } else { ceil := l.ceil, duty := l.duty, sleepSkips := l.sleepSkips, bankOff := l.bankOff }

/-- The tag runs in its own domain; only its waits for the MAIN domain end. -/
def Hft.afterReset (h : Hft) : Hft := { h with stalls := [], waits := if h.waits == .write then .write else .none, parts := [] }

/-- MAIN-domain outputs are at high impedance (R60). -/
def Pins.floating (p : Pins) : Pins := { p with relA := none, relBn := none }

/-- A reset of class A, B, P, W, T, S or X (R156 to R162, Table 03-7). While a reset pin holds the device no stage runs; R140 speaks of running stages alone, and the model has
BOOT_STAT_0 to BOOT_STAT_2 at high impedance then (DESIGN CHOICE, assumption 93). -/
def State.deviceReset (s : State) (c : ResetClass) : State :=
  let p := s.pwrAfter c
  let t := ((s.cutFret.unselect.resetMem c).resetFields c).norReset
  let tim : Tim := if c = .A then { mainUp := s.tim.mainUp } else s.tim
  let stat : Option Nat := match p.phase with | .stage _ => some 0 | _ => none
  { t with
    tim := tim, pins := { t.pins.floating with bootStat := stat }, evt := {}, que := t.que.afterReset c, mbx := {}, hif := {}, jnl := t.jnl.afterReset c
    lkt := t.lkt.afterReset c, priv := {}, auth := none, key := t.key.afterReset c, crd := {}, crypto := {}, tsu := t.tsu.afterReset t.now, pwr := p
    lfa := t.lfa.afterReset c, glt := {}, uwb := {}, loc := {}, vrd := {}, gov := { restarted := s.gov.restarted }, can := {}, tmp := t.tmp.afterReset c, hft := t.hft.afterReset, fences := {}, appFwBytes := 0 }

/-- A reset on account of a fault (R851, R862): TMP_FAULT_LAST names it, and its FAULT record is owed to the next boot. -/
def State.faultReset (s : State) (kind block : Nat) : State :=
  let t := ((s.set Reg.TMP_FAULT_LAST_KIND kind).set Reg.TMP_FAULT_LAST_BLOCK block)
  State.deviceReset { t with tmp := { t.tmp with owed := t.tmp.owed ++ [(kind, block)] } } .W

/-! ## Sleep (R112, R131 to R133, Table 03-7) -/

/-- Blocks of the MAIN and UWB domains whose registers a sleep state loses, the secure retention set apart (R131). -/
def mainBlocks : List Nat := [0, 2, 3, 4, 5, 9, 15, 16, 17, 18, 20, 22, 23, 24, 25, 26, 29]

/-- Blocks of the AON domain whose registers stand in S4: PWR, TMP, AON. LKT's belong to the protection set-up, which is lost (R131). -/
def aonBlocks : List Nat := [1, 27, 30]

/-- Whether a block's fields stand in S4: those of AON, and the tag's while its domain has VIO or a field (R116, chapter 14). -/
def State.standsOff (s : State) (b : Nat) : Bool := aonBlocks.contains b || (b == blkHFT && (s.pins.vio || s.hft.field))

/-- Whether a field stands through S1 to S3: the AON and LISTEN domains, fields that class A alone resets, the secure retention set. -/
def fieldKept (f : Field) : Bool :=
  f.classes == 1 || secureField f || (!mainBlocks.contains f.block && !secureBlocks.contains f.block)

/-- Keys of the store that stand through S1 to S3. -/
def State.sleepRegs (s : State) : State :=
  let keep (k : Nat) : Bool := match Reg.all.find? (fun f => f.id == k / 256 / 8 / 65536) with | some f => fieldKept f | none => false
  { s with regs := s.regs.filter (fun e => keep e.1) }

/-- The registers of the legacy save list as the last act of the commit (R133): 96 at most, each as stored. -/
def State.saveRegs (s : State) : State :=
  if s.flag Reg.PWR_RET_CFG_MODE then
    let l := (s.pwr.saveList.take 96).map (fun a => (fieldsAt Reg.all a).foldl (fun v p => v + s.regI p.1 p.2 * 2 ^ p.1.lo) 0)
    { s with pwr := { s.pwr with saved := l } }
  else s

/-- What S1 to S3 lose: everything of the MAIN and UWB domains outside the secure retention set (R131, R132). -/
def State.enterListen (s : State) : State :=
  let t := (s.cutFret.undoWrites (· == .selector)).saveRegs
  let cred (a : Nat) : Bool := decide (0x20000000 ≤ a) && decide (a < 0x20080000)
  let ram (a : Nat) : Bool := decide (fretRam ≤ a) && decide (a < 0x40080000)
  let u := (t.keepMem (fun a => t.retained a || cred a || ram a || (decide (lktBase ≤ a) && decide (a < lktBase + 0x8000)))).sleepRegs
  let g := { u.glt with sess := none, last := none, held := none, queue := [], pending := [], late := [], heldOpens := [], sniff := none, sent := [] }
  let l := { u.lfa with seq := none, waiting := [], fret := none, peerBursts := [], ended := [], done := [] }
  let tsu : Tsu := { secondary := u.tsu.secondary, role := u.tsu.role, drivesArb := u.tsu.drivesArb, arbHigh := u.tsu.arbHigh, arbHighSince := u.tsu.arbHighSince, pairSlept := u.paired || s.paired, resetDriveUntil := u.tsu.resetDriveUntil }
  { u with
    pins := { u.pins.floating with irqPol := s.reg Reg.EVT_IRQ_CFG_POL }, evt := {}, que := u.que.afterReset .S, mbx := {}, hif := {}, jnl := u.jnl.afterReset .S, lkt := { u.lkt.afterReset .S with writes := u.lkt.writes.filter (fun x => x.writer == .vaultSelector || x.writer == .zeroMark) }, priv := {}
    auth := none, crd := { u.crd with learn := none }, crypto := {}, tsu := tsu, lfa := l, glt := g, uwb := {}, vrd := {}, loc := { u.loc with due := [] }
    gov := { restarted := s.gov.restarted }, can := { wakeSent := u.can.wakeSent }, hft := u.hft.afterReset, fences := {}, nor := { u.nor with drain := none } }

/-- What S4 loses: besides, the LISTEN domain and the secure retention set, and the pair role (R131, Table 03-7). -/
def State.enterOff (s : State) : State :=
  let p := { s.pwr with saveList := [], saved := [] }
  let s := s.unselect
  let t := State.norReset { s.cutFret.resetMem .T with regs := s.regs.filter (fun e => !keyHasClass .S e.1 || s.standsOff (keyBlock e.1)) }
  let lktKeep := s.mem.filter (fun c => decide (lktBase ≤ c.1) && decide (c.1 < lktBase + 0x8000))
  { t with
    mem := lktKeep, pins := { t.pins.floating with bootStat := none }, evt := {}, que := t.que.afterReset .S, mbx := {}, hif := {}, jnl := t.jnl.afterReset .S
    lkt := t.lkt.afterReset .S, priv := {}, auth := none, key := t.key.afterReset .S, crd := {}, crypto := {}, tsu := t.tsu.afterReset t.now, pwr := p
    lfa := t.lfa.afterReset .S, glt := {}, uwb := {}, loc := {}, vrd := {}, gov := { restarted := s.gov.restarted }, can := {}, tmp := t.tmp.afterReset .S, hft := t.hft.afterReset, fences := {}, appFwBytes := 0 }

/-- S3 runs no LF activity (R112, R207): what pings and seeding pings still wait for is gone, and a Fret that runs is cut (R193). -/
def State.quietLf (s : State) : State :=
  let t := s.cutFret
  { t with lfa := { t.lfa with pings := [], seeds := [], ringing := [], seeding := [], fret := none } }

/-- The sleep state n is entered (R125): its losses, SLEEP_STAT.ENTERED; the watchdogs pause (R849). OUTCOME, REFUSER and CAUSE then read 1, 0 and 0, which the spec leaves open (DESIGN
CHOICE, assumption 93). -/
def State.enterSleep (s : State) (n : Nat) : State :=
  let t := if n = 4 then s.enterOff else if n = 3 then s.enterListen.quietLf else s.enterListen
  let r := (((((t.set Reg.PWR_SLEEP_STAT_ENTERED n).set Reg.PWR_SLEEP_STAT_OUTCOME 1).set Reg.PWR_SLEEP_STAT_REFUSER 0).set Reg.PWR_SLEEP_STAT_CAUSE 0).set Reg.PWR_SLEEP_CTL_COMMIT 0).set Reg.PWR_SLEEP_CTL_QUERY 0
  let pause (w : Wdg) : Wdg := { w with loadedAt := s.now - w.loadedAt }
  { r with tmp := { r.tmp with wdg0 := pause s.tmp.wdg0, wdg1 := pause s.tmp.wdg1 }, pwr := { r.pwr with phase := .sleep n, wakeFrom := n, querying := false, disturbed := none, listenSince := none, s3Held := r.pwr.s3Held || n == 3, powerLog := [], granted := 1, clkLevel := 1, vcoreLevel := 1, busy := false, nextLevel := none, lfCap := 4, levelCap := 0, droop := false } }

end Sys2Proof.Machine
end

