-- ==== Sys2Proof/Machine/LiveLate.lean ====
section
/-! DEFINITION. Live fields whose value needs the image checks, and the whole read of a register (R16, R838, R839). -/
namespace Sys2Proof.Machine

/-- Whether a bank's image passes cause 1. -/
def State.bankGen (s : State) (b : Nat) : Nat := if imgFormat (s.imageBank b) then imgGen (s.imageBank b) else 0

/-- The banks of the configuration NOR, the running image and FLOOR, the watchdogs (Tables 17-10, 17-11, 18-9). -/
def liveBanks : List LiveEntry :=
  [(Reg.CFG_BANK_GEN_A_GEN.id, fun s _ _ => s.bankGen 0),
   (Reg.CFG_BANK_GEN_B_GEN.id, fun s _ _ => s.bankGen 1),
   (Reg.CFG_BANK_STAT_CAUSE_A.id, fun s _ _ => s.imageCause s.nor.imageA),
   (Reg.CFG_BANK_STAT_CAUSE_B.id, fun s _ _ => s.imageCause s.nor.imageB),
   (Reg.CFG_BANK_STAT_RUNNING.id, fun s _ _ => ofBool (s.nor.running == some 1)),
   (Reg.SYS_IMG_GEN_GEN.id, fun s _ _ => match s.nor.running with | some b => imgGen (s.imageBank b) | none => 0),
   (Reg.SYS_FLOOR_FLOOR.id, fun s _ _ => s.overlayFloor),
   (Reg.TMP_WDG_STAT_REMAIN_0.id, fun s _ _ => s.wdgRemain 0),
   (Reg.TMP_WDG_STAT_REMAIN_1.id, fun s _ _ => s.wdgRemain 1)]

/-- What a read of a field gives master m, the bank fields included. -/
def State.readAny (s : State) (f : Field) (i m : Nat) : Nat :=
  match liveBanks.find? (fun e => e.1 == f.id) with
  | some e => low f.width (e.2 s i m)
  | none => s.readField f i m

/-- The registers that the chapters call internal: timers and trims that the boot ROM sets. What they read is not given, and a write to them does nothing (assumption 94). -/
def internalRegs : List Nat :=
  [0x40010040, 0x40010044, 0x40020020, 0x40020024, 0x40030400, 0x40060040, 0x401C0080, 0x40080080, 0x40090080, 0x40090084, 0x400A0040, 0x400C0080, 0x40170100, 0x40180100] ++
  [0x400D0040, 0x400E0080, 0x400F0080, 0x40120080, 0x40130400, 0x40140080, 0x40150080, 0x40150084, 0x40160080, 0x40190200, 0x401A0080, 0x401B0080, 0x401B0084]

/-- What an internal register reads; nothing at every other address. -/
def State.internalRead (s : State) (a : Nat) : Nat := if internalRegs.contains a then low 32 (Config.internalReg a s.now) else 0

/-- The 32-bit register at an address as master m reads it. -/
def State.readRegister (s : State) (a m : Nat) : Nat := (fieldsAt Reg.all a).foldl (fun v p => v + s.readAny p.1 p.2 m * 2 ^ p.1.lo) (s.internalRead a)

end Sys2Proof.Machine
end

