-- ==== Sys2Proof/Machine/Uwb.lean ====
section
/-! DEFINITION. Meanings of the ranging commands (chapter 07). -/
namespace Sys2Proof.Machine

/-- RANGE_REQ (R326, R327): a core's write of UWB_RANGE_CTL with REQ set; at 8 waiting blocks it completes with REFUSED_FULL. -/
def execRangeReq (master : Nat) (handle : BitVec 16) (s : State) : Host.Outcome State Fault Refusal :=
  .next (if master = 1 ∨ master = 2 then
    let t := s.set Reg.UWB_RANGE_CTL_HANDLE handle.toNat
    match t.uwb.keys.reverse.find? (fun k => k.handle == handle.toNat) with
    | none => t
    | some k =>
      let mine := t.uwb.waiting.filter (fun w => w.session == k.session && w.handle == k.handle)
      if !t.flag Reg.UWB_CTRL_EN || decide (t.reg Reg.UWB_SCHED_MAX_BLOCKS ≤ k.blocks + mine.length) then t
      else
        let q := t.uwbAsk { session := k.session, handle := k.handle }
        { q.2 with uwb := { q.2.uwb with reqStatus := if q.1 then none else some stFULL } }
  else if s.mayWriteField master Reg.UWB_RANGE_CTL_REQ then s else s.writeRefused master Reg.UWB_RANGE_CTL_REQ)

/-- FCS of IEEE 802.15.4 over bytes: CRC-16, polynomial 0x1021, reflected, initial value 0. PRESUMED (assumption 18). -/
def fcs (l : List Byte) : Nat :=
  let step (c : Nat) (b : Bool) : Nat := if xor (c % 2 == 1) b then (c / 2) ^^^ 0x8408 else c / 2
  foldNat (fun c b => (byteBits b).reverse.foldl step c) 0 l

/-- The PSDU of RANGE_START (Table 07-3). -/
def rangeStart (handle tag block n period base : Nat) : List Byte :=
  let b := leBytes 1 0x52 ++ beBytes 2 handle ++ leBytes 1 tag ++ leBytes 1 block ++ leBytes 1 n ++ beBytes 2 period ++ beBytes 4 base
  b ++ leBytes 2 (fcs b)

/-- Ports whose receive chains fail their self-test (R321). -/
def State.portFaults (s : State) (mask : Nat) : State :=
  ((List.range 4).filter (fun p => bit mask p && bit (s.reg Reg.UWB_CTRL_PORT_EN) p && s.regI Reg.UWB_PORT_STAT_FAULT p == 0)).foldl
    (fun t p => (t.setI Reg.UWB_PORT_STAT_FAULT p 1).raise (115 + 4 * p)) s

/-- A running scan or calibration is stopped by a block that becomes ready (R360). -/
def State.stopScan (s : State) : State :=
  let t : State := { s with uwb := { s.uwb with scan := none, cal := none } }
  match (s.uwb.scan.map UScan.cmd).or (s.uwb.cal.map UCal.cmd) with
  | none => s
  | some c => match t.runningSeq 3 c with | some r => t.complete r blkUWB stFULL 0 [] | none => t

/-- The timestamp of a RANGE_START: the counter of R324 as the model's clock has it, and a free part of 1 µs, 63,898 units, behind it (assumption 110). -/
def State.startStamp (s : State) : Nat × State :=
  let d := s.draw 2
  (low 40 (d.2.uwbCounter + ofLe d.1 % 63898), d.2)

/-- RANGING_BLOCK_START (R326 to R331, R353): the oldest waiting block begins with RANGE_START from the lowest usable port. `selfTest`: ports whose chains fail their test at its start
(R321): the block names them and they complete with cause 6 (R346). A block without a usable port ends at once. -/
def execRangingBlockStart (selfTest : BitVec 4) (s : State) : Host.Outcome State Fault Refusal :=
  .next (match s.uwb.block, s.uwb.waiting with
    | none, w :: rest =>
      if !s.flag Reg.UWB_CTRL_EN || !s.lfAllowed || s.replyDue w.handle then s
      else match s.ukeys w.session w.handle with
      | none => { s with uwb := { s.uwb with waiting := rest } }
      | some k =>
        let ports := s.usablePorts
        let d := ((s.stopScan).portFaults selfTest.toNat).startStamp
        let t := d.2
        let number := (w.go.getD (k.blocks, k.next)).1
        let base := (w.go.getD (k.blocks, k.next)).2
        let b : UBlock := { session := w.session, handle := w.handle, number := number, ports := ports, base := base, startedAt := t.now, forPeer := w.go.isSome, first := w.first, startTx := d.1 }
        let u := t.setUkeys { k with blocks := k.blocks + 1, next := base }
        let psdu := rangeStart w.handle k.tag number ports.length (t.reg Reg.UWB_SCHED_PERIOD) base
        let v : State := { u with uwb := { u.uwb with waiting := rest, block := some b, pllLost := false, sent := ports.take 1 |>.map (fun p => .sp0 p psdu) } }
        if ports.isEmpty then v.blockDone else v
    | _, _ => s)

/-- Whether a timestamp is that of the next poll's instant (R324, R329): (i + 1) × PERIOD behind RANGE_START's, within ±2 ns, 127 units of which 63,897.6 make 1 µs. -/
def UBlock.onTime (b : UBlock) (period tx : Nat) : Bool :=
  let d := low 40 (tx + 2 ^ 40 - low 40 (b.startTx + (b.polls.length + 1) * period * 638976 / 10))
  decide (d ≤ 127) || decide (2 ^ 40 ≤ d + 127)

/-- POLL (R329, R331, R332): the next port sends its poll at its instant; `tx` is its timestamp. No poll leaves at another one. -/
def execPoll (tx : BitVec 40) (s : State) : Host.Outcome State Fault Refusal :=
  .next (match s.uwb.block with
    | none => s
    | some b =>
      let i := b.polls.length
      match b.ports[i]? with
      | none => s
      | some p =>
        let period := s.reg Reg.UWB_SCHED_PERIOD
        if !s.since b.startedAt ((i + 1) * period) || s.replyDue b.handle || !b.onTime period tx.toNat then s
        else
          let b1 := { b with polls := b.polls ++ [(p, tx.toNat, low 48 (b.startedAt + (i + 1) * period - s.tim.mainUp))] }
          let t : State := { s with uwb := { s.uwb with block := some b1 } }
          match t.ukeys b.session b.handle with
          | some k => State.setUkeys { t with uwb := { t.uwb with sent := [.sp3 p k.kSts (k.pollV (b.base + i))] } } { k with next := low 32 (b.base + i + 1) }
          | none => t)

/-- RESPONSE_RECEIVED (R338 to R341): at a port, with the timestamp of its first path on the STS, QUAL, the difference between the first paths and the lead before the
strongest STS path in ps, ε in 0.01 ppm, the first-path power and its phase in 0.01°. It answers the last poll. -/
def execResponseReceived (port : Fin 4) (rx : BitVec 40) (qual : BitVec 8) (fpDiff lead : Nat) (eps : Int) (fpPwr : BitVec 8) (phase : Int) (s : State) :
    Host.Outcome State Fault Refusal :=
  .next (match s.uwb.block with
    | none => s
    | some b => match b.polls.getLast? with
      | none => s
      | some p =>
        if !s.chainsOn.contains port.val || b.rx.any (fun x => x.a == p.1 && x.k == port.val) then s
        else
          let badQ := decide (qual.toNat < s.reg Reg.UWB_RANGE_CFG_STS_QMIN) || decide (32000 < lead)
          let badF := decide (125 * s.reg Reg.UWB_RANGE_CFG_FP_AGREE < fpDiff)
          let delta := low 40 (rx.toNat + 2 ^ 40 - p.2.1)
          let x : URx := { a := p.1, k := port.val, delta := delta, qual := qual.toNat, eps := eps, fpPwr := fpPwr.toNat, phase := phase, why := if badQ then 2 else if badF then 3 else 0 }
          let t : State := { s with uwb := { s.uwb with block := some { b with rx := b.rx ++ [x] } } }
          let t1 := if badQ then t.bump Reg.UWB_ERR_STS else t
          let t2 := if badF then t1.bump Reg.UWB_ERR_FP else t1
          if badQ || badF then t2.raise (114 + 4 * port.val) else t2)

/-- BLOCK_END (R347): after the last poll's response. -/
def execBlockEnd (s : State) : Host.Outcome State Fault Refusal :=
  .next (match s.uwb.block with
    | some b => if b.polls.length = b.ports.length then s.blockDone else s
    | none => s)

/-- UWB_SYNTH_LOCK_LOST (Table 07-4): the running block ends with cause 6. -/
def execUwbSynthLockLost (s : State) : Host.Outcome State Fault Refusal :=
  let t : State := { s with uwb := { s.uwb with pllLost := true } }
  .next (match t.uwb.block with
    | some b => State.blockDone { t with uwb := { t.uwb with block := some { b with unlocked := true } } }
    | none => t)

/-! ## Queue commands (Table 07-6) -/

/-- Whether a Q_3 command may run: no block is queued or running (R360). -/
def State.uwbIdle (s : State) : Bool := s.uwb.block.isNone && s.uwb.waiting.isEmpty

/-- One reception of a calibration: sending and receiving port, t_rx − t_tx, ε in 0.01 ppm, phase in 0.01°. -/
abbrev CalRx := Nat × Nat × Int × Int × Int

/-- Mean Δ − t_ta of a pair of ports, in timestamp units. -/
def calPair (l : List CalRx) (a k : Nat) : List Byte :=
  let m := l.filter (fun x => x.1 == a && x.2.1 == k)
  let one (x : CalRx) : Int := roundDiv (65536 * (x.2.2.1 * (100000000 + x.2.2.2.1) - 8388608 * 100000000)) (100000000 + x.2.2.2.1)
  if m.isEmpty then [0, 0, 0, 0] else leBytes 4 (unsigned 32 (roundDiv ((m.map one).sum) (65536 * m.length)))

/-- Mean Δφ of an AoA pair in 0.01°, uncorrected: over the responses that both ports received. -/
def calPhase (l : List CalRx) (pair : Nat) : List Byte :=
  let d := l.filterMap (fun x => if x.2.1 = 2 * pair then (l.find? (fun y => y.1 == x.1 && y.2.1 == 2 * pair + 1)).map (fun y => wrapAngle (y.2.2.2.2 - x.2.2.2.2)) else none)
  if d.isEmpty then [0, 0] else leBytes 2 (unsigned 16 (roundDiv d.sum d.length))

/-- Completion data of a calibration: for each pair of its ports the mean, then both Δφ. -/
def UCal.data (x : UCal) : List Byte :=
  x.ports.flatMap (fun a => x.ports.flatMap (fun k => calPair x.rx a k)) ++ calPhase x.rx 0 ++ calPhase x.rx 1

/-- The packets of a calibration's next block: RANGE_START for handle 0x0000 and a poll from each port (R329, R332), with TAG 0, since no session gives one (assumption 110). -/
def State.calPackets (s : State) (x : UCal) : List UPacket :=
  .sp0 (x.ports.headD 0) (rangeStart 0 0 x.number x.ports.length (s.reg Reg.UWB_SCHED_PERIOD) x.base) ::
    ((List.range x.ports.length).zip x.ports).map (fun p => .sp3 p.2 x.kSts (stsV x.vSts (2 * (x.base + p.1))))

/-- A calibration runs one block, with its receptions at the ports whose chains are on (R322), and completes with its last. -/
def State.calBlock (s : State) (x : UCal) (rx : List CalRx) : State :=
  let y := { x with rx := x.rx ++ rx.filter (fun z => x.ports.contains z.1 && x.ports.contains z.2.1), number := x.number + 1, base := x.base + x.ports.length }
  let done := decide (x.blocks ≤ y.number)
  let t : State := { s with uwb := { s.uwb with cal := if done then none else some y, sent := s.calPackets x } }
  match (if done then t.runningSeq 3 x.cmd else none) with
  | some r => if y.data.length ≤ 40 then t.complete r blkUWB stOK 0 y.data else t.completeTo r blkUWB y.data
  | none => t

/-- UWB_CAL (Table 07-6): port mask, key slot, blocks. Each command runs one block, with its receptions: the first takes the request and the slot's key, whose two halves stand for K_STS
and V_STS (DESIGN CHOICE, assumption 110); the last completes it. -/
def execUwbCal (rx : List (Nat × Nat × Int × Int × Int)) (s : State) : Host.Outcome State Fault Refusal :=
  .next (if !s.uwbIdle || !s.lfAllowed then s else match s.uwb.cal with
    | some x => s.calBlock x rx
    | none => s.withCmd 3 1 (fun r =>
      let ports := s.usablePorts.filter (fun p => bit (r.num 0 1) p)
      let n := r.num 2 1
      if s.uwb.scan.isSome then s
      else if n = 0 ∨ 64 < n ∨ ports.isEmpty then s.complete r blkUWB stPOLICY 0 []
      else
        let u := (s.startCmd r).useSlot (r.num 1 1) useDERIVE [1] 3
        if u.1 ≠ 0 then u.2.complete { r with started := true, waited := s.now - r.takenAt } blkUWB (causeStatus u.1) u.1 []
        else
          let k := (s.slotRaw (r.num 1 1)).key
          u.2.calBlock { cmd := r.entry.seq, ports := ports, kSts := fit 16 k, vSts := fit 16 (k.drop 16), blocks := n } rx))

/-- UWB_SCAN (Table 07-6), over the usable ports of its mask (R322): channel as UWB_PROFILE.CHAN codes it, port mask, duration in ms. -/
def execUwbScan (s : State) : Host.Outcome State Fault Refusal :=
  .next (match s.que.running.find? (fun r => r.ring == 3 && r.entry.code == 2 && !r.started) with
    | none => s
    | some r =>
      let ms := r.num 2 2
      let ch := r.num 0 1
      if !s.uwbIdle || s.uwb.scan.isSome || s.uwb.cal.isSome then s
      else if ms = 0 ∨ 1000 < ms ∨ 1 < ch then s.complete r blkUWB stPOLICY 0 []
      else
        let x : UScan := { cmd := r.entry.seq, ports := s.usablePorts.filter (fun p => bit (r.num 1 1) p), until_ := s.now + 1000 * ms }
        let t := s.startCmd r
        { t with uwb := { t.uwb with scan := some x } })

/-- UWB_SCAN_END: noise floor and peak power of each port, signed dBm. -/
def execUwbScanEnd (meas : List (BitVec 8 × BitVec 8)) (s : State) : Host.Outcome State Fault Refusal :=
  .next (match s.uwb.scan with
    | none => s
    | some x =>
      if s.now < x.until_ then s
      else
        let t : State := { s with uwb := { s.uwb with scan := none } }
        match t.runningSeq 3 x.cmd with
        | some r => t.complete r blkUWB stOK 0 (x.ports.flatMap (fun p => match meas[p]? with | some m => [m.1, m.2] | none => [0, 0]))
        | none => t)

/-- UWB_STATUS (Table 07-6): as every command of Q_3, only while no block is queued or running (R360). -/
def execUwbStatus (s : State) : Host.Outcome State Fault Refusal :=
  .next (s.withCmd 3 3 (fun r =>
    if !s.uwbIdle then s else
    s.complete r blkUWB stOK 0 (s.regBytes Reg.UWB_STAT_STATE 0 ++ (List.range 4).flatMap (s.regBytes Reg.UWB_PORT_STAT_FAULT))))

/-- UWB_ERR_CLR (Table 07-7). -/
def execUwbErrClr (master : Nat) (s : State) : Host.Outcome State Fault Refusal :=
  .next (s.clearBy master Reg.UWB_ERR_CLR_CLR [Reg.UWB_ERR_STS, Reg.UWB_ERR_FP, Reg.UWB_ERR_DEV, Reg.UWB_ERR_EARLY])

end Sys2Proof.Machine
end

