-- ==== Sys2Proof/Machine/Pair.lean ====
section
/-! DEFINITION. Meanings of the Tsudon and pair commands (chapter 16). A received frame is its bytes from TYPE to CRC. -/
namespace Sys2Proof.Machine

/-! ## Training and keying (R764 to R770) -/

/-- LINK_ALIGNED (R764, R769): TRAINING becomes KEYING; it waits for N while RNG serves nothing (R538). -/
def execLinkAligned (s : State) : Host.Outcome State Fault Refusal :=
  .next (if s.tsu.link = .training then (if s.rngServes then s.keyLink else { s with tsu := { s.tsu with keyWaits := true } }) else s)

/-- HELLO (R769). -/
def execHello (frame : List Byte) (s : State) : Host.Outcome State Fault Refusal :=
  .next (if s.tsu.link ≠ .keying then s
  else match openFrame s.tsu.kLink (!s.tsu.secondary) frame with
    | .error _ => s
    | .ok f =>
      if f.typ ≠ 1 ∨ f.payload.length ≠ 32 then s
      else if ofBe (slice f.payload 0 8) ≠ s.peerDev then s.pairRefuse 1
      else if f.num 28 1 = ofBool s.tsu.secondary then s.pairRefuse 2
      else s.formLink f.payload)

/-- HELLO_REPEAT (R769): every 1 s after a failed check. -/
def execHelloRepeat (s : State) : Host.Outcome State Fault Refusal :=
  .next (if s.tsu.link = .keying ∧ s.reg Reg.TSU_STAT_REFUSE ≠ 0 ∧ s.since s.tsu.helloAt 1000000 then
    State.sendHello { s with tsu := { s.tsu with sent := [] } } else s)

/-- CONFIRM (R769): one that verifies brings the link UP; one that fails is a failed check. -/
def execConfirm (frame : List Byte) (s : State) : Host.Outcome State Fault Refusal :=
  .next (if s.tsu.link ≠ .keying ∨ s.tsu.kLink.isEmpty then s
  else match openFrame s.tsu.kLink (!s.tsu.secondary) frame with
    | .error .crc => s
    | .error .tag => s.pairRefuse 4
    | .ok f => if f.typ = 2 then s.degradedEdge s.linkUp else s)

/-- TSU_FRAME_BAD (R768): a frame whose CRC fails is counted; one whose tag fails takes the link DOWN, except a CONFIRM in KEYING (R769). -/
def execTsuFrameBad (frame : List Byte) (s : State) : Host.Outcome State Fault Refusal :=
  .next (if s.tsu.link ≠ .keying ∧ s.tsu.link ≠ .up then s
  else match openFrame s.tsu.kLink (!s.tsu.secondary) frame with
    | .ok _ => s
    | .error .crc => s.bump Reg.TSU_ERR_CRC
    | .error .tag =>
      if s.tsu.kLink.isEmpty then s
      else if s.tsu.link = .keying ∧ frame.headD 0 = 2 then s.pairRefuse 4
      else s.degradedEdge ((((s.bump Reg.TSU_ERR_TAG).raise 187)).linkDown (some (s.now + 100000))))

/-- LINK_RETRAIN (R768): 100 ms ± 10 ms after the failure; after a loss of alignment as soon as the link is enabled. -/
def execLinkRetrain (s : State) : Host.Outcome State Fault Refusal :=
  .next (match s.tsu.link, s.tsu.retrainAt with
    | .down, some t =>
      if s.flag Reg.TSU_CTRL_EN && decide (t ≤ s.now + 10000) then { s with tsu := { s.tsu with link := .training, retrainAt := none } } else s
    | _, _ => s)

/-- LINK_ALIGNMENT_LOST (R786): the link goes DOWN. -/
def execLinkAlignmentLost (s : State) : Host.Outcome State Fault Refusal :=
  .next (if s.tsu.link = .keying ∨ s.tsu.link = .up then s.degradedEdge (s.linkDown (some s.now)) else s)

/-- LINK_RETRANSMIT (R771): 50 µs ± 5 µs without an advance of ACK. -/
def execLinkRetransmit (s : State) : Host.Outcome State Fault Refusal :=
  .next (if s.tsu.link = .up ∧ s.tsu.unacked ≠ [] ∧ s.since s.tsu.ackAt 45 then
    State.tsuResend { s with tsu := { s.tsu with sent := [] } } else s)

/-! ## Heartbeats and the partner's loss (R766, R786) -/

/-- HEARTBEAT (Table 16-4, R783, R790, R791). The link delay is not part of the model's offset. -/
def execHeartbeat (frame : List Byte) (s : State) : Host.Outcome State Fault Refusal :=
  .next (s.onFrame 3 frame (fun f t =>
    let hb : PeerHb := { role := f.num 0 1, state := f.num 1 1, ports := f.num 2 1, backlogFree := f.num 3 2, timebase := f.num 5 6, fret := f.num 11 4,
                         crdGen := f.num 15 4, jnlNext := f.num 19 6, mseqApplied := f.num 25 4 }
    { t with tsu := { t.tsu with
        hb := hb, tbOfs := low 48 (hb.timebase + 2 ^ 48 - t.timebase), fretOfs := low 16 (hb.fret + 2 ^ 16 - low 16 t.lfa.frets) } }))

/-- The heartbeat's payload (Table 16-4). -/
def State.heartbeat (s : State) : List Byte :=
  let ports := maskOf s.usablePorts
  let st := ofBool s.pairDegraded + 2 * ofBool (decide (0 < s.tsu.stage)) + 4 * ofBool s.tsu.drivesArb
  leBytes 1 (ofBool (s.tsu.role == .active)) ++ leBytes 1 st ++ leBytes 1 (if s.flag Reg.UWB_CTRL_EN then ports else 0) ++
    leBytes 2 (512 - backlogCount s.lkt.backlog) ++ leBytes 6 s.timebase ++ leBytes 4 s.lfa.frets ++ leBytes 4 s.crd.generation ++
    leBytes 6 s.jnl.next ++ leBytes 4 s.tsu.mseqApplied ++ [0, 0, 0]

/-- HEARTBEAT_SEND (R766). -/
def execHeartbeatSend (s : State) : Host.Outcome State Fault Refusal :=
  .next (if s.tsu.link = .up then State.tsuSend { s with tsu := { s.tsu with sent := [] } } 3 s.heartbeat else s)

/-- PARTNER_LOST (R786): no valid frame for 5 ms ± 0.2 ms, or the link DOWN. -/
def execPartnerLost (s : State) : Host.Outcome State Fault Refusal :=
  .next (if s.paired && (s.tsu.link != .up || s.since s.tsu.lastRx 4800) then s.degradedEdge s.declareLost else s)

/-! ## Mirror items (R781 to R785) -/

/-- MIRROR_LKT: Locket groups and rings. -/
def execMirrorLkt (frame : List Byte) (s : State) : Host.Outcome State Fault Refusal :=
  .next (s.onFrame 0x10 frame (fun f t => t.mirrorIn 36 f (fun m u => u.applyItems f m)))

/-- MIRROR_JNL: journal records. -/
def execMirrorJnl (frame : List Byte) (s : State) : Host.Outcome State Fault Refusal :=
  .next (s.onFrame 0x11 frame (fun f t => t.mirrorIn 37 f (fun m u => u.applyRecords f m)))

/-- MIRROR_CRD: the issued set, or its SWITCH (R474). -/
def execMirrorCrd (frame : List Byte) (s : State) : Host.Outcome State Fault Refusal :=
  .next (s.onFrame 0x12 frame (fun f t => t.mirrorIn 38 f (fun m u => u.applySet f m)))

/-- MACK (R782, R784): an item is acknowledged, or refused; what waited for it goes on. -/
def execMack (frame : List Byte) (s : State) : Host.Outcome State Fault Refusal :=
  .next (s.onFrame 0x13 frame (fun f t =>
    let m := f.num 0 4
    let l := t.tsu.items.filter (fun x => x.mseq == m)
    let u := t.dropItems (fun x => x.mseq == m)
    let v : State := { u with tsu := { u.tsu with mackDone := max u.tsu.mackDone m } }
    if l.isEmpty then t else (v.itemsEnded l (f.num 4 1 == stOK || f.num 4 1 == stDELAYED)).handoverTry))

/-- Whether the Locket write that a mirror item belongs to is still waiting for room here: its deadline counts from this device's acceptance (Table 16-5). -/
def State.notYetHeld (s : State) (m : Nat) : Bool := s.lkt.writes.any (fun x => x.mseq == some m && !x.placed)

/-- MACK_DEADLINE (R784): a late MACK makes the work DEGRADED and the partner lost. -/
def execMackDeadline (s : State) : Host.Outcome State Fault Refusal :=
  .next (if s.tsu.items.any (fun x => decide (x.deadline ≤ s.now)) then
    let l := s.tsu.items.map (fun x => if decide (x.deadline ≤ s.now) && s.notYetHeld x.mseq then { x with deadline := s.now + 200000 } else x)
    let t : State := { s with tsu := { s.tsu with items := l } }
    if l.any (fun x => decide (x.deadline ≤ s.now)) then s.degradedEdge t.declareLost else t
  else s)

/-! ## Messages and records of the partner -/

/-- MAILBOX (R739, R740): a message for MB_0 or MB_1, or the acknowledgement of one in MB_4 or MB_5. -/
def execMailbox (frame : List Byte) (s : State) : Host.Outcome State Fault Refusal :=
  .next (s.onFrame 0x20 frame (fun f t =>
    let m := f.num 0 1
    let n := f.num 1 1
    let words := (List.range n).map (fun i => f.num (4 + 4 * i) 4)
    if n = 0 then (if (m = 4 ∨ m = 5) ∧ (t.box m).isSome then t.emptyBox m else t)
    else if 1 < m ∨ 16 < n then t
    else if (t.box m).isSome then { t with tsu := { t.tsu with mbWait := t.tsu.mbWait ++ [(m, words)] } }
    else t.putFromPeer m words))

/-- RECORD (R788): a STANDBY's hardware record joins Q_46 for the ACTIVE to assign, with SOURCE.MASTER 4. -/
def execRecord (frame : List Byte) (s : State) : Host.Outcome State Fault Refusal :=
  .next (s.onFrame 0x21 frame (fun f t =>
    if t.isStandby then t
    else t.queueRecord { typ := f.num 0 2, master := 4, block := f.num 2 1, payload := slice f.payload 4 64 }))

/-! ## The ACTIVE's session on a STANDBY (R790 to R797) -/

/-- The keys of a handle of the ACTIVE's session (R288, R795). -/
def peerKeys (session group tag nonce handle : Nat) (kt : List Byte) : UKeys :=
  let d (l : Nat) := aesEncrypt kt (leBytes 1 l ++ beBytes 2 group ++ leBytes 1 tag ++ beBytes 4 nonce ++ beBytes 2 handle ++ List.replicate 6 0)
  { session := session, handle := handle, tag := tag, kSes := d 0x10, kSts := d 0x11, vSts := d 0x12 }

/-- A proved handle that the SESSION frame lists: its keys are derived once, while this device's credential generation is the ACTIVE's. -/
def State.peerHandle (p : Nat × Nat × Nat × Nat) (s : State) (x : Nat × Nat × Nat) : State :=
  if (s.ukeys p.1 x.1).isSome || s.tsu.hb.crdGen != s.crd.generation || !s.crdServes || decide (s.crd.count ≤ x.2.2) then s
  else
    let v := s.useSlot 255 useWRAP [1] 5
    if v.1 ≠ 0 then v.2
    else match v.2.unwrapKt x.2.2 with
      | none => v.2
      | some kt =>
        let k := peerKeys p.1 p.2.1 p.2.2.1 x.2.1 x.1 kt
        { v.2 with uwb := { v.2.uwb with keys := v.2.uwb.keys ++ [k] } }

/-- SESSION (R794, R795): the session's values, or its END (an empty payload). -/
def execSession (frame : List Byte) (s : State) : Host.Outcome State Fault Refusal :=
  .next (s.onFrame 0x30 frame (fun f t =>
    if !t.isStandby then t
    else if f.payload.isEmpty then t.peerSessionEnd
    else
      let p := (f.num 0 4, f.num 4 2, f.num 6 1, f.num 7 1)
      let t1 := match t.tsu.peerSess with | some q => if q.1 = p.1 then t else t.peerSessionEnd | none => t
      let t2 : State := { t1 with tsu := { t1.tsu with peerSess := some p } }
      let l := (List.range ((f.payload.length - 8) / 8)).map (fun i => (f.num (8 + 8 * i) 2, f.num (10 + 8 * i) 4, f.num (14 + 8 * i) 2))
      l.foldl (State.peerHandle p) t2))

/-- BURST (R792): a CW Fret of the ACTIVE's session, at the Fret that it names on this device's own count. -/
def execBurst (frame : List Byte) (s : State) : Host.Outcome State Fault Refusal :=
  .next (s.onFrame 0x31 frame (fun f t =>
    if !t.isStandby then t
    else
      let n := f.num 0 4
      let own := low 16 (n + 2 ^ 16 - t.tsu.fretOfs)
      { t with lfa := { t.lfa with peerBursts := t.lfa.peerBursts ++ [(own, n, slice f.payload 4 16)] } }))

/-- BURST_DONE (R793). -/
def execBurstDone (frame : List Byte) (s : State) : Host.Outcome State Fault Refusal :=
  .next (s.onFrame 0x32 frame (fun f t =>
    let l := t.tsu.bursts.map (fun b => if b.fret = low 16 (f.num 0 4) ∧ b.valid.isNone then { b with valid := some (f.num 4 1 == 1) } else b)
    { t with tsu := { t.tsu with bursts := l } }))

/-- BURST_DONE_TIMEOUT (R793): not come within 1 ms after its Fret ended. -/
def execBurstDoneTimeout (s : State) : Host.Outcome State Fault Refusal :=
  let fretUs := 256000000 / max 1 (s.reg Reg.LFA_CARRIER_FREQ)
  let late (b : PeerBurst) : Bool := match s.glt.sess with
    | some g => g.bursts.any (fun r => r.index == b.index && s.since r.time (fretUs + 1000))
    | none => true
  let l := s.tsu.bursts.map (fun b => if b.valid.isNone && late b then { b with valid := some false } else b)
  .next { s with tsu := { s.tsu with bursts := l } }

/-- RANGE_GO (R796): the STANDBY's block for a handle whose keys it holds. -/
def execRangeGo (frame : List Byte) (s : State) : Host.Outcome State Fault Refusal :=
  .next (s.onFrame 0x33 frame (fun f t =>
    match t.tsu.peerSess with
    | none => t
    | some p =>
      if (t.ukeys p.1 (f.num 0 2)).isNone then t
      else (t.uwbAsk { session := p.1, handle := f.num 0 2, go := some (f.num 2 1, f.num 4 4) }).2))

/-- RANGE (R796): an entry of a STANDBY port enters Q_41; with the last one a solve falls due (R368). -/
def execRange (frame : List Byte) (s : State) : Host.Outcome State Fault Refusal :=
  .next (s.onFrame 0x34 frame (fun f t =>
    if t.isStandby || decide (f.num 6 1 < 4) || decide (7 < f.num 6 1) then t
    else
      let u := t.emit 41 blkTSU (f.payload.take 48)
      match u.tsu.rangeGo.find? (fun x => x.session == f.num 0 4 && x.handle == f.num 4 2 && x.block == f.num 10 1) with
      | none => u
      | some x =>
        let left := x.ports.filter (fun p => 4 + p != f.num 6 1)
        let rest (l : List RangeGo) : State := { u with tsu := { u.tsu with rangeGo := l } }
        if left.isEmpty then
          ((rest (u.tsu.rangeGo.erase x)).solveDue x.session x.handle (some x.block)).gltKick
        else rest (u.tsu.rangeGo.map (fun y => if y == x then { x with ports := left, got := x.got ++ [f.num 6 1 - 4] } else y))))

/-- UHF_FWD (R794): a forwarded uplink frame, used only for a slot or reply in which the ACTIVE's own receivers heard no valid frame. -/
def execUhfFwd (frame : List Byte) (s : State) : Host.Outcome State Fault Refusal :=
  .next (s.onFrame 0x35 frame (fun f t =>
    match t.glt.sess with
    | none => t
    | some g =>
      let start := f.num 0 4
      let raw := f.payload.drop 6
      let b := raw.take ((raw.headD 0).toNat + 3)
      let typ := (uplink g.tag b).2.1
      if t.isStandby || !(uplink g.tag b).1 then t
      else if typ = 0x81 then (if g.single.isSome then t else (t.setSess { g with noise := false }).handleFrame start b)
      else if typ = 0x83 then t.proofFrame start b
      else if typ = 0x85 then t.reportFrame start b
      else t))

/-! ## Control frames -/

/-- CONTROL_HANDOVER (R780): the ACTIVE releases PAIR_ARB next. -/
def execControlHandover (frame : List Byte) (s : State) : Host.Outcome State Fault Refusal :=
  .next (match s.frameIn 0x40 frame with
    | (some f, t) => if f.num 0 1 ≠ 2 then s else if t.isStandby then { t with tsu := { t.tsu with handoverHeard := true } } else t
    | (none, _) => s)

/-- CONTROL_RESYNC (R801 to R804): a RESYNC frame at the STANDBY, or an answer at the ACTIVE. -/
def execControlResync (frame : List Byte) (s : State) : Host.Outcome State Fault Refusal :=
  .next (match s.frameIn 0x40 frame with
    | (some f, t) =>
      if f.num 0 1 = 3 then s.degradedEdge (if t.isStandby then t.resyncFrame f else t)
      else if f.num 0 1 = 4 then s.degradedEdge (if t.isStandby then t else t.resyncAnswer f)
      else s
    | (none, _) => s)

/-- RESYNC_STAGE_DONE (Table 16-6): everything of the stage has been acknowledged and the next begins. -/
def execResyncStageDone (s : State) : Host.Outcome State Fault Refusal :=
  .next (if s.tsu.role != .active || s.tsu.link != .up || !s.tsu.items.isEmpty || !s.tsu.outbox.isEmpty || !s.tsu.unacked.isEmpty then s
  else if s.tsu.stage = 1 then s.stageTwo
  else if s.tsu.stage = 2 ∧ s.tsu.search.isNone then s.stageThree
  else if s.tsu.stage = 3 ∧ s.tsu.setWaits then (if s.setCopyReady then s.stageThree else s)
  else if s.tsu.stage = 3 ∧ s.tsu.setSent.isNone then s.degradedEdge s.stageFour
  else s)

/-! ## Roles (R772 to R780) -/

/-- ARB_TEST (R773): a SECONDARY that has claimed samples the line at 1, 2 and 4 ms; `low`: the PRIMARY holds it too. -/
def execArbTest (low : Bool) (s : State) : Host.Outcome State Fault Refusal :=
  .next (match ([1000, 2000, 4000] : List Nat)[s.tsu.testsDone]? with
    | none => s
    | some t =>
      if !s.paired || !s.tsu.secondary || s.tsu.role != .active || !s.tsu.drivesArb || !s.since s.tsu.claimedAt t then s
      else
        let u : State := { s with tsu := { s.tsu with testsDone := s.tsu.testsDone + 1 } }
        if low then
          let v := u.stepDown
          s.degradedEdge { v with tsu := { v.tsu with arbHigh := false } }
        else u)

/-- PAIR_ARB_CHANGE (R774): a line that this device does not hold changes level. -/
def execPairArbChange (high : Bool) (s : State) : Host.Outcome State Fault Refusal :=
  .next (if s.tsu.drivesArb || s.tsu.arbHigh == high then s else { s with tsu := { s.tsu with arbHigh := high, arbHighSince := s.now } })

/-- PAIR_ARB_HIGH (R774, R776, R778): a STANDBY that has counted the line as high takes over. -/
def execPairArbHigh (s : State) : Host.Outcome State Fault Refusal :=
  .next (if s.paired && s.tsu.role == .standby && s.tsu.arbHigh && s.since s.tsu.arbHighSince 900 && s.mainUp then s.degradedEdge s.takeover else s)

/-- HANDOVER_REQ (R780). -/
def execHandoverReq (master : Nat) (s : State) : Host.Outcome State Fault Refusal :=
  .next (if !s.mayWriteField master Reg.TSU_CTL_HANDOVER then s.writeRefused master Reg.TSU_CTL_HANDOVER
  else if s.tsu.handover.isSome then s
  else if s.paired && s.tsu.role == .active && !s.pairDegraded then
    let t := s.set Reg.TSU_CTL_HANDOVER 1
    State.handoverTry { t with tsu := { t.tsu with handover := some s.now } }
  else s.set Reg.TSU_CTL_STATUS stPOLICY)

/-- HANDOVER_TIMEOUT (R780): the acknowledgements have not all come within 100 ms. -/
def execHandoverTimeout (s : State) : Host.Outcome State Fault Refusal :=
  .next (match s.tsu.handover with
    | none => s
    | some t =>
      if s.since t 100000 then
        let u := (s.set Reg.TSU_CTL_STATUS stFULL).set Reg.TSU_CTL_HANDOVER 0
        { u with tsu := { u.tsu with handover := none } }
      else s)

/-- RST_PARTNER (R777): PAIR_RST_N is driven low, or the request is refused. -/
def execRstPartner (master : Nat) (s : State) : Host.Outcome State Fault Refusal :=
  let recent : Bool := match s.tsu.lastPeerReset with | some t => !s.since t 5000000 | none => false
  .next (if !s.mayWriteField master Reg.TSU_CTL_RST_PARTNER then s.writeRefused master Reg.TSU_CTL_RST_PARTNER
  else if s.tsu.drivesArb && s.since s.tsu.lastRx 50000 && !recent then
    let t := (s.raise 187).set Reg.TSU_CTL_STATUS stOK
    { t with tsu := { t.tsu with lastPeerReset := some s.now, resetDriveUntil := s.now + 100 } }
  else s.set Reg.TSU_CTL_STATUS stPOLICY)

/-- TSU_ERR_CLR (R805). -/
def execTsuErrClr (master : Nat) (s : State) : Host.Outcome State Fault Refusal :=
  .next (s.clearBy master Reg.TSU_ERR_CLR_CLR [Reg.TSU_ERR_CRC, Reg.TSU_ERR_TAG, Reg.TSU_ERR_RETRY, Reg.TSU_ERR_MB_LOST])

end Sys2Proof.Machine
end

