-- ==== Sys2Proof/Machine/Image.lean ====
section
/-! DEFINITION. Meanings of the image and boot commands (chapter 17), and the role decision that follows a boot (R772). -/
namespace Sys2Proof.Machine

/-! ## Verdict-ready (Table 17-6, steps 9 and 10) -/

/-- The floor rises to an image's FLOOR (Table 17-6, step 10; R821). -/
def State.raiseFloor (s : State) (b : List Byte) : State :=
  if imgFloor b ≤ s.overlayFloor ∨ s.pins.wpLow ∨ s.areaDamaged 1 then s
  else (s.lktNow (s.areaItems 1 (overlayBytes (imgFloor b) s.overlayRecords))).2

/-- A learning that nobody commanded has failed its checks: CRD_LAST, and, except for cause 4, E_149 (R819). -/
def State.offerFailed (s : State) (c : LearnCheck) : State :=
  let t := ((s.set Reg.CRD_LAST_STATUS (learnStatus c.cause)).set Reg.CRD_LAST_CAUSE (if c.cause = causeUnnamed then 0 else c.cause)).set Reg.CRD_LAST_INDEX c.index
  if c.cause = 4 then t else t.raise 149

/-- The CRED section is offered to CRD as a learning (R468, R819, R821). -/
def State.offerCred (s : State) (img : List Byte) : State :=
  let b := imgBytes img 9
  if (imgSection img 9).isNone || !s.flag Reg.CRD_CTRL_EN then s
  else if s.flag Reg.PKE_STAT_KAT_FAIL || s.enginesFailed then s.offerFailed { cause := 6 }
  else
    let p := s.learnBegin b none none false
    if p.1.cause ≠ 0 then p.2.offerFailed p.1
    else if !p.2.mirrorsNow then p.2
    else
      let t := State.sendSet p.2 0 (b.length / 1000 + 1) 0 b
      { t with crd := { t.crd with learn := t.crd.learn.map (fun l => { l with mseq := some (t.tsu.mseqNext - 1) }) } }

/-- The findings that SYS_BOOT names (R822). -/
def State.bootFindings (s : State) : State :=
  let kat := s.regI Reg.AEA_STAT_KAT_FAIL 0 == 1 || s.regI Reg.AEA_STAT_KAT_FAIL 1 == 1 || s.flag Reg.PKE_STAT_KAT_FAIL || s.flag Reg.HSH_STAT_KAT_FAIL || s.flag Reg.RNG_STAT_KAT_FAIL
  (((s.set Reg.SYS_BOOT_KAT (ofBool kat)).set Reg.SYS_BOOT_RNG (ofBool (s.crypto.rng.state != .ok))).set Reg.SYS_BOOT_NO_CRED (ofBool (!s.crd.tableValid))).set
    Reg.SYS_BOOT_NO_MAP (ofBool (!s.loc.mapValid))

/-- Whether the boot has findings. -/
def State.hasFindings (s : State) : Bool := s.flag Reg.SYS_BOOT_KAT || s.flag Reg.SYS_BOOT_RNG || s.flag Reg.SYS_BOOT_NO_CRED || s.flag Reg.SYS_BOOT_NO_MAP

/-- FW_READY (R817, R822, R825): step 9, and after a boot from the NOR step 10. -/
def execFwReady (master : Nat) (s : State) : Host.Outcome State Fault Refusal :=
  .next (if master ≠ 1 then s.writeRefused master Reg.SYS_FW_READY_READY
  else if s.pwr.phase ≠ .boot then s
  else
    let s1 := (((s.set Reg.SYS_FW_READY_READY 1).set Reg.SYS_BOOT_READY 1)).bootFindings
    let s2 := State.bootCode { s1 with pwr := { s1.pwr with phase := .run } } (if s1.hasFindings then 4 else 7)
    if s2.reg Reg.SYS_BOOT_SOURCE = 2 then s2
    else
      let s3 := s2.raiseFloor s2.runningImage
      if s3.isStandby then s3 else s3.offerCred s3.runningImage)

/-! ## The role decision (R772) -/

/-- ROLE_CLAIM (R772): a low line makes a STANDBY; a line that has been high without a break for 1 ms (PRIMARY) or 10 ms (SECONDARY) is claimed. The ACTIVE writes the anchors of its
image (Table 17-6, step 4) and offers its CRED section. -/
def execRoleClaim (s : State) : Host.Outcome State Fault Refusal :=
  .next (if !s.paired || s.tsu.role != .undecided || !s.mainUp then s
  else if !s.tsu.arbHigh then s.degradedEdge (s.setRole .standby)
  else if !s.since (max s.tsu.arbHighSince s.tsu.decideFrom) (if s.tsu.secondary then 9900 else 900) then s
  else
    let s1 := (s.driveArb true).setRole .active
    let s2 : State := { s1 with tsu := { s1.tsu with claimedAt := s.now, testsDone := 0 } }
    let s3 := ((s2.releaseLate 5).bootAnchors s2.runningImage).resyncBegin
    s.degradedEdge (if s3.flag Reg.SYS_BOOT_READY && s3.reg Reg.SYS_BOOT_SOURCE != 2 then s3.offerCred s3.runningImage else s3))

/-! ## Recovery (R830 to R832) -/

/-- SYS_RECOV_STAT of a check or a write that failed; the ROM waits for a new GO. -/
def State.recovEnd (s : State) (cause : Nat) : State :=
  ((s.set Reg.SYS_RECOV_STAT_STATUS (imgStatus cause)).set Reg.SYS_RECOV_STAT_CAUSE cause).set Reg.SYS_RECOV_GO 0

/-- The bank that recovery writes (R832), and the state after the judgements that choose it. When both banks fail their checks the spec does not choose: bank A. -/
def State.recovBank (s : State) : Nat × State :=
  let x := s.imageJudge s.nor.imageA
  if x.1 ≠ 0 then (0, x.2)
  else
    let y := x.2.imageJudge s.nor.imageB
    (if y.1 ≠ 0 then 1 else if imgGen s.nor.imageA < imgGen s.nor.imageB then 0 else 1, y.2)

/-- RECOVERY_GO (R831, R832): the image at 0x1008_0000 is checked; a valid one is written to a bank. -/
def execRecoveryGo (master : Nat) (s : State) : Host.Outcome State Fault Refusal :=
  .next (if !s.mayWriteField master Reg.SYS_RECOV_GO then s.writeRefused master Reg.SYS_RECOV_GO
  else if s.pwr.phase != .recovery || s.flag Reg.SYS_RECOV_GO then s
  else
    let n := s.reg Reg.SYS_RECOV_LENGTH
    let b := s.bytes sharedLo n
    let x := if 1572864 < n then (1, s) else s.imageJudge b
    if x.1 ≠ 0 then x.2.recovEnd x.1
    else
      let y := x.2.recovBank
      let k := y.1
      let t := (((y.2.set Reg.SYS_RECOV_GO 1).set Reg.SYS_RECOV_STAT_BANK k).set Reg.SYS_RECOV_STAT_STATUS 0).set Reg.SYS_RECOV_STAT_CAUSE 0
      { t with nor := { t.nor with jobs := t.nor.jobs ++ [{ area := .image k, data := b.take (imgLength b) }] } })

/-! ## Staging (R834) -/

/-- The bank that does not hold the running image. -/
def State.idleBank (s : State) : Nat := if s.nor.running = some 0 then 1 else 0

/-- The outcome of a CFG_UPD_CTL action. -/
def State.updEnd (s : State) (f : Field) (cause : Nat) : State :=
  ((s.set f 0).set Reg.CFG_UPD_CTL_STATUS (imgStatus cause)).set Reg.CFG_UPD_CTL_CAUSE cause

/-- STAGE: the image that CFG_UPD_ADDR and CFG_UPD_LEN name is checked, and a valid one is written to the idle bank: the cause, and the state. -/
def State.stageImage (s : State) (cmd : Option Nat) : Nat × State :=
  let a := s.reg Reg.CFG_UPD_ADDR_ADDR
  let n := s.reg Reg.CFG_UPD_LEN_LEN
  let b := s.bytes a n
  let x := if !inShared a n then (1, s) else s.imageJudge b
  if x.1 ≠ 0 then (x.1, x.2.updEnd Reg.CFG_UPD_CTL_STAGE x.1)
  else
    let t := x.2.set Reg.CFG_UPD_CTL_STAGE 1
    (0, { t with nor := { t.nor with jobs := t.nor.jobs ++ [{ area := .image t.idleBank, data := b.take (imgLength b), cmd := cmd }] } })

/-- CFG_UPD_STAGE (R834): the security core sets CFG_UPD_CTL.STAGE. -/
def execCfgUpdStage (master : Nat) (s : State) : Host.Outcome State Fault Refusal :=
  .next (if master ≠ 1 then s.writeRefused master Reg.CFG_UPD_CTL_STAGE else if s.flag Reg.CFG_UPD_CTL_STAGE then s else (s.stageImage none).2)

/-- The oldest Q_15 command of a code that has not started. -/
def State.imgCmd (s : State) (code : Nat) : Option Running := s.que.running.find? (fun r => r.ring == 15 && r.entry.code == code && !r.started)

/-- IMG_STAGE (R833, R834): address and length in the shared partition. -/
def execImgStage (s : State) : Host.Outcome State Fault Refusal :=
  .next (match s.imgCmd 0x80 with
    | none => s
    | some r =>
      let a := r.num 0 4
      let n := r.num 4 4
      if r.level < 3 then s.complete r blkSYS stPOLICY 0xF2 []
      else if s.flag Reg.CFG_UPD_CTL_STAGE then s
      else if !s.rangeOk r.entry.master a n || decide (0x200000 < n) then s.complete r blkSYS stPOLICY 1 []
      else
        let p := (((s.startCmd r).set Reg.CFG_UPD_ADDR_ADDR a).set Reg.CFG_UPD_LEN_LEN n).stageImage (some r.entry.seq)
        if p.1 = 0 then p.2 else match p.2.runningSeq 15 r.entry.seq with
          | some x => p.2.complete x blkSYS (imgStatus p.1) p.1 []
          | none => p.2)

/-! ## Activation (R835 to R837) -/

/-- Whether a section of a type without LIVE differs between the staged and the running image. -/
def fixedDiffers (new old : List Byte) (typ : Nat) : Bool :=
  match imgSection new typ, imgSection old typ with
  | some x, some y => !x.live && x.hash != y.hash
  | some x, none => !x.live
  | none, some _ => true
  | none, none => false

/-- Whether the images bar a live update: no higher generation, or a section without LIVE differs (Table 17-9, cause 8). -/
def State.liveBarred (s : State) : Bool :=
  let new := s.imageBank s.idleBank
  decide (imgGen new ≤ imgGen s.runningImage) || (List.range 14).any (fixedDiffers new s.runningImage)

/-- The cause that refuses a live update with the staged image (Table 17-9), 12, 8, or 0, and the state after the image was judged. -/
def State.liveCause (s : State) : Nat × State :=
  let x := s.imageJudge (s.imageBank s.idleBank)
  (if x.1 ≠ 0 then 12 else if s.liveBarred then 8 else 0, x.2)

/-- The application core is reset (R739, R748, R565, R856): its Clasps, its messages, its grants, and the commands that it had accepted. -/
def State.appReset (s : State) : State :=
  let s1 := (s.claspsFree 2).dropGrants (fun g => g.master == 2)
  let s2 := if (s1.box 1).isSome then s1.emptyBox 1 else s1
  let s3 : State := { s2 with tmp := { s2.tmp with wdg1 := { loadedAt := s.now } } }
  s3.fence 0xFF 6 stRESET 0 (fun r => r.ring == 14) (fun _ => 0xF5)

/-- Whether the section of a type differs between two images. -/
def sectionDiffers (new old : List Byte) (typ : Nat) : Bool := (imgSection new typ).map Section.hash != (imgSection old typ).map Section.hash

/-- The record of a live update (R837): old and new generation, and the changed sections as a mask of their types (assumption 68). -/
def State.liveRecord (s : State) (new old : List Byte) : State :=
  s.firmwareRecord 0x4040 (leBytes 4 (imgGen old) ++ leBytes 4 (imgGen new) ++ leBytes 2 (maskOf ((List.range 14).filter (sectionDiffers new old))))

/-- The steps of R837 with the staged image. -/
def State.liveUpdate (s : State) : State :=
  let k := s.idleBank
  let b := s.imageBank k
  let app := imgBytes b 2
  let s1 := (imgRecords b 4).foldl (State.imageRecord true) s.appReset
  let s2 := s1.setBytes sharedLo app
  let n := { s2.nor with running := some k }
  let s3 := (State.set { s2 with nor := n, appFwBytes := (app.length + 4095) / 4096 * 4096 } Reg.SYS_IMG_GEN_GEN (imgGen b)).raiseFloor b
  s3.liveRecord b s.runningImage

/-- CFG_UPD_LIVE (R837): the security core sets CFG_UPD_CTL.LIVE. -/
def execCfgUpdLive (master : Nat) (s : State) : Host.Outcome State Fault Refusal :=
  .next (if master ≠ 1 then s.writeRefused master Reg.CFG_UPD_CTL_LIVE
  else
    let x := s.liveCause
    if x.1 ≠ 0 then x.2.updEnd Reg.CFG_UPD_CTL_LIVE x.1 else x.2.liveUpdate.updEnd Reg.CFG_UPD_CTL_LIVE 0)

/-- IMG_ACTIVATE (R835, R836): payload MODE. It begins the drain; on the ACTIVE of a pair mode 1 begins HANDOVER too. An unlisted MODE completes with cause 8. -/
def execImgActivate (s : State) : Host.Outcome State Fault Refusal :=
  .next (match s.imgCmd 0x81 with
    | none => s
    | some r =>
      let mode := r.num 0 1
      let x := s.imageJudge (s.imageBank s.idleBank)
      let bad (c : Nat) : State := x.2.complete r blkSYS stPOLICY c []
      if r.level < 3 then s.complete r blkSYS stPOLICY 0xF2 []
      else if s.nor.drain.isSome then s
      else if x.1 ≠ 0 then bad 12
      else if mode ≠ 1 ∧ s.liveBarred then bad 8
      else if mode ≠ 1 ∧ mode ≠ 2 then bad 8
      else if mode = 1 ∧ s.gov.rel.isSome then bad 9
      else if mode = 1 ∧ s.paired ∧ s.tsu.role = .active ∧ s.pairDegraded then bad 9
      else
        let t := x.2.startCmd r
        let u : State := { t with nor := { t.nor with drain := some { mode := mode, cmd := r.entry.seq, since := s.now } } }
        if mode = 1 ∧ s.paired ∧ s.tsu.role = .active ∧ s.tsu.handover.isNone then
          let v := u.set Reg.TSU_CTL_HANDOVER 1
          State.handoverTry { v with tsu := { v.tsu with handover := some s.now } }
        else u)

/-- Whether the drain has finished (R835). -/
def State.drained (s : State) : Bool :=
  s.glt.sess.isNone && s.vrd.pending.isEmpty && s.gov.ticket.isNone && (s.ring 44).isEmpty && s.lfa.seq.isNone && s.uwb.block.isNone && s.lkt.backlog.isEmpty &&
    s.jnl.open_.isEmpty && s.jnl.prog.isEmpty

/-- The drain ends without a reset: its command completes, and what waited goes on. -/
def State.drainEnd (s : State) (d : Drain) (cause : Nat) (data : List Byte) : State :=
  let t : State := { s with nor := { s.nor with drain := none } }
  let u := match t.runningSeq 15 d.cmd with
    | some r => t.complete r blkSYS (imgStatus cause) cause data
    | none => t
  u.releaseHeld

/-- DRAIN_COMPLETE (R835 to R837): mode 1 resets the device, mode 2 updates it. Mode 1 ends with cause 9 when its HANDOVER has not completed with OK, or while a ticket of the drain has
asserted a release. -/
def execDrainComplete (s : State) : Host.Outcome State Fault Refusal :=
  .next (match s.nor.drain with
    | none => s
    | some d =>
      if d.mode == 1 && (s.gov.rel.isSome || s.paired && s.tsu.role == .active) && s.tsu.handover.isNone then s.drainEnd d 9 []
      else if !s.drained then s
      else if d.mode = 1 then (if s.tsu.handover.isSome then s else s.deviceReset .S)
      else
        let t := s.liveUpdate
        t.drainEnd d 0 (leBytes 4 (imgGen t.runningImage)))

/-- DRAIN_TIMEOUT (R835): cause 10. -/
def execDrainTimeout (s : State) : Host.Outcome State Fault Refusal :=
  .next (match s.nor.drain with
    | some d => if s.since d.since 2000000 then s.drainEnd d 10 [] else s
    | none => s)

/-- IMG_STATUS (R833): SYS_BOOT, SYS_IMG_GEN, SYS_FLOOR, the generations and causes of the banks. -/
def execImgStatus (s : State) : Host.Outcome State Fault Refusal :=
  .next (match s.imgCmd 0x82 with
    | none => s
    | some r =>
      let reg (f : Field) : List Byte := leBytes 4 (s.readRegister f.addr 1)
      s.complete r blkSYS stOK 0 ([Reg.SYS_BOOT_CODE, Reg.SYS_IMG_GEN_GEN, Reg.SYS_FLOOR_FLOOR, Reg.CFG_BANK_GEN_A_GEN, Reg.CFG_BANK_GEN_B_GEN, Reg.CFG_BANK_STAT_CAUSE_A].flatMap reg))

/-! ## NOR jobs (R807 to R811) -/

/-- A vault bank has been written, or not: the Locket gets its selector, or the change is undone (R490). -/
def State.vaultUndo (s : State) (j : VaultJob) : State :=
  let t := s.takeBack j.undo
  let v : State := { t with key := { t.key with vaultJob := none } }
  (match j.cmd with | some c => v.failCmd blkKEY stNV 0 (10, c) | none => v).vaultNext j

/-- The bank that the newest change wrote has been read back. -/
def State.vaultBanked (s : State) (data : List Byte) (ok : Bool) : State :=
  match s.key.vaultJob with
  | none => s
  | some j =>
    if (sha256 data).take 24 ≠ j.hash then s
    else if j.selecting then s
    else if ok then State.lktSubmit { s with key := { s.key with vaultJob := some { j with selecting := true } } } .vaultSelector (s.vaultSelectorItems j.gen j.bank j.hash [])
    else s.vaultUndo j

/-- The Locket has settled the selector (R490). -/
def State.vaultSettled (s : State) (ok : Bool) : State :=
  match s.key.vaultJob with
  | none => s
  | some j =>
    if !ok then s.vaultUndo j
    else
      let t : State := { s with key := { s.key with vaultJob := none, vaultGen := j.gen } }
      (match j.cmd with | some c => t.failCmd blkKEY stOK 0 (10, c) | none => t).vaultNext j

/-- An image bank has been written, or not. -/
def State.imageBanked (s : State) (j : NorJob) (bank : Nat) (ok : Bool) : State :=
  if s.pwr.phase = .recovery then
    if ok then ((s.recovEnd 0).set Reg.SYS_BOOT_RECOVERY 1).bootImage else s.recovEnd 11
  else
    let t := s.updEnd Reg.CFG_UPD_CTL_STAGE (if ok then 0 else 11)
    match j.cmd.bind (fun c => t.runningSeq 15 c) with
    | some r => t.complete r blkSYS (if ok then stOK else stNV) (if ok then 0 else 11) (if ok then leBytes 1 bank ++ leBytes 4 (imgGen j.data) else [])
    | none => t

/-- NOR_JOB_COMPLETE (R810): the job that runs has passed its read-back compare (`fault` 0), or has failed it (1), an erase (2) or a program (3); the next one starts. -/
def execNorJobComplete (fault : Fin 4) (s : State) : Host.Outcome State Fault Refusal :=
  .next (match s.nor.jobs with
    | [] => s
    | j :: rest =>
      let ok := fault.val == 0
      let s1 : State := if ok then { s with nor := s.nor.put j.area j.data } else s.norCut j
      let s2 := if ok then s1 else s1.bump (if fault.val = 1 then Reg.CFG_ERR_READBACK else if fault.val = 2 then Reg.CFG_ERR_ERASE else Reg.CFG_ERR_PROGRAM)
      let s3 : State := { s2 with nor := { s2.nor with jobs := rest, ended := s2.nor.ended + 1 } }
      match j.area with
      | .image b => s3.imageBanked j b ok
      | .cred _ => s3.learnBanked j.data ok
      | .vault _ => s3.vaultBanked j.data ok
      | .setCopy => s3)

/-- CFG_ERR_CLR (R839). -/
def execCfgErrClr (master : Nat) (s : State) : Host.Outcome State Fault Refusal :=
  .next (s.clearBy master Reg.CFG_ERR_CLR_CLR [Reg.CFG_ERR_READBACK, Reg.CFG_ERR_ERASE, Reg.CFG_ERR_PROGRAM])

/-- SYS_BUSFAULT_CLR (R853). -/
def execSysBusfaultClr (master : Nat) (s : State) : Host.Outcome State Fault Refusal :=
  .next (s.clearBy master Reg.SYS_BUSFAULT_CLR_CLR [Reg.SYS_BUSFAULT_ADDR_ADDR, Reg.SYS_BUSFAULT_INFO_MASTER, Reg.SYS_BUSFAULT_INFO_KIND, Reg.SYS_BUSFAULT_INFO_WRITE,
    Reg.SYS_BUSFAULT_INFO_OVERRUN, Reg.SYS_BUSFAULT_INFO_COUNT])

end Sys2Proof.Machine
end

