-- ==== Sys2Proof/Machine/Power.lean ====
section
/-! DEFINITION. Meanings of the commands of power, reset, clocks, Capo, sleep and the supply dip (chapter 03), with the pins of chapter 02 that reset the device. -/
namespace Sys2Proof.Machine

/-! ## Supply (R93, R95, R137, R154, R156, R862) -/

/-- COLD_POWER_UP (R137): VSUP, or VIO with `vio`, rises through its threshold. The stages begin when both are there and neither reset pin is low. -/
def execColdPowerUp (vio : Bool) (s : State) : Host.Outcome State Fault Refusal :=
  let t : State := if vio then { s with pins := { s.pins with vio := true }, lfa := { s.lfa with duty := if s.pins.vio then s.lfa.duty else [] } }
    else { s with pins := { s.pins with vsup := true }, pwr := { s.pwr with holdupOut := false, aonUp := true }, hft := if s.pwr.aonUp then s.hft else s.hft.aonRises }
  .next (if t.pwr.phase = .off ∧ t.pins.vsup ∧ t.pins.vio then
    if t.pins.resetLow || t.pins.pairRstLow then
      { t with pwr := { t.pwr with phase := .held 0, wakeFrom := 0, causes := t.pwr.causes ||| (if t.pins.resetLow then 4 else 0) ||| (if t.pins.pairRstLow then 64 else 0) } }
    else { t with pwr := { t.pwr with phase := .stage 0, wakeFrom := 0, stageAt := s.now }, pins := { t.pins with bootStat := some 0 } }
  else t)

/-- AON_POWER_LOSS (R156): class A. -/
def execAonPowerLoss (s : State) : Host.Outcome State Fault Refusal :=
  let t := s.deviceReset .A
  .next { t with pins := { t.pins with vsup := false, holdupReady := false } }

/-- BROWNOUT (R154, R93): VSUP below the reset level, class B; `vmin` is the lowest VSUP of a dip that ends so, in 10 mV. -/
def execBrownout (vmin : Nat) (s : State) : Host.Outcome State Fault Refusal :=
  .next (if !s.pins.vsup then s
  else
    let t := State.deviceReset { s with pwr := { s.pwr with dipMin := min s.pwr.dipMin vmin } } .B
    { t with pins := { t.pins with vsup := false } })

/-- HOLDUP_EXHAUSTED (R93, R95): VHOLD below 4.0 V: the commit engine stops, and hold-up is not ready. -/
def execHoldupExhausted (s : State) : Host.Outcome State Fault Refusal :=
  .next (if s.pins.vsup then s else { s with pwr := { s.pwr with holdupOut := true }, pins := { s.pins with holdupReady := false } })

/-- HOLDUP_READY_CHANGE (R95). -/
def execHoldupReadyChange (ready : Bool) (s : State) : Host.Outcome State Fault Refusal := .next { s with pins := { s.pins with holdupReady := ready } }

/-- VIO_UNDERVOLTAGE (R862, Table 18-2): in run the MAIN outputs float and HIF ignores frames; the FAULT record has kind 5. Without a field the HF domain loses its registers (chapter
14). -/
def execVioUndervoltage (s : State) : Host.Outcome State Fault Refusal :=
  let v : State := { s with pins := { s.pins with vio := false } }
  let t : State := if s.hft.field then v else v.dropBlockFields blkHFT
  .next (if !s.mainUp || s.pwr.vioLow then t
  else
    let u : State := { t with pins := t.pins.floating, pwr := { t.pwr with vioLow := true } }
    ((u.set Reg.TMP_FAULT_LAST_KIND 5).set Reg.TMP_FAULT_LAST_BLOCK 0x1F).faultRecord 5 0xFF 0 0 0 0 (u.reg Reg.TMP_FENCE_DISCARDED) 0)

/-- VIO_RESTORED (R862, R198): VIO has been back for 1 ms. An asserted release drives its outputs again; without an image they stay at high
impedance (R818). -/
def execVioRestored (s : State) : Host.Outcome State Fault Refusal :=
  .next (if s.pins.vio then s
  else
    let on := s.gov.rel.isSome
    let p := if s.mainUp && s.pwr.phase != .noImage then { s.pins with vio := true, relA := some on, relBn := some (!on) } else { s.pins with vio := true }
    { s with pins := p, pwr := { s.pwr with vioLow := false }, lfa := { s.lfa with duty := [] } })

/-! ## Reset pins and commands (R68, R69, R78, R79, R867) -/

/-- The stages begin once no reset pin holds the device. -/
def State.holdEnds (s : State) : State :=
  match s.pwr.phase with
  | .held n =>
    if s.pins.resetLow || s.pins.pairRstLow then s
    else { s with pwr := { s.pwr with phase := .stage n, stageAt := s.now }, pins := { s.pins with bootStat := some 0 } }
  | _ => s

/-- RESET_N_ASSERT (R78, R867): class P whenever AON has supply, held while the pin stays low. -/
def execResetNAssert (s : State) : Host.Outcome State Fault Refusal :=
  let t : State := { s with pins := { s.pins with resetLow := true } }
  .next (if s.aonLive then t.deviceReset .P else t)

/-- RESET_N_RELEASE (R867). -/
def execResetNRelease (s : State) : Host.Outcome State Fault Refusal := .next (State.holdEnds { s with pins := { s.pins with resetLow := false } })

/-- PARTNER_RESET (R68, R867): class X, unless this device drives the pin itself. -/
def execPartnerReset (s : State) : Host.Outcome State Fault Refusal :=
  let t : State := { s with pins := { s.pins with pairRstLow := true } }
  .next (if s.now < s.tsu.resetDriveUntil then s else if s.aonLive then t.deviceReset .X else t)

/-- PARTNER_RESET_RELEASE (R867). -/
def execPartnerResetRelease (s : State) : Host.Outcome State Fault Refusal := .next (State.holdEnds { s with pins := { s.pins with pairRstLow := false } })

/-- WP_N_CHANGE (R69): a write that still waits for room is refused when it is settled. -/
def execWpNChange (low : Bool) (s : State) : Host.Outcome State Fault Refusal := .next { s with pins := { s.pins with wpLow := low } }

/-- SOFTWARE_SYSTEM_RESET (R156): the security core writes 0xA5; any other value or master is ignored; a master without write access to PWR ends in a
policy error (R25). -/
def execSoftwareSystemReset (master : Nat) (key : BitVec 8) (s : State) : Host.Outcome State Fault Refusal :=
  .next (if !s.mayWriteField master Reg.PWR_RST_REQ_KEY then s.writeRefused master Reg.PWR_RST_REQ_KEY
  else if master = 1 ∧ key = 0xA5 ∧ s.mainUp then s.deviceReset .S else s)

/-! ## Power-up stages (R136 to R142) -/

/-- Whether the oscillator stage ends at once: the 38.4 MHz oscillator runs on from the detuning ping that woke the device (R139). -/
def State.oscillatorRuns (s : State) : Bool := decide (0 < s.pwr.wakeFrom) && s.reg Reg.PWR_WAKE_SRC_SOURCE == 1

/-- POWER_UP_STAGE: the running stage asserts its ready signal. The oscillator stage ends at once after a detuning wake (R139). The memory stage mounts the Locket; as the logic stage
completes RECOV_N and, after a reset, PAIR_ID are taken, and the boot begins. `recordOk`: the resume record reads without an uncorrectable error (R135). -/
def execPowerUpStage (recordOk recovLow secondary : Bool) (s : State) : Host.Outcome State Fault Refusal :=
  let go (t : State) (n : Nat) : State := { t with pwr := { t.pwr with phase := .stage n, stageAt := s.now } }
  .next (match s.pwr.phase with
    | .stage n =>
      if n = 2 then go s.mountAll 3
      else if n = 0 ∧ s.oscillatorRuns then go s 2
      else if n < 2 then go s (n + 1)
      else
        let u := if s.pwr.wakeFrom = 0 then { s.tsu with secondary := secondary } else s.tsu
        State.powerUp { s with pins := { s.pins with recovLow := recovLow }, tsu := u } recordOk
    | _ => s)

/-- The bounds of Table 03-5, µs. -/
def stageBound (n : Nat) (wake : Bool) : Nat := (if wake then [350, 450, 200, 50] else [2000, 2000, 12000, 1000]).getD n 0

/-- BOOT_FAULT (R141, R775): the running stage has exceeded its bound. -/
def execBootFault (s : State) : Host.Outcome State Fault Refusal :=
  .next (match s.pwr.phase with
    | .stage n =>
      if s.now ≤ s.pwr.stageAt + stageBound n s.secureKept then s
      else
        let t : State := { s with pwr := { s.pwr with phase := .bootFault (n + 1), stageAt := s.now }, pins := { s.pins.floating with bootStat := some (n + 1) } }
        (t.driveArb false).set Reg.PWR_BOOT_FAULT_STAGE (n + 1)
    | _ => s)

/-- BOOT_FAULT_BLINK (R141): every 250 ms ± 10 %. -/
def execBootFaultBlink (s : State) : Host.Outcome State Fault Refusal :=
  .next (match s.pwr.phase with
    | .bootFault c =>
      if s.since s.pwr.stageAt 225000 then
        { s with pwr := { s.pwr with stageAt := s.now }, pins := { s.pins with bootStat := some (if s.pins.bootStat = some 0 then c else 0) } }
      else s
    | _ => s)

/-! ## Performance levels, droop, Capo (R98 to R111) -/

/-- The level to be granted (R100, R146). -/
def State.levelTarget (s : State) : Nat := max (s.reg Reg.CLK_PERF_LEVEL) (max s.pwr.levelCap (if s.pwr.dip then 3 else 0))

/-- LEVEL_CHANGE (R101): upward VCORE moves first, downward the clock. -/
def execLevelChange (s : State) : Host.Outcome State Fault Refusal :=
  let l := s.levelTarget
  .next (if s.pwr.busy || l == s.pwr.granted || !s.mainUp then s
  else if l < s.pwr.granted then { s with pwr := { s.pwr with granted := l, busy := true, vcoreLevel := l } }
  else { s with pwr := { s.pwr with granted := l, busy := true, clkLevel := l } })

/-- LEVEL_CHANGE_DONE (R102): a LEVEL written meanwhile takes effect. -/
def execLevelChangeDone (s : State) : Host.Outcome State Fault Refusal :=
  .next (if !s.pwr.busy then s
  else
    let t : State := { s with pwr := { s.pwr with busy := false, clkLevel := s.pwr.granted, vcoreLevel := s.pwr.granted, nextLevel := none } }
    match s.pwr.nextLevel with | some l => t.set Reg.CLK_PERF_LEVEL l | none => t)

/-- DROOP_BEGIN (R103, R105). -/
def execDroopBegin (s : State) : Host.Outcome State Fault Refusal :=
  .next (if s.pwr.droop || !s.mainUp then s else (State.bump { s with pwr := { s.pwr with droop := true } } Reg.CLK_DROOP_COUNT).raise 181)

/-- DROOP_END (R104). -/
def execDroopEnd (s : State) : Host.Outcome State Fault Refusal := .next { s with pwr := { s.pwr with droop := false } }

/-- A step down of Capo (R107). -/
def State.capoDown (s : State) : State :=
  let due : Bool := match s.pwr.stepDownAt with | some t => s.since t 10000 | none => true
  if !due then s
  else if 1 < s.pwr.lfCap then State.raise { s with pwr := { s.pwr with lfCap := s.pwr.lfCap - 1, stepDownAt := some s.now } } 183
  else if s.pwr.levelCap < 3 then State.raise { s with pwr := { s.pwr with levelCap := s.pwr.levelCap + 1, stepDownAt := some s.now } } 183
  else s

/-- The thermal stop (R110): it begins at 155 °C and ends at 145 °C; LF and UWB stop. -/
def State.thermalStop (s : State) : State :=
  let record (t : State) (e : Nat) : State := t.journal blkCLK 0x0011 (leBytes 1 t.pwr.tj ++ leBytes 1 e)
  if !s.pwr.thermal && decide (219 ≤ s.pwr.tj) then
    let t := record (State.raise { s with pwr := { s.pwr with thermal := true } } 183) 0
    State.uwbCut ((t.lfaStop 6).gltAbort true) 7 (fun _ => true)
  else if s.pwr.thermal && decide (s.pwr.tj ≤ 209) then
    let t := record { s with pwr := { s.pwr with thermal := false } } 1
    if t.lfAllowed then t.gltResume else t
  else s

/-- CAPO_SAMPLE (R106, R107, R110): Tj + 64 °C and the power in mW, as read; the estimate is the mean of the readings of the last 10 ms, one each 1 ms (rounded down, assumption 7). -/
def execCapoSample (tj : BitVec 8) (mw : BitVec 12) (s : State) : Host.Outcome State Fault Refusal :=
  .next (if !s.mainUp then s
  else
    let lim := s.reg Reg.CLK_CAPO_CFG_TJ_LIMIT + 64
    let pwr := s.reg Reg.CLK_CAPO_CFG_PWR_LIMIT
    let log := (mw.toNat :: s.pwr.powerLog).take 10
    let est := log.sum / log.length
    let hot := decide (lim ≤ tj.toNat) || decide (pwr ≤ est)
    let cool := decide (tj.toNat + s.reg Reg.CLK_CAPO_CFG_HYST ≤ lim) && decide (est + 200 ≤ pwr)
    let t : State := { s with pwr := { s.pwr with tj := tj.toNat, powerLog := log, powerEst := est, coolSince := if cool then some (s.pwr.coolSince.getD s.now) else none } }
    (if hot then t.capoDown else t).thermalStop)

/-- CAPO_STEP_UP (R108): after 100 ms below both limits, in the reverse order. -/
def execCapoStepUp (s : State) : Host.Outcome State Fault Refusal :=
  .next (match s.pwr.coolSince with
    | none => s
    | some t =>
      if !s.since t 100000 then s
      else if 0 < s.pwr.levelCap then State.raise { s with pwr := { s.pwr with levelCap := s.pwr.levelCap - 1, coolSince := some s.now } } 183
      else if s.pwr.lfCap < 4 then State.raise { s with pwr := { s.pwr with lfCap := s.pwr.lfCap + 1, coolSince := some s.now } } 183
      else s)

/-! ## Sleep (R112 to R130, R798 to R800) -/

/-- WAKE_EVENT (R114, R115): a wake source other than those whose own commands wake the device. Tamper wakes only when the response in force to a detection held calls for more than a
record (R846). -/
def execWakeEvent (src : Fin 9) (index : Fin 16) (s : State) : Host.Outcome State Fault Refusal :=
  .next (if src.val = 7 ∧ s.tmp.held.all (fun h => s.tmpResp h.sensor == 0) then s else s.wake src index)

/-- The standard order of blocks (Table 03-4), position by position; the SRAM of position 2 and the cores of position 7 are no numbered blocks. -/
def standardOrder : List (List Nat) := [[2], [3, 4, 5], [18, 17, 15, 16, 14, 13], [10, 11, 12], [20, 26, 22, 23, 24, 25, 29], [9]]

/-- The blocks that a commit stops, in the order in which it stops them: the reverse of the standard order (R122). -/
def stoppedBlocks : List Nat := standardOrder.reverse.flatten

/-- What counts as done by each block: what raises it has been a cause of refusal, with the block and its cause (R121, R123). Commands placed in Q_0 to Q_15, sessions, UWB exchanges by
the sequence of Q_41, tickets by that of Q_44, Locket commits, journal records, field entries and field writes, Signets by the sequence of Q_45, NOR jobs, mirror items. -/
def State.sleepMarks (s : State) : List (Nat × Nat × Nat) :=
  [(blkQUE, 1, ((List.range 16).map s.seqOf).sum), (blkGLT, 2, s.reg Reg.GLT_SESS_NUM_NUMBER), (blkUWB, 2, s.seqOf 41), (blkGOV, 3, s.seqOf 44), (blkAEA, 7, s.reg Reg.AEA_STAT_OPS + s.reg Reg.AEA_ERR_ABORTED),
   (blkPKE, 7, s.reg Reg.PKE_OPS_OPS), (blkHSH, 7, s.reg Reg.HSH_BLOCKS_BLOCKS), (blkRNG, 7, s.crypto.rng.requests + s.reg Reg.RNG_RESEEDS_COUNT), (blkLKT, 5, s.lkt.nextSeq + (s.lkt.rings.map (fun r => r.passes * 2 ^ 12 + r.head)).sum), (blkJNL, 4, s.jnl.next + s.jnl.q46Seq),
   (blkHFT, 8, s.reg Reg.HFT_COUNT_ENTRIES + s.reg Reg.HFT_COUNT_WRITES), (blkCAN, 10, s.seqOf 45), (blkTSU, 9, s.tsu.mseqNext), (blkCFG, 6, s.nor.ended)]

/-- A refusal cause that has arisen since the marks were taken, though it may have ended again: its block and cause. -/
def State.sleepArisen (s : State) : Option (Nat × Nat) := (s.sleepMarks.find? (fun m => !s.pwr.marks.contains m)).map (fun m => (m.1, m.2.1))

/-- What each block answers now: the refusals, with their block numbers. Table 03-3 names no blocks: which block answers with which cause, and that PWR, GLT, LKT and HFT, which lie
outside MAIN and UWB, answer too, is the model's choice (DESIGN CHOICE, assumption 93). `self`: a SLEEP_REQ that does not count against itself. `pair`: TSU's answer for the partner. -/
def State.sleepRefusals (s : State) (target : Nat) (self : Option Running) (pair : Bool) : List (Nat × Nat) :=
  let open_ := s.que.running.filter (fun r => some (r.ring, r.entry.seq) != self.map (fun x => (x.ring, x.entry.seq)))
  let queued := (List.range 16).any (fun q => !(s.ring q).isEmpty)
  let aea := [s.crypto.aea0.op, s.crypto.aea0.susp, s.crypto.aea1.op, s.crypto.aea1.susp].any Option.isSome || !s.crypto.aeaWait.isEmpty
  let keys := s.key.slots.any (fun p => p.2.state == .draining) || s.key.genWaits.isSome
  let j := s.jnl
  let ifs (c : Bool) (b k : Nat) : List (Nat × Nat) := if c then [(b, k)] else []
  ifs (target < 1 || 4 < target) blkPWR 13 ++ ifs s.pwr.dip blkPWR 12 ++ ifs (s.pwr.disturbed == some 11) blkPWR 11 ++ ifs (queued || !open_.isEmpty) blkQUE 1 ++ ifs s.glt.sess.isSome blkGLT 2 ++
    ifs (s.uwb.block.isSome || !s.uwb.waiting.isEmpty) blkUWB 2 ++ ifs ((s.ring 44).any (fun e => decide (s.timebase ≤ ticketExpiry e.payload)) || s.gov.ticket.isSome || s.gov.rel.isSome) blkGOV 3 ++
    ifs keys blkKEY 7 ++ ifs aea blkAEA 7 ++ ifs s.crypto.pke.isSome blkPKE 7 ++ ifs (!s.crypto.hsh.isEmpty) blkHSH 7 ++ ifs s.crypto.rng.raw.isSome blkRNG 7 ++
    ifs (!s.lkt.backlog.isEmpty || !s.lkt.writes.isEmpty) blkLKT 5 ++
    ifs (!j.q46.isEmpty || !j.q7.isEmpty || !j.open_.isEmpty || j.reading.isSome) blkJNL 4 ++ ifs (!j.prog.isEmpty) blkJNL 6 ++
    ifs (s.hft.waits != .none || !s.hft.stalls.isEmpty) blkHFT 8 ++
    ifs (!s.can.c0.signets.isEmpty || !s.can.c0.txq.isEmpty) blkCAN 10 ++ ifs (!s.can.c1.signets.isEmpty || !s.can.c1.txq.isEmpty) (blkCAN + 1) 10 ++
    ifs (!s.tsu.items.isEmpty || pair) blkTSU 9 ++ ifs (!s.nor.jobs.isEmpty) blkCFG 6

/-- Whether TSU refuses for the partner (R798): on the ACTIVE of a pair, until the STANDBY has reported its commit accepted. -/
def State.partnerAwake (s : State) : Bool :=
  s.paired && s.tsu.role == .active && !(match s.tsu.sleepAnswer with | some a => a.1 | none => false)

/-- SLEEP_STAT after a query or a commit. -/
def State.sleepOutcome (s : State) (outcome block cause : Nat) : State :=
  ((s.set Reg.PWR_SLEEP_STAT_OUTCOME outcome).set Reg.PWR_SLEEP_STAT_REFUSER block).set Reg.PWR_SLEEP_STAT_CAUSE cause

/-- A query begins (R119): JNL programs its open records (R622), and the ACTIVE of a pair sends SLEEP with the target state once its mirror rings are empty (R798). -/
def State.sleepAsk (s : State) : State :=
  let t := State.startProgram { s with pwr := { s.pwr with querying := true, disturbed := none } }
  if t.partnerAwake && t.tsu.link == .up && t.tsu.items.isEmpty then
    State.tsuSendSeq { t with tsu := { t.tsu with sleepAnswer := none } } 0x40 0 [0, BitVec.ofNat 8 (s.reg Reg.PWR_SLEEP_CTL_TARGET)]
  else t

/-- A core writes PWR_SLEEP_CTL.TARGET, which takes 1 to 4 alone (R118, R875). -/
def State.putTarget (s : State) (v : Nat) : State := if Reg.PWR_SLEEP_CTL_TARGET.accepts v then s.set Reg.PWR_SLEEP_CTL_TARGET v else s

/-- The answers of a query (R119, R120). -/
def State.sleepAnswers (s : State) (self : Option Running) : State :=
  let t := State.set { s with pwr := { s.pwr with querying := false, marks := s.sleepMarks } } Reg.PWR_SLEEP_CTL_QUERY 0
  match (s.sleepRefusals (s.reg Reg.PWR_SLEEP_CTL_TARGET) self s.partnerAwake).head? with
  | none => t.sleepOutcome 1 0 0
  | some p => t.sleepOutcome 2 p.1 p.2

/-- SLEEP_QUERY (R118, R119): a core sets QUERY. -/
def execSleepQuery (master : Nat) (s : State) : Host.Outcome State Fault Refusal :=
  .next (if !s.mayWriteField master Reg.PWR_SLEEP_CTL_QUERY then s.writeRefused master Reg.PWR_SLEEP_CTL_QUERY
  else if (master = 1 ∨ master = 2) ∧ s.pwr.phase = .run ∧ !s.pwr.querying then (s.sleepAsk).set Reg.PWR_SLEEP_CTL_QUERY 1 else s)

/-- SLEEP_QUERY_RESULT (R119). -/
def execSleepQueryResult (s : State) : Host.Outcome State Fault Refusal :=
  .next (if s.pwr.querying then s.sleepAnswers none else s)

/-- SLEEP_REQ (R118, Q_0): the firmware asks for the target; the entry itself is no refusal. The commit stays with the cores. -/
def execSleepReq (s : State) : Host.Outcome State Fault Refusal :=
  .next (match s.running 0 2 with
    | none => s
    | some r =>
      let t := (((s.putTarget (r.num 0 1)).sleepAsk).sleepAnswers (some r))
      t.complete r blkSYS stOK 0 (leBytes 1 (t.reg Reg.PWR_SLEEP_STAT_OUTCOME) ++ leBytes 1 (t.reg Reg.PWR_SLEEP_STAT_REFUSER) ++ leBytes 1 (t.reg Reg.PWR_SLEEP_STAT_CAUSE)))

/-- The state that a commit enters: S3 in the storage regime and from the count of idle days on (R127, R130). -/
def State.sleepTarget (s : State) : Nat × Bool :=
  if s.flag Reg.PWR_IDLE_STAT_STORAGE || decide (s.reg Reg.PWR_IDLE_CFG_DAYS ≤ s.reg Reg.PWR_IDLE_STAT_DAYS_ELAPSED) then (3, true) else (s.reg Reg.PWR_SLEEP_CTL_TARGET, false)

/-- An accepted commit to state n (R122): the cores halt, the blocks stop, and the entry runs; COMMIT reads 1 until it ends. -/
def State.sleepEnterTo (s : State) (n : Nat) : State :=
  let t := s.set Reg.PWR_SLEEP_CTL_COMMIT 1
  { t with pwr := { t.pwr with phase := .entering n, disturbed := none, storing := s.sleepTarget.2, marks := s.sleepMarks }, fences := { t.fences with stopped := stoppedBlocks } }

/-- An accepted commit. -/
def State.sleepEnter (s : State) : State := s.sleepEnterTo s.sleepTarget.1

/-- SLEEP_COMMIT (R121): accepted while OUTCOME is ready and nothing has arisen since the query; else refused with cause 12 in a dip, 11 otherwise. REFUSER then names PWR, for R121
names no block (DESIGN CHOICE, assumption 93). -/
def execSleepCommit (master : Nat) (s : State) : Host.Outcome State Fault Refusal :=
  .next (if !s.mayWriteField master Reg.PWR_SLEEP_CTL_COMMIT then s.writeRefused master Reg.PWR_SLEEP_CTL_COMMIT
  else if (master ≠ 1 ∧ master ≠ 2) ∨ s.pwr.phase ≠ .run then s
  else if s.pwr.dip || s.pwr.disturbed == some 12 then s.sleepOutcome 2 blkPWR 12
  else if s.reg Reg.PWR_SLEEP_STAT_OUTCOME ≠ 1 ∨ s.pwr.disturbed.isSome ∨ s.sleepArisen.isSome ∨ !(s.sleepRefusals (s.reg Reg.PWR_SLEEP_CTL_TARGET) none s.partnerAwake).isEmpty then s.sleepOutcome 2 blkPWR 11
  else s.sleepEnter)

/-- SLEEP_ENTRY_COMPLETE (R123, R125): a refusal that has arisen since the commit rolls it back, though its cause may have ended since. S3 entered for its idle days sets STORAGE, also where the count was reached on the way into S1 or S2 (R127). -/
def execSleepEntryComplete (s : State) : Host.Outcome State Fault Refusal :=
  .next (match s.pwr.phase with
    | .entering n =>
      match s.sleepRefusals n none s.partnerAwake ++ s.sleepArisen.toList with
      | p :: _ => s.sleepRollback p.1 p.2
      | [] =>
        if s.pwr.storing then (s.enterSleep n).set Reg.PWR_IDLE_STAT_STORAGE 1
        else if n ≤ 2 ∧ s.sleepTarget.2 then (s.enterSleep 3).set Reg.PWR_IDLE_STAT_STORAGE 1
        else s.enterSleep n
    | _ => s)

/-- CONTROL_SLEEP (R798): the STANDBY runs its own query and commit for the target that the ACTIVE names, and answers: kind 1, accepted, block, cause. -/
def execControlSleep (frame : List Byte) (s : State) : Host.Outcome State Fault Refusal :=
  .next (match s.frameIn 0x40 frame with
    | (none, _) => s
    | (some f, t) =>
      if f.num 0 1 ≠ 0 then s
      else if !t.isStandby || t.pwr.phase != .run then t
      else
        let u := ((t.putTarget (f.num 1 1)).sleepAnswers none)
        let c := u.reg Reg.PWR_SLEEP_STAT_CAUSE
        if u.reg Reg.PWR_SLEEP_STAT_OUTCOME = 1 then (u.tsuSendSeq 0x40 0 [1, 1, 0, 0]).sleepEnter
        else u.tsuSendSeq 0x40 0 ([1, 0] ++ leBytes 1 (u.reg Reg.PWR_SLEEP_STAT_REFUSER) ++ leBytes 1 c))

/-- SLEEP_ANSWER (R798): what the STANDBY answered. -/
def execSleepAnswer (frame : List Byte) (s : State) : Host.Outcome State Fault Refusal :=
  .next (match s.frameIn 0x40 frame with
    | (none, _) => s
    | (some f, t) =>
      if f.num 0 1 ≠ 1 then s
      else if t.isStandby then t
      else { t with tsu := { t.tsu with sleepAnswer := some (f.num 1 1 == 1, f.num 2 1, f.num 3 1) } })

/-- DAY_TICK (R126, R127): a whole day has passed. At the count of idle days S1 and S2 become S3. -/
def execDayTick (s : State) : Host.Outcome State Fault Refusal :=
  .next (if !s.since s.pwr.dayAt 86400000000 then s
  else
    let t := State.bump { s with pwr := { s.pwr with dayAt := s.now } } Reg.PWR_IDLE_STAT_DAYS_ELAPSED
    if (s.sleeping = 1 ∨ s.sleeping = 2) ∧ t.reg Reg.PWR_IDLE_CFG_DAYS ≤ t.reg Reg.PWR_IDLE_STAT_DAYS_ELAPSED then
      let u := (t.set Reg.PWR_SLEEP_STAT_ENTERED 3).set Reg.PWR_IDLE_STAT_STORAGE 1
      State.quietLf { u with pwr := { u.pwr with phase := .sleep 3, wakeFrom := 3, s3Held := true } }
    else t)

/-- STORAGE_LISTEN_TIMEOUT (R129, R304): no accepted telegram in 10 s ± 0.1 s after a touch or UHF wake in S3: back to S3. -/
def execStorageListenTimeout (s : State) : Host.Outcome State Fault Refusal :=
  .next (match s.pwr.listenSince with
    | none => s
    | some t => if s.since t 9900000 ∧ s.pwr.phase = .run then s.sleepEnterTo 3 else s)

/-! ## The supply dip (R145 to R155) -/

/-- What a dip stops in run (R147 to R149, R123). An entry into sleep is broken off, PWR being the block named (DESIGN CHOICE, assumption 93). -/
def State.dipStops (s : State) : State :=
  let t := (State.uwbCut ((s.lfaStop 6).gltAbort false) 7 (fun _ => true)).vrdDip
  match t.pwr.phase with
  | .entering _ => t.sleepRollback blkPWR 12
  | _ => { t with pwr := { t.pwr with disturbed := some 12 } }

/-- DIP_BEGIN (R145, R152): VSUP, in 10 mV, below the warning level. A fall during a dip continues it. -/
def execDipBegin (vsup : Nat) (s : State) : Host.Outcome State Fault Refusal :=
  .next (if s.pwr.dip then { s with pwr := { s.pwr with dipRise := none, dipMin := min s.pwr.dipMin vsup } }
  else if s.pwr.phase = .off ∨ s.sleeping = 4 then s
  else
    let t := State.bump { s with pwr := { s.pwr with dip := true, dipAt := s.now, dipMin := vsup, dipSessions := 0, dipRise := none } } Reg.PWR_SUPPLY_STAT_DIP_COUNT
    if s.mainUp then (t.raise 180).dipStops else { t with glt := { t.glt with sniff := none } })

/-- DIP_RECOVERY_RISE (R152): VSUP rises above the recovery level; `vmin`: the lowest VSUP seen until then. -/
def execDipRecoveryRise (vmin : Nat) (s : State) : Host.Outcome State Fault Refusal :=
  .next (if s.pwr.dip then { s with pwr := { s.pwr with dipRise := some s.now, dipMin := min s.pwr.dipMin vmin } } else s)

/-- DIP_END (R152, R153): 200 µs ± 20 µs after the last rise. In sleep the record waits for the next wake. -/
def execDipEnd (s : State) : Host.Outcome State Fault Refusal :=
  .next (match s.pwr.dip, s.pwr.dipRise with
    | true, some t =>
      if !s.since t 180 then s
      else
        let d := (s.pwr.dipMin, min 0xFFFFFFFF (s.now - s.pwr.dipAt), min 255 s.pwr.dipSessions, 0)
        let u : State := { s with pwr := { s.pwr with dip := false, dipRise := none } }
        if s.mainUp then
          let v := (u.raise 180).dipRecord d
          if v.lfAllowed then v.gltResume else v
        else { u with pwr := { u.pwr with dipOwed := u.pwr.dipOwed ++ [d] } }
    | _, _ => s)

end Sys2Proof.Machine
end

