-- ==== Sys2Proof/Machine/Accept.lean ====
section
/-! DEFINITION. The Locket settles its waiting writes and their writers proceed (R571 to R573, R603, R781). -/
namespace Sys2Proof.Machine

/-- The first group that a write writes; 0 for a ring. -/
def LktWrite.firstGroup (x : LktWrite) : Nat := match x.items with | .group g _ :: _ => g | _ => 0

/-- Whether a write clears the tamper page (R845). -/
def LktWrite.clears (x : LktWrite) : Bool := x.items.all (fun i => match i with | .group _ d => d == 0 | .ring _ _ => false)

/-- A Q_6 LKT_WRITE has been settled (Table 12-10). -/
def State.q6Settled (s : State) (seq : Nat) (x : LktWrite) : State :=
  match s.runningSeq 6 seq with
  | none => s
  | some r =>
    match x.state with
    | .refused c => s.completeAfter r blkLKT stNV c 0 []
    | .degraded => s.completeAfter r blkLKT stDEGRADED 8 0 []
    | _ => s.completeAfter r blkLKT stOK 0 (r.waited + (s.now - x.at_)) []

/-- A ring update of the security core has been settled (R597). -/
def State.ringSettled (s : State) (x : LktWrite) : State :=
  let st := match x.state with | .refused _ => stNV | .degraded => stDEGRADED | _ => if s.now = x.at_ then stOK else stDELAYED
  (s.set Reg.LKT_RING_CTL_GO 0).set Reg.LKT_RING_CTL_STATUS st

/-- A WRITE frame's page write has been settled (R712). -/
def State.eepromSettled (s : State) (x : LktWrite) : State :=
  let t : State := { s with hif := { s.hif with wip := false } }
  match x.state with
  | .refused _ => (t.set Reg.HIF_EE_ERR 1).set Reg.HIF_STAT_LAST_STATUS stNV
  | .degraded => t.set Reg.HIF_STAT_LAST_STATUS stDEGRADED
  | _ => t.set Reg.HIF_STAT_LAST_STATUS (if s.now = x.at_ then stOK else stDELAYED)

/-- The slots whose zeroize marks a write carries. -/
def LktWrite.marks (x : LktWrite) (n : Nat) : Bool := x.items.any (fun i => match i with | .group g d => g == 0x1EC + n / 64 && d.testBit (n % 64) | .ring _ _ => false)

/-- Zeroize marks have been settled (R491): accepted, AON holds them no longer; a worn store has CFG erase both vault banks. -/
def State.marksSettled (s : State) (x : LktWrite) : State :=
  if x.state.ok then { s with key := { s.key with aonMarks := s.key.aonMarks.filter (fun n => !x.marks n) } }
  else if x.state = .refused 6 then { s with nor := { s.nor with vaultA := [], vaultB := [] } }
  else s

/-- The writer of a settled write proceeds. -/
def State.writerProceeds (s : State) (x : LktWrite) : State :=
  match x.writer with
  | .bus m => s.busSettled m x.state.ok (lktBase + 8 * x.firstGroup)
  | .eeprom => s.eepromSettled x
  | .q6 seq => s.q6Settled seq x
  | .ringCtl => s.ringSettled x
  | .selector => s.learnSettled x
  | .vaultSelector => s.vaultSettled x.state.ok
  | .anchor => s.authCounted x
  | .overlay => s.authSettled x.state.ok (fun w t => t.putRecord w)
  | .regionTable => s.authSettled x.state.ok (fun w t => t.putRecord w)
  | .tagKey => s.authSettled x.state.ok (fun w t => t.putRecord w)
  | .tamperPage => if x.clears then s.authSettled x.state.ok (fun _ t => t.tamperUnlock) else s
  | .zeroMark => s.marksSettled x
  | .field => s.fmWriteDone x true
  | .mirror m => s.mirrorSettled m x
  | .invoc => s.invocSettled x
  | .grantCounter => s
  | .telegram => s

/-- Writers whose own rows settle their writes: the governor's and the button path's. -/
def Writer.ownRow : Writer → Bool
  | .grantCounter => true
  | .telegram => true
  | _ => false

/-- LOCKET_ACCEPT (R571 to R573, R69, R781): the oldest waiting write that can go on is placed when room has come, accepted, or refused; its writer proceeds. -/
def execLocketAccept (s : State) : Host.Outcome State Fault Refusal :=
  .next (match s.lkt.writes.find? (fun x => !x.writer.ownRow && (x.state != .waiting || (s.settleWrite x).2 != x)) with
    | none => s
    | some x =>
      let p := s.settleWrite x
      if p.2.state = .waiting then { p.1 with lkt := { p.1.lkt with writes := p.1.lkt.writes.map (fun y => if y == x then p.2 else y) } }
      else State.writerProceeds { p.1 with lkt := { p.1.lkt with writes := p.1.lkt.writes.erase x } } p.2)

end Sys2Proof.Machine
end

