-- ==== Sys2Proof/Machine/Gov.lean ====
section
/-! DEFINITION. Meanings of the commands of GOV and CAN (chapter 09). -/
namespace Sys2Proof.Machine

/-- TICKET_TAKE (R414 to R416): the oldest ticket of Q_44 when GOV works on none and no HANDOVER has stopped ticket taking (R780). -/
def execTicketTake (s : State) : Host.Outcome State Fault Refusal :=
  .next (match s.gov.ticket, s.ring 44 with
    | none, e :: rest =>
      if s.tsu.handover.isSome || s.fences.inReset.contains blkGOV then s
      else
        let p := e.payload
        let s1 := s.setRing 44 rest
        match s1.ticketOutcome p with
        | some o => s1.ticketDone p o.1 o.2 0 false
        | none =>
          let g := s1.ringValue 1 + 1
          State.lktSubmit { s1 with gov := { s1.gov with ticket := some { payload := p, grant := g } } } .grantCounter (s1.grantItems (ticketType p == 2) g)
    | _, _ => s)

/-- GRANT_COUNTER_ACCEPTED (R416, R417): the Locket has settled step 1; GOV forms the nonce and has AEA seal the Signet. A refusal is order 8; a Signet slot or nonce that KEY
refuses once the counter is consumed ends the ticket with KEY's own status and cause 8, 9 or 11. -/
def execGrantCounterAccepted (s : State) : Host.Outcome State Fault Refusal :=
  .next (match s.gov.ticket with
    | some t =>
      if t.phase ≠ .counter then s
      else match s.settle .grantCounter with
      | (none, s1) => s1
      | (some w, s1) =>
        let p := s1.nonceWaits
        if !w.state.ok then s1.ticketEnd t stNV 8 0
        else if p.1 then { p.2 with lkt := { p.2.lkt with writes := p.2.lkt.writes ++ [w] } }
        else
          let s1 := p.2
          let u : GovTicket := { t with degraded := w.state == .degraded, phase := .seal }
          let old := if ticketType t.payload = 2 then s1.gov.restarted.filter (· != s1.histTime 5) else s1.gov.restarted
          let s2 : State := { s1 with gov := { s1.gov with restarted := old } }
          let close (x : State) : State := if ticketType t.payload = 2 then x.histClose else x
          let n := s2.deviceNonce
          if n.1 ≠ 0 then close (n.2.2.ticketEnd u (causeStatus n.1) (if n.1 = 13 then 8 else if n.1 = 10 then 9 else 11) t.grant)
          else
            let k := n.2.2.useSlot s2.signetSlot useSEAL [0, 1] 2
            if k.1 ≠ 0 then close (k.2.ticketEnd u (causeStatus k.1) (if k.1 = 13 then 8 else if k.1 = 10 then 9 else 11) t.grant)
            else
              let s3 : State := { k.2 with gov := { k.2.gov with ticket := some { u with nonce := n.2.1 } } }
              let o : AeaOp := { cls := .safety, slot := s2.signetSlot, ring := ringGov, cmd := ticketNumber t.payload, isOpen := false, out := none, nonce := n.2.1, dest := 0 }
              s3.aeaRequest o
    | none => s)

/-- SIGNET_SEALED (R416 step 3): in one step the release is asserted, for START, and the Signet request made. A slot that was zeroized meanwhile is order 11. -/
def execSignetSealed (s : State) : Host.Outcome State Fault Refusal :=
  .next (match s.gov.ticket with
    | some t =>
      if t.phase ≠ .seal then s
      else match s.engineOf ringGov (ticketNumber t.payload) with
      | none =>
        if s.crypto.aeaWait.any (fun o => o.ring == ringGov) then s
        else
          let x := s.ticketEnd t stZEROIZE 11 t.grant
          if ticketType t.payload = 2 then x.histClose else x
      | some e =>
        let key := (s.slotRaw s.signetSlot).key
        let frame := s.signetBytes t key t.nonce
        let s1 := s.engineDone e
        let s2 := if ticketType t.payload = 2 then s1.releaseAssert t.grant else s1
        (s2.sendSignet t frame).ticketEnd t stOK 0 t.grant
    | none => s)

/-- ENG_RUN_CHANGE (R80, R421): the filtered level. -/
def execEngRunChange (high : Bool) (s : State) : Host.Outcome State Fault Refusal :=
  let s1 : State := { s with pins := { s.pins with engRun := high } }
  .next (match s1.gov.rel with
    | none => s1
    | some r =>
      let r1 := if high then { r with running := true, lowSince := none } else if r.lowSince.isSome then r else { r with lowSince := some s.now }
      { s1 with gov := { s1.gov with rel := some r1 } })

/-- START_BTN_ASSERT (R80, R383): the filtered level; its assertion latches a START trigger. -/
def execStartBtnAssert (level : Bool) (s : State) : Host.Outcome State Fault Refusal :=
  let s1 : State := { s with pins := { s.pins with startBtn := level } }
  .next (if level && !s.pins.startBtn then s1.startTrigger else s1)

/-- START_WAIT_EXPIRY (R422, reason 1): START_WAIT seconds after assertion, at the earliest 100 ms before. -/
def execStartWaitExpiry (s : State) : Host.Outcome State Fault Refusal :=
  .next (match s.gov.rel with
    | some r => if !r.running && decide (r.assertedAt + 1000000 * s.reg Reg.GOV_REL_CFG_START_WAIT ≤ s.now + 100000) then s.releaseEnd 1 else s
    | none => s)

/-- RUN_DROP_EXPIRY (R422, reason 2). -/
def execRunDropExpiry (s : State) : Host.Outcome State Fault Refusal :=
  .next (match s.gov.rel with
    | some r => match r.lowSince with
      | some t => if r.running && decide (t + 10000 * s.reg Reg.GOV_REL_CFG_RUN_DROP ≤ s.now + 1000) then s.releaseEnd 2 else s
      | none => s
    | none => s)

/-- OUTPUT_READBACK (R423): the levels read at REL_A and REL_B_N. Each third mismatch in a row sets OUT_FAULT, raises E_143 and ends a release, also one that has been asserted since
OUT_FAULT was set. -/
def execOutputReadback (a b : Bool) (s : State) : Host.Outcome State Fault Refusal :=
  .next (match s.pins.relA, s.pins.relBn with
    | some x, some y =>
      if x = a ∧ y = b then { s with gov := { s.gov with mismatch := 0 } }
      else
        if s.gov.mismatch < 2 then { s with gov := { s.gov with mismatch := s.gov.mismatch + 1 } }
        else ((State.set { s with gov := { s.gov with mismatch := 0 } } Reg.GOV_STAT_OUT_FAULT 1).raise 143).releaseEnd 3
    | _, _ => s)

/-- SIGNET_TRANSMITTED (R434, R435, R446): the copy at the head of a controller's Signets. -/
def execSignetTransmitted (c : Fin 2) (s : State) : Host.Outcome State Fault Refusal :=
  let x := s.canCtl c
  .next (match x.signets.find? Signet.queued with
    | some g =>
      if !s.canOn c || s.regI Reg.CAN_CTRL_FD c == 0 then s
      else
        let mark (l : List Signet) := l.map (fun y => if y.grant == g.grant then { y with told := true } else y)
        let l := if g.left = 0 then x.signets.erase g
          else x.signets.map (fun y => if y == g then { y with queued := false, copy := g.copy + 1, left := g.left - 1, at_ := s.now } else y)
        let s1 := s.setCan c (CanCtl.sentOk { x with signets := l })
        let s2 : State := { s1 with can := { s1.can with c0 := { s1.can.c0 with signets := mark s1.can.c0.signets }, c1 := { s1.can.c1 with signets := mark s1.can.c1.signets },
                                                         sent := some (c.val, g.frame) } }
        if g.told then s2 else s2.raise 142
    | none => s)

/-- SIGNET_REPEAT (R434): 10 ms ± 1 ms after the copy before. -/
def execSignetRepeat (c : Fin 2) (s : State) : Host.Outcome State Fault Refusal :=
  let x := s.canCtl c
  .next (match x.signets.find? (fun g => !g.queued && s.since g.at_ 9000) with
    | some g => s.setCan c { x with signets := x.signets.map (fun y => if y == g then { y with queued := true, at_ := s.now } else y) }
    | none => s)

/-- SIGNET_ABANDON (R435): a copy not transmitted 50 ms after its request; the outputs stay. -/
def execSignetAbandon (c : Fin 2) (s : State) : Host.Outcome State Fault Refusal :=
  let x := s.canCtl c
  .next (match x.signets.find? (fun g => g.queued && s.since g.at_ 50000) with
    | some g =>
      let l := if g.left = 0 then x.signets.erase g
        else x.signets.map (fun y => if y == g then { y with queued := false, copy := g.copy + 1, left := g.left - 1, at_ := s.now } else y)
      (((s.setCan c { x with signets := l }).bump Reg.GOV_ERR_SIGNET).raise 143).journal blkGOV 0x0024
        (leBytes 4 g.grant ++ leBytes 1 g.kind ++ leBytes 1 c.val ++ leBytes 1 g.copy)
    | none => s)

/-- CAN_FRAME_RECEIVED (R438, R735): every CAN_RECV armed with a filter that the frame passes completes. `brs` of a classical frame, which has no BRS bit, is its RTR bit: a remote frame. -/
def execCanFrameReceived (c : Fin 2) (id : BitVec 29) (xtd fd brs : Bool) (data : List Byte) (s : State) : Host.Outcome State Fault Refusal :=
  .next (if !s.canOn c || (fd && s.regI Reg.CAN_CTRL_FD c == 0) then s
  else
    let d := s.draw 1
    let s1 := d.2.setCan c ((s.canCtl c).heardOk (ofLe d.1))
    let f : CanFrame := { id := id.toNat, xtd := xtd, fd := fd, brs := fd && brs, rtr := !fd && brs, data := if !fd && brs then [] else data.take 64 }
    let hit (r : Running) := r.ring == 12 && r.entry.code == 2 && r.started && r.num 0 1 == c.val && s.canPasses c (r.num 1 1) id.toNat
    (s1.que.running.filter hit).foldl (fun t r => t.canRecvDone r f) s1)

/-- CAN_BUS_OFF_RECOVERY (Table 09-6): after 128 × 11 recessive bits. -/
def execCanBusOffRecovery (c : Fin 2) (s : State) : Host.Outcome State Fault Refusal :=
  .next (if s.canState c = 2 then s.setCan c { s.canCtl c with busOff := false, tec := 0, rec_ := 0 } else s)

/-- CAN_SEND (Table 15-7, R734): controller, identifier, XTD, FD, BRS, length, then the data up to 32 bytes, or a source address. The frame waits in its controller. A
length that ISO 11898-1 has no code for is filled up with bytes that the manual does not give. -/
def execCanSend (s : State) : Host.Outcome State Fault Refusal :=
  .next (match s.que.running.find? (fun r => r.ring == 12 && r.entry.code == 1 && !r.started) with
    | none => s
    | some r =>
      let c := r.num 0 1
      let id := r.num 1 4
      let xtd := r.num 5 1 == 1
      let fd := r.num 6 1 == 1
      let n := r.num 8 1
      let src := r.num 9 4
      let bad := decide (1 < c) || decide (64 < n) || (!fd && decide (8 < n)) || (fd && s.regI Reg.CAN_CTRL_FD c == 0) ||
        decide ((if xtd then 2 ^ 29 else 2 ^ 11) ≤ id) || s.signetId id xtd || (decide (32 < n) && !s.cryptoRange r.entry.master src n)
      if bad then s.complete r blkCAN stPOLICY 0 []
      else
        let d := s.draw (canLength n - n)
        let data := (if n ≤ 32 then r.sub 9 n else s.bytes src n) ++ d.1
        let f : CanFrame := { id := id, xtd := xtd, fd := fd, brs := fd && r.num 7 1 == 1 && s.regI Reg.CAN_CTRL_BRS c == 1, data := data }
        let t := d.2.startCmd r
        let x := t.canCtl c
        t.setCan c { x with txq := x.txq ++ [(r.entry.seq, f)] })

/-- CAN_FRAME_TRANSMITTED (R435, R732): the oldest frame of a controller in which no Signet waits; its CAN_SEND completes. -/
def execCanFrameTransmitted (c : Fin 2) (s : State) : Host.Outcome State Fault Refusal :=
  let x := s.canCtl c
  .next (match x.txq with
    | (q, f) :: rest =>
      if !s.canOn c || x.signets.any Signet.queued then s
      else
        let s1 := s.setCan c (CanCtl.sentOk { x with txq := rest })
        let s2 : State := { s1 with can := { s1.can with sent := some (c.val, f) } }
        match s2.runningSeq 12 q with
        | some r => s2.complete r blkCAN stOK 0 []
        | none => s2
    | [] => s)

/-- CAN_RECV (R735): arms a filter. -/
def execCanRecv (s : State) : Host.Outcome State Fault Refusal :=
  .next (match s.que.running.find? (fun r => r.ring == 12 && r.entry.code == 2 && !r.started) with
    | none => s
    | some r => if 1 < r.num 0 1 ∨ 15 < r.num 1 1 then s.complete r blkCAN stPOLICY 0 [] else s.startCmd r)

/-- CAN_STATUS (Table 15-7). -/
def execCanStatus (s : State) : Host.Outcome State Fault Refusal :=
  .next (s.withCmd 12 0x03 (fun r =>
    if 1 < r.num 0 1 then s.complete r blkCAN stPOLICY 0 [] else s.complete r blkCAN stOK 0 (s.regBytes Reg.CAN_STAT_STATE (r.num 0 1))))

/-- CAN_BUS_ERROR (ISO 11898-1): an error found while sending (`tx`) or receiving; `eight`: one of the errors that count 8. -/
def execCanBusError (c : Fin 2) (tx eight : Bool) (s : State) : Host.Outcome State Fault Refusal :=
  .next (if s.canOn c then s.setCan c ((s.canCtl c).error tx eight) else s)

end Sys2Proof.Machine
end

