-- ==== Sys2Proof/Machine/Verdict.lean ====
section
/-! DEFINITION. Meanings of the commands of LOC and VRD (chapter 08). -/
namespace Sys2Proof.Machine

/-- SOLVE_COMPLETE (R368, R373): the solve that has been due longest. -/
def execSolveComplete (s : State) : Host.Outcome State Fault Refusal :=
  .next (match s.loc.due with
    | [] => s
    | v :: rest => State.vrdPoll (State.solveOne { s with loc := { s.loc with due := rest } } v))

/-- TRIGGER_EXPIRY (R383): triggers that have stood 1,000 ms go. -/
def execTriggerExpiry (s : State) : Host.Outcome State Fault Refusal :=
  let keep (t : Option Trigger) : Option Trigger := if s.stands t then t else none
  .next { s with vrd := { s.vrd with start := keep s.vrd.start, entry := keep s.vrd.entry } }

/-- VRD_PROPOSE (R385): a core's write of VRD_PROPOSE with GO set, for the session in VRD_PROP_SESS. -/
def execVrdPropose (master : Nat) (typ : BitVec 3) (s : State) : Host.Outcome State Fault Refusal :=
  .next (if master = 1 ∨ master = 2 then (s.set Reg.VRD_PROPOSE_TYPE typ.toNat).propose typ.toNat (s.reg Reg.VRD_PROP_SESS_SESSION) none else if s.mayWriteField master Reg.VRD_PROPOSE_GO then s else s.writeRefused master Reg.VRD_PROPOSE_GO)

/-- PROPOSE (Table 08-9): type and session number. -/
def execPropose (s : State) : Host.Outcome State Fault Refusal :=
  .next (match s.que.running.find? (fun r => r.ring == 1 && r.entry.code == 2 && !r.started) with
    | some r => (s.startCmd r).propose (r.num 0 1) (r.num 1 4) (some r.entry.seq)
    | none => s)

/-- VERDICT_STATUS (Table 08-9). -/
def execVerdictStatus (s : State) : Host.Outcome State Fault Refusal :=
  .next (s.withCmd 1 3 (fun r =>
    s.complete r blkVRD stOK 0 (s.regBytes Reg.VRD_RESULT_TYPE 0 ++ s.regBytes Reg.VRD_RESULT_CRED_CRED 0 ++ s.regBytes Reg.VRD_TRIG_START 0)))

/-- VERDICT_DEADLINE (R389): the deadline of a pending ENTRY or START proposal. -/
def execVerdictDeadline (start : Bool) (s : State) : Host.Outcome State Fault Refusal := .next (s.judgeDeadline (if start then 2 else 1))

/-- DECISION (R389, R405, R406): VRD carries out the oldest decision that a decision point has given. -/
def execDecision (s : State) : Host.Outcome State Fault Refusal :=
  .next (match s.vrd.pending.findSome? (fun p => p.decided.map (fun d => (p, d))) with
    | some x => s.carryOut x.1 x.2
    | none => s)

end Sys2Proof.Machine
end

