-- ==== Sys2Proof/Machine/BlockOps.lean ====
section
/-! DEFINITION. Class L resets of single blocks and their fences (R159, R855 to R861): what each block had accepted ends, and how many such requests were no queue commands. -/
namespace Sys2Proof.Machine

/-- A block's requests that are no queue commands have ended: the state and their number. -/
abbrev Ended := State × Nat

/-! ## Front ends -/

/-- LFA: every sequence completes with cause 9 (R192); nothing is driven. The field limiter's own copies run on; a FREQ and seeding pings that wait go on waiting, and a bank stays held off. -/
def State.lfaReset (s : State) : Ended :=
  let n := s.lfa.waiting.length + ofBool s.lfa.seq.isSome
  let s1 := s.lfaStop 9
  let l := s1.lfa.waiting
  let s2 := l.foldl (fun t q => t.lfaComplete q 9) { s1 with lfa := { s1.lfa with waiting := [] } }
  let k : Lfa := { ceil := s2.lfa.ceil, duty := s2.lfa.duty, recorded := s2.lfa.recorded, sleepSkips := s2.lfa.sleepSkips, frets := s2.lfa.frets, carrier := s2.lfa.carrier
                   bankOff := s2.lfa.bankOff, seeds := s2.lfa.seeds, pingAt := s2.lfa.pingAt, touch := s2.lfa.touch, scanAt := s2.lfa.scanAt, ended := s2.lfa.ended, done := s2.lfa.done }
  (State.gltBoundary { s2 with lfa := k }, n)

/-- GLT: the open session ends with RESET_ABORT, cause 6; held telegrams and requests go. Its sequences stop as an aborted session's do. -/
def State.gltReset (s : State) : Ended :=
  let w := s.lfa.waiting.filter (fun q => q.issuer != 1)
  let r := s.lfa.seq.map (fun q => if q.issuer == 1 then { q with stop := true } else q)
  let s1 : State := { s with lfa := { s.lfa with waiting := w, seq := r, ended := [], done := [] }, lkt := { s.lkt with writes := s.lkt.writes.filter (fun x => x.writer != .telegram) } }
  let s2 := match s1.glt.sess with | some g => s1.gltComplete g stRESET 6 | none => s1
  let g := s2.glt
  let k : Glt := { uhf0 := g.uhf0, uhf1 := g.uhf1, sniff := g.sniff, sniffAt := g.sniffAt, lastTag := g.lastTag, late := g.late, staleFails := g.staleFails, restarted := g.restarted }
  ({ s2 with glt := k }, ofBool s.glt.sess.isSome)

/-- UHF: the receivers measure afresh. -/
def State.uhfReset (s : State) : Ended := ({ s with glt := { s.glt with uhf0 := {}, uhf1 := {}, sniff := none } }, 0)

/-- UWB: every block that waits or runs completes under Table 07-4, order 2 (R357); the keys held go. -/
def State.uwbReset (s : State) : Ended :=
  let t := s.uwbCut 8 (fun _ => true)
  ({ t with uwb := { pllLost := t.uwb.pllLost } }, s.uwb.waiting.length + ofBool s.uwb.block.isSome)

/-- LOC: a solve that is due is answered with RESET_ABORT and, Table 08-3 giving none for it, cause 0xF5 (R856), and E_129 (R411); the map store stands. -/
def State.locReset (s : State) : Ended :=
  let answer (v : Solve) : List Byte := (q43Payload v 0xF5 0 0 noFit 0 0 s.timebase).set 7 (BitVec.ofNat 8 stRESET)
  let l := s.loc.due
  (l.foldl (fun t v => (t.emit 43 blkLOC (answer v)).raise 129) { s with loc := { s.loc with due := [] } }, l.length)

/-! ## Decision, credentials, keys -/

/-- GOV: reason 4 for an asserted release, the ticket at hand and those that wait in Q_44. -/
def State.govBlockReset (s : State) : Ended :=
  let l := s.ring 44
  let s1 := s.govReset
  (l.foldl (fun t e => t.ticketDone e.payload stRESET 0xF5 0 false) (s1.setRing 44 []), l.length + ofBool s.gov.ticket.isSome)

/-- CRD: a learning ends with cause 12; session requests that it held go on. -/
def State.crdReset (s : State) : Ended :=
  let s := s.undoWrites (· == .selector)
  let w := s.lkt.writes.filter (fun x => x.writer != .selector)
  let s1 : State := { s with lkt := { s.lkt with writes := w } }
  match s.crd.learn with
  | none => (s, 0)
  | some l => match l.mack with
    | some m => (s1.learnMacked m stRESET, 1)
    | none => ((s1.learnEnd l stRESET 12 0).releaseHeld, 1)

/-- KEY: loads that wait end; the store itself stands. An AUTH command's window closes with its command. -/
def State.keyReset (s : State) : Ended :=
  let drop (p : Nat × Slot) : Nat × Slot := (p.1, if p.2.load.isSome then p.2.rest p.1 else p.2)
  let job := s.key.vaultJob.map (fun j => { j with cmd := none })
  let auth := match s.auth with | some a => (match a.source with | .queue _ => none | .hf => some a) | none => none
  ({ s with key := { s.key with slots := s.key.slots.map drop, vaultJob := job }, auth := auth }, 0)

/-- AEA: GOV's Signet and GLT's proof checks end as their own requests; RESET_ABORT is final for them (R859). -/
def State.aeaReset (s : State) : Ended :=
  let c := s.crypto
  let ops := [c.aea0.op, c.aea0.susp, c.aea1.op, c.aea1.susp].filterMap id ++ c.aeaWait
  let own := ops.filter (fun o => o.ring == ringGov || o.ring == ringGlt || o.ring == 8)
  let s1 : State := { s with crypto := { c with aea0 := {}, aea1 := {}, aeaWait := [], kat := c.kat.filter (· != blkAEA) } }
  let s2 := match s1.gov.ticket with
    | some t =>
      if own.any (fun o => o.ring == ringGov) then
        let x := s1.ticketEnd t stRESET 0xF5 t.grant
        if ticketType t.payload = 2 then x.histClose else x
      else s1
    | none => s1
  let check (t : State) (o : AeaOp) : State :=
    t.finishCheck o.cmd (fun u _ _ _ => ({ cause := 0xF5, cred := 0xFFFF }, u))
  let batch (t : State) (o : AeaOp) : State :=
    State.failCmd { t with jnl := { t.jnl with reading := none } } blkJNL stRESET 0xF5 (8, o.cmd)
  ((own.filter (fun o => o.ring == 8)).foldl batch ((own.filter (fun o => o.ring == ringGlt)).foldl check s2), own.length)

/-! ## Stores, links, the rest -/

/-- LKT: writes that the shadow does not hold yet are not made; grants and passwords go. -/
def State.lktReset (s : State) : Ended :=
  let fail (w : LktWrite) : LktWrite := if w.placed then w else { w with state := .refused 7 }
  let n := (s.lkt.writes.filter (fun w => !w.placed)).length
  let l := { s.lkt with writes := s.lkt.writes.map fail, grants := [], pw := [], flushed := [], flushLone := false,
                        backlog := s.lkt.backlog.filter (fun e => match e with | .index _ => false | _ => true) }
  ({ s with lkt := l }, n)

/-- JNL: it must mount again; what waits in Q_46 is assigned then. -/
def State.jnlReset (s : State) : Ended :=
  let c := s.crypto
  let mine (e : AeaEngine) : AeaEngine := { op := e.op.filter (fun o => o.ring != 8), susp := e.susp }
  (State.aeaPump { s with
    jnl := { s.jnl.afterReset .S with q46 := s.jnl.q46 }
    crypto := { c with aea0 := mine c.aea0, aea1 := mine c.aea1, aeaWait := c.aeaWait.filter (fun o => o.ring != 8), pke := c.pke.filter (fun o => o.ring != ringJnl) } }, 0)

/-- TSU: the link goes DOWN and trains again; the role and PAIR_ARB stand (R775). -/
def State.tsuReset (s : State) : Ended :=
  let n := s.tsu.items.length
  let t := s.linkDown (some s.now)
  ({ t with tsu := { t.tsu with handover := none, peerSess := none, bursts := [], crdRx := [], sent := [] } }, n)

/-- HIF: the host falls to PUBLIC (R451), its Clasps are freed (R748) and the messages held for it are discarded (R739). -/
def State.hifReset (s : State) : Ended :=
  let t := s.hostToPublic.claspsFree 3
  let u := [2, 3].foldl (fun x m => if (x.box m).isSome then x.emptyBox m else x) t
  ({ u with hif := {} }, 0)

/-- HFT: the tag is IDLE; a command of the field that waits is not answered. -/
def State.hftReset (s : State) : Ended :=
  let t := s.tagIdle.unstall
  ((if (t.box 6).isSome then t.emptyBox 6 else t), ofBool (s.hft.waits != .none))

/-- CAN controller c: its error counters and what it still had to send. -/
def State.canReset (s : State) (c : Nat) : Ended :=
  let x := s.canCtl c
  let l := x.txq
  let s1 := l.foldl (fun t p => match t.runningSeq 12 p.1 with | some r => t.complete r blkCAN stRESET 0xF5 [] | none => t) s
  (s1.setCan c {}, l.length + x.signets.length)

/-- CFG: the running NOR job is cut, the others are not made; their requesters learn that they failed. -/
def State.cfgReset (s : State) : Ended :=
  let l := s.nor.jobs
  let s1 : State := match l with | [] => s | j :: _ => s.norCut j
  let s2 : State := { s1 with nor := { s1.nor with jobs := [] } }
  let fail (t : State) (j : NorJob) : State :=
    match j.area with
    | .image _ => (match j.cmd.bind (fun c => t.runningSeq 15 c) with | some r => t.complete r blkSYS stRESET 0xF5 [] | none => t)
    | .cred _ => (match t.crd.learn with
      | some x => (match x.mack with
        | some m => t.learnMacked m stRESET
        | none => (t.learnEnd x stRESET 12 0).releaseHeld)
      | none => t)
    | .vault _ => (match t.key.vaultJob with
      | some v => State.vaultUndo (match v.cmd with | some c => t.failCmd blkKEY stRESET 0xF5 (10, c) | none => t) { v with cmd := none }
      | none => t)
    | .setCopy => t
  (l.foldl fail s2, l.length)

/-- QUE: the entries that still wait in Q_0 to Q_15 end too; every command taken ends at the fence. -/
def State.queReset (s : State) : Ended :=
  let wait (q : Nat) : List Running := (s.ring q).map (fun e => { ring := q, entry := e, level := 0, takenAt := s.now })
  let l := (List.range 16).flatMap wait
  let t := (List.range 16).foldl (fun u q => u.setRing q []) s
  (l.foldl (fun u r => u.complete r blkQUE stRESET 0xF5 []) t, l.length)

/-- RNG: it starts up again; an engine that runs meanwhile gets no masks and stalls (R515). -/
def State.rngReset (s : State) : State :=
  let running := ([s.crypto.aea0, s.crypto.aea1].filter (fun e => e.op.isSome)).length
  let stalls := if s.masksFlow then running else 0
  (List.range stalls).foldl (fun t _ => t.bump Reg.AEA_MASK_STALLS) { s with crypto := { s.crypto with rng := {}, kat := s.crypto.kat.filter (· != blkRNG) } }

/-- The operations that a class L reset of AEA ends, engine by engine, count in its registers as the reset leaves them (R549). -/
def State.aeaAborted (s t : State) : State :=
  let held (e : AeaEngine) := [e.op, e.susp].filterMap id
  (held s.crypto.aea1).foldl (fun u _ => u.bumpI Reg.AEA_ERR_ABORTED 1) ((held s.crypto.aea0).foldl (fun u _ => u.bumpI Reg.AEA_ERR_ABORTED 0) t)

/-- What block n had accepted besides queue commands ends, and its hidden state goes. -/
def State.blockEnds (s : State) (n : Nat) : Ended :=
  if n = 4 then ({ s with mbx := {} }, 0)
  else if n = 5 then s.queReset
  else if n = 6 then s.lfaReset
  else if n = 7 then s.gltReset
  else if n = 8 then s.uhfReset
  else if n = 9 then s.uwbReset
  else if n = 10 then s.locReset
  else if n = 11 then (s.vrdReset, s.vrd.pending.length)
  else if n = 12 then s.govBlockReset
  else if n = 13 then s.crdReset
  else if n = 14 then s.keyReset
  else if n = 15 then s.aeaReset
  else if n = 17 then ({ s with crypto := { s.crypto with hsh := [], kat := s.crypto.kat.filter (· != blkHSH) } }, 0)
  else if n = 18 then (s.rngReset, 0)
  else if n = 19 then s.lktReset
  else if n = 20 then s.jnlReset
  else if n = 21 then s.hftReset
  else if n = 22 then s.hifReset
  else if n = 23 then s.canReset 0
  else if n = 24 then s.canReset 1
  else if n = 25 then s.tsuReset
  else if n = 26 then s.cfgReset
  else (s, 0)

/-- Whether a running command is one that block n had accepted: the block that serves its code; QUE itself holds every command. Controllers of CAN by the command's own operand. -/
def heldBy (n : Nat) (r : Running) : Bool :=
  match cmdRow r.ring r.entry.code with
  | none => n == 5
  | some c => if c.block = 23 then n == 5 || n == 23 + r.num 0 1 % 2 else n == 5 || c.block == n

/-- The cause with which a command ends by RESET_ABORT: that of its function's own table, or 0xF5 (R856). -/
def resetCause (n : Nat) (r : Running) : Nat :=
  if n = 5 then 0xF5
  else if r.ring = 1 then 6
  else if r.ring = 2 then 9
  else if r.ring = 13 && n == 6 then 9
  else if r.ring = 4 || r.ring = 5 then 14
  else if r.ring = 13 && n == 18 then 14
  else if r.ring = 6 && r.entry.code == 5 then 7
  else if r.ring = 7 || r.ring = 8 then 8
  else if r.ring = 9 && r.entry.code == 1 then 12
  else 0xF5

/-- A class L reset of block n on account of a fault of kind `kind` (R159, R854 to R860): its requests end, its fields with class L return, its fence is raised, and it is inside the
reset until it returns (R858). -/
def State.blockReset (s : State) (n kind : Nat) : State :=
  if n = blkPKE then s.pkeReset kind
  else
    let e := s.blockEnds n
    let u := e.1.resetBlockFields n
    let t := (if n = blkAEA then s.aeaAborted u else u).fence n kind stRESET e.2 (heldBy n) (resetCause n)
    { t with fences := { t.fences with inReset := n :: t.fences.inReset.filter (· != n) } }

/-- UWB's power domain goes down while UWB_CTRL.EN is clear (R852, R856): its blocks end with POWER_ABORT, cause 7 of Table 07-4; a running scan has no cause of its own. The manual gives this
fence no KIND: it is free. -/
def State.uwbPowerDown (s : State) : State :=
  let n := s.uwb.waiting.length + ofBool s.uwb.block.isSome
  if n = 0 && s.uwb.scan.isNone && s.uwb.cal.isNone then s
  else
    let t := s.uwbCut 7 (fun _ => true)
    let d := State.draw { t with uwb := { pllLost := t.uwb.pllLost } } 1
    let f := d.2.fence blkUWB (ofLe d.1) stPOWER n (heldBy blkUWB) (fun _ => 0xF5)
    (f.set Reg.TMP_FAULT_LAST_KIND (s.reg Reg.TMP_FAULT_LAST_KIND)).set Reg.TMP_FAULT_LAST_BLOCK (s.reg Reg.TMP_FAULT_LAST_BLOCK)

end Sys2Proof.Machine
end

