-- ==== Sys2Proof/Machine/TmpOps.lean ====
section
/-! DEFINITION. Tamper detections, their responses and the watchdogs as operations (R840 to R851). -/
namespace Sys2Proof.Machine

/-! ## Tamper -/

/-- Number of set bits of a 16-bit pattern. -/
def bitCount (n : Nat) : Nat := ((List.range 16).filter (fun i => n.testBit i)).length

/-- Whether TMP watches a sensor now (R840, Table 18-1): its EN bit is set, AON is supplied, and the sensors of the run alone see nothing in sleep or without a supply. -/
def State.sensorActive (s : State) (k : Nat) : Bool :=
  bit (s.reg Reg.TMP_CTRL_EN) k && s.aonLive && (!(k == 2 || k == 3 || k == 4) || s.mainUp)

/-- STATE of a TAMPER record (R848): 5 on hold-up, 1 to 4 in sleep, else 0. -/
def State.tamperState (s : State) : Nat :=
  match s.pwr.phase with
  | .off => 5
  | .sleep n => n
  | _ => 0

/-- A ZERO response in sleep (R846): in S1 to S3 the retained store is cleared at once and its marks are held in AON; in S4 the marks alone. -/
def State.zeroAsleep (s : State) (n : Nat) : State :=
  let l := s.zeroizable
  let t := if n = 4 then s else l.foldl State.zeroizeStore s
  { t with key := { t.key with aonMarks := ((if n = 4 then List.range 248 ++ [255] else l) ++ t.key.aonMarks).eraseDups } }

/-- The response to the detections of one AON cycle in run (R842, R843): the union of the sensors' settings, and one record for each. -/
def State.tamperRespond (s : State) (l : List Held) : State :=
  let resp (f : Field) := l.any (fun h => s.regI f h.sensor == 1)
  let lockers := l.filter (fun h => s.regI Reg.TMP_RESP_LOCK h.sensor == 1)
  let s1 := if resp Reg.TMP_RESP_ZERO then s.zeroizeAll s.zeroizable else s
  let s2 := match lockers with
    | [] => s1
    | h :: _ => s1.tamperLock (maskOf (lockers.map Held.sensor)) h.time
  let s3 := l.foldl (fun t h => t.tamperRecord h.sensor (s.tmpResp h.sensor) h.state h.value h.time) s2
  if resp Reg.TMP_RESP_RST then { s3 with tmp := { s3.tmp with reset := some s.now } } else s3

/-- Detections of one AON cycle: sensor and VALUE (R840 to R842, R846, R847). One whose latch is set is counted; another sets its latch and raises E_188. Awake they are answered at once; in
sleep, on hold-up or while the device is held they wait in AON, and a sleep, and an entry into one, ends when a response calls for more than a record. -/
def State.tamperDetect (s : State) (hits : List (Nat × Nat)) : State :=
  let on := ((List.range 6).filterMap (fun k => hits.find? (fun h => h.1 == k))).filter (fun h => s.sensorActive h.1)
  let old := on.filter (fun h => bit (s.reg Reg.TMP_LATCH_LATCH) h.1)
  let new := on.filter (fun h => !bit (s.reg Reg.TMP_LATCH_LATCH) h.1)
  let s1 := old.foldl (fun t _ => t.bump Reg.TMP_STAT_REPEATS) s
  if new.isEmpty then s1
  else
    let s2 := (s1.set Reg.TMP_LATCH_LATCH (s1.reg Reg.TMP_LATCH_LATCH + maskOf (new.map (·.1)))).raise 188
    let l : List Held := new.map (fun h => { sensor := h.1, state := s.tamperState, value := if h.1 = 0 ∨ h.1 = 5 then h.2 else 0, time := s.timeForm })
    let wait : State := { s2 with tmp := { s2.tmp with held := s2.tmp.held ++ l } }
    match s.pwr.phase with
    | .sleep n =>
      let w := if l.any (fun h => s.regI Reg.TMP_RESP_ZERO h.sensor == 1) then wait.zeroAsleep n else wait
      match l.find? (fun h => s.tmpResp h.sensor != 0) with
      | some h => w.wake 7 h.sensor
      | none => w
    | .off | .held _ | .stage _ | .bootFault _ => wait
    | _ =>
      let r := s2.tamperRespond l
      match l.find? (fun h => s.tmpResp h.sensor != 0) with
      | some h => r.wake 7 h.sensor
      | none => r

/-- Whether the TAMPER records of a response have been accepted: none waits, and none has been lost (R843). -/
def State.tamperAccepted (s : State) : Bool :=
  !s.jnl.foreign_ && !s.jnl.noNand && s.reg Reg.JNL_LOST_COUNT == 0 && s.jnl.q46.all (fun r => r.typ != 0x60) && (s.jnl.open_ ++ s.jnl.prog).all (fun r => r.typ != 0x60)

/-! ## Watchdogs -/

/-- Replace a watchdog. -/
def State.setWdg (s : State) (c : Nat) (w : Wdg) : State := { s with tmp := if c = 0 then { s.tmp with wdg0 := w } else { s.tmp with wdg1 := w } }

/-- A watchdog expires (R851): class W. -/
def State.wdgExpire (s : State) (c : Nat) : State := s.faultReset 1 c

/-- A write of a value to TMP_WDG_KICK_c (R850). -/
def State.wdgKick (s : State) (c v : Nat) : State :=
  let w := s.wdg c
  if !s.wdgRuns c then s
  else if v = 0x5A && !w.primed then s.setWdg c { w with primed := true }
  else if v = 0xA5 && w.primed then s.setWdg c { loadedAt := s.now }
  else s.wdgExpire c

end Sys2Proof.Machine
end

