-- ==== Sys2Proof/Machine/Faults.lean ====
section
/-! DEFINITION. Meanings of the commands of faults, tamper and containment (chapter 18). -/
namespace Sys2Proof.Machine

/-- MESH_SCAN (R840): the pattern driven and the pattern read. A mismatch is counted; the third in a row detects, with the mismatched bits of that scan. -/
def execMeshScan (driven read : BitVec 16) (s : State) : Host.Outcome State Fault Refusal :=
  let n := bitCount (driven ^^^ read).toNat
  .next (if !s.sensorActive 0 then s
  else if n = 0 then { s with tmp := { s.tmp with meshRun := 0 } }
  else
    let t := s.bump Reg.TMP_STAT_MESH_ERR
    if s.tmp.meshRun < 2 then { t with tmp := { t.tmp with meshRun := s.tmp.meshRun + 1 } }
    else State.tamperDetect { t with tmp := { t.tmp with meshRun := 0 } } [(0, n)])

/-- TAMPER_DETECT (R841 to R848): the sensors that detect in one AON cycle, each with its VALUE. -/
def execTamperDetect (hits : List (Nat × BitVec 16)) (s : State) : Host.Outcome State Fault Refusal := .next (s.tamperDetect (hits.map (fun h => (h.1, h.2.toNat))))

/-- TAMPER_RESET (R843): class T once the records have been accepted, or 20 ms ± 1 ms after detection. -/
def execTamperReset (s : State) : Host.Outcome State Fault Refusal :=
  .next (match s.tmp.reset with
    | none => s
    | some t => if s.awake && (s.tamperAccepted || s.since t 19000) then s.deviceReset .T else s)

/-- WATCHDOG_KICK (R850): a master that may write TMP writes a value to TMP_WDG_KICK_c. -/
def execWatchdogKick (master : Nat) (c : Fin 2) (value : BitVec 8) (s : State) : Host.Outcome State Fault Refusal :=
  .next (if s.mayWriteField master Reg.TMP_WDG_KICK_KEY then s.wdgKick c value.toNat else s.writeRefused master Reg.TMP_WDG_KICK_KEY)

/-- WATCHDOG_WARNING (R851): 25 % of TIMEOUT is left. -/
def execWatchdogWarning (c : Fin 2) (s : State) : Host.Outcome State Fault Refusal :=
  let w := s.wdg c
  .next (if s.wdgRuns c && !w.warned && decide (3 * s.wdgLimit c ≤ 4 * (s.now - w.loadedAt)) then (s.setWdg c { w with warned := true }).raise 189 else s)

/-- WATCHDOG_EXPIRY (R851): the count has run out. -/
def execWatchdogExpiry (c : Fin 2) (s : State) : Host.Outcome State Fault Refusal :=
  .next (if s.wdgRuns c && s.since (s.wdg c).loadedAt (s.wdgLimit c) then s.wdgExpire c else s)

/-- BLOCK_RESET (R861): TMP_BLK_RST. Ignored from another master, without the key, for PWR, CLK, TMP, LKT, AON, and for an index that no block has; a master
without write access to TMP ends in a policy error (R25). -/
def execBlockReset (master : Nat) (block : Fin 32) (key : BitVec 8) (s : State) : Host.Outcome State Fault Refusal :=
  .next (if !s.mayWriteField master Reg.TMP_BLK_RST_BLOCK then s.writeRefused master Reg.TMP_BLK_RST_BLOCK
  else if s.awake ∧ master = 1 ∧ key = 0xC3 ∧ block.val < 31 ∧ !(List.contains [blkPWR, blkCLK, blkTMP, blkLKT, blkAON] block.val) then s.blockReset block.val 6 else s)

/-- BLOCK_RETURN (R858): the block leaves its reset within 10 µs. TSU trains again, and JNL mounts and an engine runs its known-answer test by commands of their own. -/
def execBlockReturn (block : Fin 32) (s : State) : Host.Outcome State Fault Refusal :=
  .next { s with fences := { s.fences with inReset := s.fences.inReset.filter (· != block.val) } }

/-- STALE_REPLY (R857): a reply of a block reaches its consumer with the epoch that it carries. -/
def execStaleReply (block : Fin 32) (epoch : Nat) (s : State) : Host.Outcome State Fault Refusal :=
  .next (if epoch < s.epoch block.val then s.bump Reg.TMP_FENCE_DISCARDED else s)

/-- SRAM_ECC_ERROR (R862, Table 18-2, kinds 2 and 3): an access of a master meets an uncorrectable error at an address, or (`keyStore`) one is found in the key slot store. In the shared
partition the access ends in a bus error that the bus-fault record does not show; in the security partition, the credential RAM and the key slot store the device resets. -/
def execSramEccError (master : Fin 8) (addr : Nat) (keyStore : Bool) (s : State) : Host.Outcome State Fault Refusal :=
  let sec := keyStore || decide (0x10000000 ≤ addr ∧ addr < sharedLo) || decide (0x20000000 ≤ addr ∧ addr < 0x20080000)
  .next (if !s.awake then s
  else if sec then s.faultReset 3 0xFF
  else if sharedLo ≤ addr ∧ addr < sharedHi then
    ((s.set Reg.TMP_FAULT_LAST_KIND 2).set Reg.TMP_FAULT_LAST_BLOCK 0xFF).faultRecord 2 0xFF master.val 0 addr 0 (s.reg Reg.TMP_FENCE_DISCARDED) 0
  else s)

/-- BLOCK_SELF_CHECK_FAIL (R862, kind 4): a block's internal RAM parity or self-check. -/
def execBlockSelfCheckFail (block : Fin 31) (s : State) : Host.Outcome State Fault Refusal :=
  .next (if s.awake then s.blockReset block.val 4 else s)

/-- IEEE_1149_1_LOCK (R23, R741, R748): the debug port is locked for field life; its Clasps are released. -/
def execIeee11491Lock (s : State) : Host.Outcome State Fault Refusal := .next { s.claspsFree 7 with jtagLocked := true }

end Sys2Proof.Machine
end

