-- ==== Sys2Proof/Machine/WriteOps.lean ====
section
/-! DEFINITION. Accesses of masters on the interconnect (R10, R14, R17 to R38, R852, R866, R873, R874): where an access goes, who may make it, and what a write of a register does. -/
namespace Sys2Proof.Machine

/-- The state that an outcome goes on with. -/
def goesOn (o : Host.Outcome State Fault Refusal) (s : State) : State :=
  match o with
  | .next t => t
  | _ => s

/-! ## The address map (Tables 01-1, 01-2, 01-4) -/

/-- The regions of Table 01-2. -/
inductive Region where
  | rom | secure | shared | retention | credential | locket | block (n : Nat)
  deriving DecidableEq, Repr

/-- The region of an address (R18). -/
def regionOf (a : Nat) : Option Region :=
  if a < 0x10000 then some .rom
  else if sramLo ≤ a ∧ a < sharedLo then some .secure
  else if sharedLo ≤ a ∧ a < sharedHi then some .shared
  else if retLo ≤ a ∧ a < retHi then some .retention
  else if crdBase ≤ a ∧ a < crdBase + 0x80000 then some .credential
  else if lktBase ≤ a ∧ a < lktBase + 0x8000 then some .locket
  else if 0x40000000 ≤ a ∧ a < 0x401F0000 then some (.block ((a - 0x40000000) / 0x10000))
  else none

/-- Blocks whose window the host may write where a field names a level (Table 01-1). -/
def hostWrites : List Nat := [1, 3, 4, 5, 19, 21, 22, 23, 24, 29]

/-- Whether a memory region serves a master (Table 01-4, R28, R873): the host outside the APP_FW load range; in recovery it writes the whole shared partition and reads none of it (R830). -/
def State.memServes (s : State) (m a : Nat) (r : Region) (write : Bool) : Bool :=
  if m = 7 ∧ s.jtagLocked then false
  else match r with
  | .rom => !write && (m == 1 || m == 7)
  | .secure => m == 1 || m == 6 || m == 7
  | .shared => m == 1 || m == 2 || m == 6 || m == 7 || (m == 3 && (if s.inRecovery then write else s.pwr.phase != .noImage && decide (sharedLo + s.appFwBytes ≤ a)))
  | .retention => m == 1 || m == 2 || m == 7
  | .credential => !write && m == 1
  | _ => false

/-- Whether a block's window serves a master: of the host, without an image and in recovery SYS alone is left (R818, R830). -/
def State.blockServes (s : State) (m n : Nat) (write : Bool) : Bool :=
  s.mayReadBlock m n && (m != 3 || ((!write || hostWrites.contains n || (n == 0 && s.inRecovery)) && ((!s.inRecovery && s.pwr.phase != .noImage) || n == 0)))

/-- Whether a block is off (R852): its domain is down, it is inside a class L reset, or a sleep commit or a rollback has stopped it. -/
def State.blockOff (s : State) (n : Nat) : Bool := (n == 9 && !s.flag Reg.UWB_CTRL_EN) || s.fences.inReset.contains n || s.fences.stopped.contains n

/-- Whether a memory region is stopped: an accepted sleep commit stops the SRAM (R122, R124, Table 03-4). -/
def State.sramOff (s : State) (r : Region) : Bool := (r == .secure || r == .shared) && (match s.pwr.phase with | .entering _ => true | _ => false)

/-! ## Register writes (R10, R11, R875, R29 to R32, R866) -/

/-- Fields whose write does more than store: what a write of v by master m to instance i does. -/
abbrev WriteAct := Nat × (State → Nat → Nat → Nat → State)

/-- Stored fields with an effect of their own. A write that their own rules do not take leaves them. -/
def storeActs : List WriteAct :=
  [(Reg.LFA_CARRIER_FREQ.id, fun s m _ v => goesOn (execLfaCarrierWrite m v s) s),
   (Reg.LFA_CTRL_EN.id, fun s m _ v => if v = 1 then goesOn (execLfaEnable m s) s else s.lfaDisable m),
   (Reg.LFA_CH_CFG_EN.id, fun s _ i v => if v = 0 then (s.setI Reg.LFA_CH_CFG_EN i 0).channelOff i else s.setI Reg.LFA_CH_CFG_EN i v),
   (Reg.CLK_PERF_LEVEL.id, fun s _ _ v => if s.pwr.busy then State.set { s with pwr := { s.pwr with nextLevel := some v } } Reg.CLK_PERF_LEVEL v else s.set Reg.CLK_PERF_LEVEL v),
   (Reg.GOV_LF_CEIL_CEIL.id, fun s _ i v => (s.setI Reg.GOV_LF_CEIL_CEIL i v).reloadCeiling i),
   (Reg.UWB_CTRL_EN.id, fun s _ _ v => if v = 0 ∧ s.flag Reg.UWB_CTRL_EN then (s.uwbPowerDown).set Reg.UWB_CTRL_EN 0 else s.set Reg.UWB_CTRL_EN v),
   (Reg.TSU_CTRL_EN.id, fun s _ _ v =>
     let t := s.set Reg.TSU_CTRL_EN v
     if v = 0 then t.linkDown none else if s.tsu.link = .down then { t with tsu := { t.tsu with link := .training } } else t),
   (Reg.TMP_WDG_CFG_EN.id, fun s _ i v =>
     if v = 1 ∧ s.regI Reg.TMP_WDG_CFG_EN i = 0 then (s.setI Reg.TMP_WDG_CFG_EN i 1).setWdg i { loadedAt := s.now } else s),
   (Reg.CLASP_OWNER.id, fun s m i v => s.claspWrite m i v)]

/-- Fields of codes WO, SC, W1C and W1S that act. Those that take their operands from the rest of their word find them stored. -/
def doActsA : List WriteAct :=
  [(Reg.PWR_SLEEP_CTL_QUERY.id, fun s m _ v => if v = 1 then goesOn (execSleepQuery m s) s else s),
   (Reg.PWR_SLEEP_CTL_COMMIT.id, fun s m _ v => if v = 1 then goesOn (execSleepCommit m s) s else s),
   (Reg.PWR_RST_REQ_KEY.id, fun s m _ v => goesOn (execSoftwareSystemReset m (BitVec.ofNat 8 v) s) s),
   (Reg.LFA_CTRL_STOP.id, fun s m _ v => if v = 1 then goesOn (execLfaStop m s) s else s),
   (Reg.GLT_SESS_CTL_OPEN.id, fun s m _ v => if v = 1 then goesOn (execGltOpen m (Fin.ofNat 16 (s.reg Reg.GLT_SESS_CTL_TEMPLATE)) s) s else s),
   (Reg.GLT_SESS_CTL_ABORT.id, fun s m _ v => if v = 1 then goesOn (execGltAbort m s) s else s),
   (Reg.GLT_ERR_CLR_CLR.id, fun s m _ v => if v = 1 then goesOn (execGltErrClr m s) s else s),
   (Reg.UWB_RANGE_CTL_REQ.id, fun s m _ v => if v = 1 then goesOn (execRangeReq m (BitVec.ofNat 16 (s.reg Reg.UWB_RANGE_CTL_HANDLE)) s) s else s),
   (Reg.UWB_ERR_CLR_CLR.id, fun s m _ v => if v = 1 then goesOn (execUwbErrClr m s) s else s),
   (Reg.VRD_PROPOSE_GO.id, fun s m _ v => if v = 1 then goesOn (execVrdPropose m (BitVec.ofNat 3 (s.reg Reg.VRD_PROPOSE_TYPE)) s) s else s)]

def doActsB : List WriteAct :=
  [(Reg.AEA_ERR_CLR_CLR.id, fun s m _ v => if v = 1 then goesOn (execAeaErrClr m s) s else s),
   (Reg.LKT_ERR_CLR_CLR.id, fun s m _ v => if v = 1 then goesOn (execLktErrClr m s) s else s),
   (Reg.LKT_UNLOCK_GO.id, fun s m _ v => if v = 1 then goesOn (execLktUnlockGo m s) s else s),
   (Reg.LKT_UNLOCK_RELOCK.id, fun s m _ v => if v = 1 then goesOn (execLktUnlockRelock m s) s else s),
   (Reg.LKT_PW_PW.id, fun s m i v =>
     let old := fit 16 (storeGet [] s.lkt.pw m)
     { s with lkt := { s.lkt with pw := storeSet [] s.lkt.pw m (old.take (4 * i) ++ leBytes 4 v ++ old.drop (4 * i + 4)) } }),
   (Reg.LKT_RING_SET_LO_LO.id, fun s _ _ v => { s with lkt := { s.lkt with ringSetLo := v } }),
   (Reg.LKT_RING_SET_HI_HI.id, fun s _ _ v => { s with lkt := { s.lkt with ringSetHi := v } }),
   (Reg.LKT_RING_CTL_GO.id, fun s m _ v => if v = 1 then goesOn (execRingUpdate m s) s else s),
   (Reg.JNL_ERR_CLR_CLR.id, fun s m _ v => if v = 1 then goesOn (execJnlErrClr m s) s else s),
   (Reg.JNL_SEAL_CTL_GO.id, fun s m _ v => if v = 1 then goesOn (execSealGo m s) s else s),
   (Reg.HFT_ERR_CLR_CLR.id, fun s m _ v => if v = 1 then goesOn (execHftErrClr m s) s else s),
   (Reg.HIF_ERR_CLR_CLR.id, fun s m _ v => if v = 1 then goesOn (execHifErrClr m s) s else s)]

def doActsC : List WriteAct :=
  [(Reg.QUE_ENQ_CTL_GO.id, fun s m _ v => if v = 1 then goesOn (execQueEnq m s) s else s),
   (Reg.QUE_DEQ_CTL_GO.id, fun s m _ v => if v = 1 then goesOn (execQueDeq m s) s else s),
   (Reg.MBX_TX_CTL_GO.id, fun s m _ v => if v = 1 then goesOn (execMailboxSend m s) s else s),
   (Reg.MBX_CLASP_REL_HOST.id, fun s m _ v => if v = 1 then goesOn (execClaspReleaseHost m s) s else s),
   (Reg.MBX_ACK_ACK.id, fun s m i v => if v = 1 then s.ackBox m i else s),
   (Reg.EVT_PEND_PEND.id, fun s m i v =>
     let keep : BitVec 192 := ~~~(BitVec.ofNat 192 (v * 2 ^ (32 * i)))
     if m = 1 then { s with evt := { s.evt with sec := s.evt.sec &&& keep } }
     else if m = 2 then { s with evt := { s.evt with app := s.evt.app &&& keep } }
     else if m = 3 then { s with evt := { s.evt with host := s.evt.host &&& keep } }
     else s),
   (Reg.TSU_CTL_HANDOVER.id, fun s m _ v => if v = 1 then goesOn (execHandoverReq m s) s else s),
   (Reg.TSU_CTL_RST_PARTNER.id, fun s m _ v => if v = 1 then goesOn (execRstPartner m s) s else s),
   (Reg.TSU_ERR_CLR_CLR.id, fun s m _ v => if v = 1 then goesOn (execTsuErrClr m s) s else s),
   (Reg.SYS_FW_READY_READY.id, fun s m _ v => if v = 1 then goesOn (execFwReady m s) s else s),
   (Reg.SYS_RECOV_GO.id, fun s m _ v => if v = 1 then goesOn (execRecoveryGo m s) s else s),
   (Reg.SYS_BUSFAULT_CLR_CLR.id, fun s m _ v => if v = 1 then goesOn (execSysBusfaultClr m s) s else s),
   (Reg.CFG_UPD_CTL_STAGE.id, fun s m _ v => if v = 1 then goesOn (execCfgUpdStage m s) s else s),
   (Reg.CFG_UPD_CTL_LIVE.id, fun s m _ v => if v = 1 then goesOn (execCfgUpdLive m s) s else s),
   (Reg.CFG_ERR_CLR_CLR.id, fun s m _ v => if v = 1 then goesOn (execCfgErrClr m s) s else s),
   (Reg.TMP_WDG_KICK_KEY.id, fun s m i v => goesOn (execWatchdogKick m (Fin.ofNat 2 i) (BitVec.ofNat 8 v) s) s)]

/-- Every action but the two that need a whole word: KEY_ZEROIZE and TMP_BLK_RST. -/
def doActs : List WriteAct := doActsA ++ doActsB ++ doActsC

/-- The action of a field in a list. -/
def actOf (l : List WriteAct) (f : Field) : Option (State → Nat → Nat → Nat → State) := (l.find? (fun a => a.1 == f.id)).map (·.2)

/-- Whether master m may write instance i of a field now, its lock apart; the host acknowledges MB_2 and MB_3 alone. -/
def State.writesField (s : State) (m : Nat) (f : Field) (i : Nat) : Bool := s.mayWriteField m f && (m != 3 || f.id != Reg.MBX_ACK_ACK.id || i == 2 || i == 3)

/-- A stored field takes its part of a word: RW always, RWL while its lock bit is clear, and only a value of its set (R10, R11, R875). -/
def State.storeField (m word : Nat) (s : State) (p : Field × Nat) : State :=
  let v := bits word p.1.lo p.1.width
  if !(p.1.acc == .rw || p.1.acc == .rwl) || !s.writesField m p.1 p.2 || (p.1.acc == .rwl && s.locked p.1 p.2) || !fieldTakes p.1 word then s
  else match actOf storeActs p.1 with
    | some act => act s m p.2 v
    | none => s.setB p.1 p.2 (if p.1.banked then m else 0) v

/-- A field that acts takes its part of a word: its own action; else W1C clears and W1S sets the bits written as 1. -/
def State.actField (m word : Nat) (s : State) (p : Field × Nat) : State :=
  let v := bits word p.1.lo p.1.width
  if p.1.acc == .rw || p.1.acc == .rwl || p.1.acc == .ro || !s.writesField m p.1 p.2 then s
  else match actOf doActs p.1 with
    | some act => act s m p.2 v
    | none =>
      if p.1.acc = .w1c then s.setI p.1 p.2 (s.regI p.1 p.2 - (s.regI p.1 p.2 &&& v))
      else if p.1.acc = .w1s then s.setI p.1 p.2 (s.regI p.1 p.2 ||| v)
      else s

/-- A word is written to the fields of a register: first those that store, then those that act. -/
def State.putWord (s : State) (m addr word : Nat) : State :=
  let l := fieldsAt Reg.all addr
  let t := l.foldl (State.actField m word) (l.foldl (State.storeField m word) s)
  if addr = Reg.KEY_ZEROIZE_SLOT.addr ∧ bit word 16 ∧ bits word 8 8 = 0x5A then goesOn (execKeyZeroizeAll m t) t
  else if addr = Reg.KEY_ZEROIZE_SLOT.addr then goesOn (execKeyZeroizeSlot m (BitVec.ofNat 8 (bits word 0 8)) (BitVec.ofNat 8 (bits word 8 8)) t) t
  else if addr = Reg.TMP_BLK_RST_BLOCK.addr then goesOn (execBlockReset m (Fin.ofNat 32 (bits word 0 5)) (BitVec.ofNat 8 (bits word 8 8)) t) t
  else t

/-- The named write that a word makes: the write at hand of the open window, when it names this register and the word agrees with it under its mask (R31, R32). -/
def State.namedWord (s : State) (m addr word : Nat) (f : Field) : Option AuthWrite := (s.namedWrite m f).filter (fun w => w.addr == addr && (word &&& w.mask) == (w.value &&& w.mask))

/-- Whether a field is written under R29 alone now: one that the window guards always (R866), or part of the protection set-up once its block is locked. -/
def State.guarded (s : State) (p : Field × Nat) : Bool := p.1.windowOnly || (p.1.prot && (p.1.acc != .rwl || s.locked p.1 p.2))

/-! ## Accesses -/

/-- An access ends in a bus error (R20, R25, R852): its status, the data read, the bus-fault record. -/
def State.busEnds (s : State) (kind m addr : Nat) (write : Bool) : Nat × Nat × State := (if kind = kindOff then stBLOCKOFF else stPOLICY, 0xDEAD0FF5, s.busFault kind m addr write)

/-- A write to a block window: status and state. The cores write descriptors 0 to 239 of the Fret RAM (R187). -/
def State.blockWrite (s : State) (m addr word n : Nat) : Nat × State :=
  let l := fieldsAt Reg.all addr
  let policy : Nat × State := (stPOLICY, s.busFault kindPolicy m addr true)
  if !s.blockServes m n true then policy
  else if s.blockOff n then (stBLOCKOFF, s.busFault kindOff m addr true)
  else if fretRam ≤ addr ∧ addr < fretRam + 4096 then
    if (m = 1 ∨ m = 2) ∧ addr < fretRam + 3840 then (stOK, s.setBytes addr (leBytes 4 word)) else policy
  else match l.find? (fun p => s.guarded p) with
  | some p => match s.namedWord m addr word p.1 with
    | some w => (stOK, (s.authMake w).authClose)
    | none => policy
  | none =>
    let w := l.filter (fun p => p.1.acc != .ro)
    if !w.isEmpty && w.all (fun p => !s.writesField m p.1 p.2) then policy else (stOK, s.putWord m addr word)

/-- A write of a master: its status (none: it is stalled under R687), and the state. -/
def State.busWrite (s : State) (m addr width value : Nat) : Option Nat × State :=
  let policy : Option Nat × State := (some stPOLICY, s.busFault kindPolicy m addr true)
  match regionOf addr with
  | none => (some stPOLICY, s.busFault kindDecode m addr true)
  | some .locket => if s.inRecovery || s.pwr.phase == .noImage then policy else s.windowWrite m addr width value
  | some (.block n) =>
    if width ≠ 32 ∨ addr % 4 ≠ 0 then policy
    else
      let p := s.blockWrite m addr (low 32 value) n
      (some p.1, p.2)
  | some r =>
    if !naturally addr width || !s.memServes m addr r true then policy
    else if s.sramOff r then (some stBLOCKOFF, s.busFault kindOff m addr true)
    else (some stOK, s.setBytes addr (leBytes (width / 8) value))

/-- A read of a master: its status, the data, and the state: a Clasp changes its owner by a read (R745). -/
def State.busRead (s : State) (m addr width : Nat) : Nat × Nat × State :=
  match regionOf addr with
  | none => s.busEnds kindDecode m addr false
  | some .locket => if s.inRecovery || s.pwr.phase == .noImage then s.busEnds kindPolicy m addr false else s.windowRead m addr width
  | some (.block n) =>
    if width ≠ 32 ∨ addr % 4 ≠ 0 ∨ !s.blockServes m n false then s.busEnds kindPolicy m addr false
    else if s.blockOff n then s.busEnds kindOff m addr false
    else if fretRam ≤ addr ∧ addr < fretRam + 4096 then (stOK, s.word addr 4, s)
    else match fieldInst Reg.CLASP_OWNER addr with
      | some k => (stOK, s.claspRead m k)
      | none => (stOK, s.readRegister addr m, s)
  | some r =>
    if !naturally addr width || !s.memServes m addr r false then s.busEnds kindPolicy m addr false
    else if s.sramOff r then s.busEnds kindOff m addr false
    else if r = .rom then (stOK, ofLe ((List.range (width / 8)).map (fun i => Config.romByte (addr + i))), s)
    else (stOK, s.word addr (width / 8), s)

/-- Whether a master makes bus accesses: 1, 2, 3, 5, 6, 7 (Table 01-3, R22), and a core only while it runs (R122). -/
def State.onBus (s : State) (m : Nat) : Bool := ((m == 1 || m == 2) && s.coresRun) || ((m == 3 || m == 5 || m == 6 || m == 7) && s.awake)

end Sys2Proof.Machine
end

