-- ==== Sys2Proof/Machine/Bus.lean ====
section
/-! DEFINITION. Meanings of the accesses of masters on the interconnect (chapters 00, 01, 18). -/
namespace Sys2Proof.Machine

/-- REGISTER_WRITE (R10, R11, R17, R25, R29, R36, R875): a master writes a word (or, in a memory region, a value of `width` bits) at an address. -/
def execRegisterWrite (master addr width value : Nat) (s : State) : Host.Outcome State Fault Refusal :=
  .next (if s.onBus master then (s.busWrite master addr width value).2 else s)

/-- UNMAPPED_ACCESS (R20): an access outside every range of Table 01-2. -/
def execUnmappedAccess (master addr : Nat) (write : Bool) (s : State) : Host.Outcome State Fault Refusal :=
  .next (if s.onBus master && (regionOf addr).isNone then s.busFault kindDecode master addr write else s)

/-- POLICY_ACCESS (R25, R560, R873, R874): an access that Table 01-4, the width rules or a region refuse. A write carries its value; one that is not refused does nothing here. -/
def execPolicyAccess (master addr width value : Nat) (write : Bool) (s : State) : Host.Outcome State Fault Refusal :=
  let refused : Bool := if write then (s.busWrite master addr width value).1 == some stPOLICY else (s.busRead master addr width).1 == stPOLICY
  .next (if s.onBus master && (regionOf addr).isSome && refused then (if write then (s.busWrite master addr width value).2 else (s.busRead master addr width).2.2) else s)

/-- BLOCK_OFF_ACCESS (R852): an access to a block that is off. -/
def execBlockOffAccess (master addr : Nat) (write : Bool) (s : State) : Host.Outcome State Fault Refusal :=
  .next (match regionOf addr with
    | some (.block n) => if s.onBus master && addr % 4 == 0 && s.blockServes master n write && s.blockOff n then s.busFault kindOff master addr write else s
    | _ => s)

end Sys2Proof.Machine
end

