-- ==== Sys2Proof/Machine/Hif.lean ====
section
/-! DEFINITION. Meanings of the host's SPI frames (chapter 15, R701 to R713). WAIT bytes are timing and not part of `hif.out`, the bytes that a frame returns. -/
namespace Sys2Proof.Machine

/-! ## Frames -/

/-- Whether HIF takes frames now (R708, R862): not in sleep, in a reset, before the logic stage has completed, inside its own reset, or while VIO is low. -/
def State.hifTakes (s : State) : Bool := s.awake && !s.pwr.vioLow && !s.fences.inReset.contains blkHIF && !s.fences.stopped.contains blkHIF

/-- Whether an opcode is accepted in the present mode (Table 15-1, R713); recovery serves native framing (R830). -/
def State.opTaken (s : State) (op : Nat) : Bool :=
  let legacy := s.flag Reg.HIF_CFG_LEGACY && !s.inRecovery
  if op = 0xB4 then true else if op = 0x90 ∨ op = 0x91 then legacy else !legacy && (decide (1 ≤ op ∧ op ≤ 6) || decide (0xB0 ≤ op ∧ op ≤ 0xB3))

/-- The host sees these bytes. -/
def State.hifOut (s : State) (b : List Byte) : State := { s with hif := { s.hif with out := b, highZ := false } }

/-- The device keeps its outputs at high impedance. -/
def State.hifSilent (s : State) : State := { s with hif := { s.hif with out := [], highZ := true } }

/-- A frame is seen: HIF_FRAMES counts it, HIF_STAT names its opcode, and no access has succeeded yet (R707). -/
def State.hifSeen (s : State) (op : Nat) : State := ((s.wrapUp Reg.HIF_FRAMES_FRAMES).set Reg.HIF_STAT_LAST_OP op).set Reg.HIF_STAT_WORDS 0

/-- The outcome of a frame in HIF_STAT. -/
def State.hifStatus (s : State) (st : Nat) : State := s.set Reg.HIF_STAT_LAST_STATUS st

/-- A frame whose opcode is not accepted (R704). -/
def State.hifBad (s : State) (op : Nat) : State := ((s.hifSeen op).bump Reg.HIF_ERR_BAD_OP).hifSilent

/-- A frame with an opcode: ignored under R708 or R704, or served. -/
def State.hifFrame (s : State) (op : Nat) (k : State → State) : State :=
  if !s.hifTakes then s.hifSilent else if !s.opTaken op then s.hifBad op else k (s.hifSeen op)

/-- A complete frame that carries data to the device has its outcome; the host may have ended it before the status byte (R707). -/
def State.hifReply (s : State) (st : Nat) (abandoned : Bool) (more : List Byte) : State :=
  if abandoned then ((s.hifStatus st).bump Reg.HIF_ERR_ABANDONED).hifSilent else (s.hifStatus st).hifOut (BitVec.ofNat 8 st :: more)

/-- A frame that ended before it was complete (R707): it is counted, and has no other effect. -/
def State.hifShort (s : State) : State := (s.bump Reg.HIF_ERR_SHORT).hifSilent

/-- Whether the host has more than SYS and STATUS frames, and in recovery the writes of R830: else its frames end with REFUSED_POLICY. -/
def State.hifOpen (s : State) : Bool := !s.inRecovery && s.pwr.phase != .noImage

/-! ## Registers and memory (R709) -/

/-- Write words one after another: the first status that is no success ends the frame. From the Locket window on, a word may have to wait (R38, R706). -/
def State.hifWrite (since : Nat) (abandoned : Bool) : Nat → List Nat → State → State
  | _, [], s => s.hifWriteDone stOK since abandoned
  | a, w :: t, s =>
    if regionOf a = some .locket ∧ s.hifOpen then State.windowWords since abandoned a (w :: t) s
    else
      let p := s.busWrite 3 a 32 w
      if p.1 = some stOK then State.hifWrite since abandoned (a + 4) t (p.2.bumpI Reg.HIF_STAT_WORDS 0) else p.2.hifWriteDone (p.1.getD stPOLICY) since abandoned

/-- Read `n` words: status, bytes, state. A word of Field Memory may stall, and with it the rest (R687). -/
def State.hifRead : Nat → Nat → State → Nat × List Byte × State
  | _, 0, s => (stOK, [], s)
  | a, n + 1, s =>
    let off := a - lktBase
    if decide (lktBase ≤ a) && touchesField off 4 && s.fieldBusy && (List.range 4).all (fun i => s.mayReadLkt 3 (off + i)) then
      let rest (x : State) (i : Nat) : State := x.stall { master := 3, write := false, addr := a + 4 * i, width := 32, value := 0, since := s.now }
      (stDELAYED, [], (List.range (n + 1)).foldl rest s)
    else
      let p := s.busRead 3 a 32
      if p.1 = stOK then
        let r := State.hifRead (a + 4) n (p.2.2.bumpI Reg.HIF_STAT_WORDS 0)
        (r.1, leBytes 4 p.2.1 ++ r.2.1, r.2.2)
      else (p.1, (List.range (n + 1)).flatMap (fun _ => leBytes 4 0xDEAD0FF5), p.2.2)

/-- How many Clasp registers a range of `n` words covers. -/
def claspsIn (a n : Nat) : Nat := ((List.range n).filter (fun i => (fieldInst Reg.CLASP_OWNER (a + 4 * i)).isSome)).length

/-- What a REG_READ frame does once it is complete: a range over more than one Clasp register is refused and acquires none (R745 to R747), else the words are read. -/
def State.hifReadFrame (a n : Nat) (s : State) : Nat × List Byte × State :=
  if 1 < claspsIn a n then (stPOLICY, (List.range n).flatMap (fun _ => leBytes 4 0xDEAD0FF5), s) else State.hifRead a n s

/-- REG_READ (R709): ADDR and N. -/
def execRegRead (addr : BitVec 32) (n : BitVec 8) (s : State) : Host.Outcome State Fault Refusal :=
  .next (s.hifFrame 0xB0 (fun t =>
    let r := State.hifReadFrame addr.toNat (n.toNat + 1) t
    (r.2.2.hifStatus r.1).hifOut (BitVec.ofNat 8 r.1 :: r.2.1)))

/-- REG_WRITE (R709): ADDR and the words, at least one and, N being a byte, at most 256. -/
def execRegWrite (addr : BitVec 32) (words : List (BitVec 32)) (abandoned : Bool) (s : State) : Host.Outcome State Fault Refusal :=
  .next (s.hifFrame 0xB1 (fun t =>
    if words.isEmpty then t.hifShort else
    let u := if abandoned then t.bump Reg.HIF_ERR_ABANDONED else t
    State.hifWrite s.now abandoned addr.toNat ((words.take 256).map BitVec.toNat) u))

/-! ## Queues -/

/-- PUSH (R718): Q and the 64 bytes of the entry. What SEQ reads as after a refusal is open. -/
def execPush (q : BitVec 8) (entry : List Byte) (abandoned : Bool) (s : State) : Host.Outcome State Fault Refusal :=
  .next (s.hifFrame 0xB2 (fun t =>
    let refuse (st : Nat) : State :=
      let d := t.draw 4
      d.2.hifReply st abandoned d.1
    if !t.hifOpen then refuse stPOLICY
    else if t.blockOff blkQUE then refuse stBLOCKOFF
    else
      let p := t.push 3 q.toNat (fit 64 entry)
      if p.1 = stOK then p.2.2.hifReply stOK abandoned (leBytes 4 p.2.1) else refuse p.1))

/-- POP (R723): Q. What the entry's bytes read as after a refusal is open. -/
def execPop (q : BitVec 8) (s : State) : Host.Outcome State Fault Refusal :=
  .next (s.hifFrame 0xB3 (fun t =>
    let refuse (st : Nat) : State :=
      let d := t.draw 64
      d.2.hifReply st false d.1
    if !t.hifOpen then refuse stPOLICY
    else if t.blockOff blkQUE then refuse stBLOCKOFF
    else
      let p := t.pop 3 q.toNat
      if p.1 = stOK then p.2.2.hifReply stOK false p.2.1 else refuse p.1))

/-- STATUS (Table 15-2): it changes nothing but what the host sees; in quad mode a turnaround byte of undefined value comes first. -/
def execStatus (s : State) : Host.Outcome State Fault Refusal :=
  let b := leBytes 8 (vectors s) ++ leBytes 1 s.hostLevel ++ leBytes 1 (s.reg Reg.HIF_STAT_LAST_STATUS) ++ leBytes 2 (s.reg Reg.HIF_FRAMES_FRAMES)
  .next (if !s.hifTakes then s.hifSilent
  else if s.flag Reg.HIF_CFG_QUAD && !s.inRecovery then
    let d := s.draw 1
    d.2.hifOut (d.1 ++ b)
  else s.hifOut b)

/-- BAD_OP (R704): a frame with an opcode that the present mode does not accept. -/
def execBadOp (op : BitVec 8) (s : State) : Host.Outcome State Fault Refusal := .next (if s.hifTakes && s.opTaken op.toNat then s else s.hifFrame op.toNat id)

/-- SHORT_FRAME (R707): a frame ends before it is complete. WRDI and WREN have nothing to be short of, and a STATUS frame is not recorded. -/
def execShortFrame (op : BitVec 8) (s : State) : Host.Outcome State Fault Refusal :=
  .next (if op = 0x04 ∨ op = 0x06 ∨ op = 0xB4 then s else s.hifFrame op.toNat State.hifShort)

/-! ## The Locket as an EEPROM (R710 to R712) -/

/-- WREN: sets WEL. -/
def execWren (s : State) : Host.Outcome State Fault Refusal := .next (s.hifFrame 0x06 (fun t => ((t.set Reg.HIF_EE_WEL 1).hifStatus stOK).hifSilent))

/-- WRDI: clears WEL. -/
def execWrdi (s : State) : Host.Outcome State Fault Refusal := .next (s.hifFrame 0x04 (fun t => ((t.set Reg.HIF_EE_WEL 0).hifStatus stOK).hifSilent))

/-- WRSR: takes one byte, writes nothing, clears WEL. -/
def execWrsr (s : State) : Host.Outcome State Fault Refusal := .next (s.hifFrame 0x01 (fun t => ((t.set Reg.HIF_EE_WEL 0).hifStatus stOK).hifSilent))

/-- RDSR: HIF_EE bits [7:0], `n` times; the frame is complete once a byte has been returned (R707). -/
def execRdsr (n : Nat) (s : State) : Host.Outcome State Fault Refusal :=
  .next (s.hifFrame 0x05 (fun t => if n = 0 then t.hifShort else (t.hifStatus stOK).hifOut (List.replicate n (BitVec.ofNat 8 (t.readRegister Reg.HIF_EE_WIP.addr 3)))))

/-- Why byte a cannot be given to the host: OK, REFUSED_POLICY, NV_FAIL or FIELD_BUSY (R711). -/
def State.eepromByte (s : State) (a : Nat) : Nat :=
  if !s.hifOpen || !s.mayReadLkt 3 a then stPOLICY else if s.damagedRange a 1 then stNV else if touchesField a 1 && s.fieldBusy then stFIELDBUSY else stOK

/-- The byte of the pattern of R711 at a distance from the first byte that was not given. -/
def eepromPattern (i : Nat) : Byte := [0xF5, 0x0F, 0xAD, 0xDE].getD (i % 4) 0

/-- READ (R711): `n` bytes from an address onward; bit 15 is ignored, and the address wraps from 0x7FFF to 0. -/
def execRead (addr : BitVec 16) (n : Nat) (s : State) : Host.Outcome State Fault Refusal :=
  .next (s.hifFrame 0x03 (fun t =>
    if n = 0 then t.hifShort else
    let at_ (i : Nat) := (addr.toNat + i) % 0x8000
    match (List.range n).find? (fun i => t.eepromByte (at_ i) != stOK) with
    | none => ((t.set Reg.HIF_EE_ERR 0).hifStatus stOK).hifOut ((List.range n).map (fun i => (t.lktBytes (at_ i) 1).headD 0))
    | some first =>
      let b (i : Nat) : Byte := if t.eepromByte (at_ i) = stOK then (t.lktBytes (at_ i) 1).headD 0 else eepromPattern (i - first)
      ((t.set Reg.HIF_EE_ERR 1).hifStatus (t.eepromByte (at_ first))).hifOut ((List.range n).map b)))

/-- WRITE (R712): a page write under R569, in progress until the Locket accepts or refuses it; WEL is cleared as the frame ends. -/
def execWrite (addr : BitVec 16) (data : List Byte) (s : State) : Host.Outcome State Fault Refusal :=
  .next (s.hifFrame 0x02 (fun t =>
    let a := addr.toNat % 0x8000
    let l := pageWrite a data
    let wel := t.flag Reg.HIF_EE_WEL
    let u := t.set Reg.HIF_EE_WEL 0
    let refuse (x : State) (st : Nat) : State := ((x.set Reg.HIF_EE_ERR 1).hifStatus st).hifSilent
    if data.isEmpty then t.hifShort
    else if !wel || t.hif.wip || decide (256 < data.length) then refuse u stPOLICY
    else if !u.hifOpen || u.isStandby || !l.all (fun x => u.mayWriteLkt 3 x.1) then refuse u stPOLICY
    else if u.pins.wpLow then refuse ((u.raise 167).bump Reg.LKT_ERR_REFUSED_WP) stNV
    else
      let v : State := ((State.set { u with hif := { u.hif with wip := true } } Reg.HIF_EE_ERR 0).hifStatus stOK).hifSilent
      if l.any (fun x => touchesField x.1 1) && v.fieldBusy then
        v.stall { master := 3, write := true, addr := a, width := 8 * data.length, value := ofLe data, since := v.now, eeprom := true }
      else v.lktSubmit .eeprom (v.byteItems l)))

/-! ## DV-5120 mailbox framing (R713) -/

/-- MB_PUT: a message of master 3 for MB_1. -/
def execMbPut (words : List (BitVec 32)) (abandoned : Bool) (s : State) : Host.Outcome State Fault Refusal :=
  .next (s.hifFrame 0x90 (fun t =>
    if !t.hifOpen then t.hifReply stPOLICY abandoned []
    else if t.blockOff 4 then t.hifReply stBLOCKOFF abandoned []
    else
      let p := t.placeMessage 3 1 (words.map BitVec.toNat)
      p.2.hifReply p.1 abandoned []))

/-- MB_GET: the message in MB_2, which the complete frame acknowledges. -/
def execMbGet (s : State) : Host.Outcome State Fault Refusal :=
  .next (s.hifFrame 0x91 (fun t =>
    if !t.hifOpen then t.hifReply stPOLICY false []
    else if t.blockOff 4 then t.hifReply stBLOCKOFF false []
    else match t.box 2 with
    | none => t.hifReply stOK false [0]
    | some m => (t.ackBox 3 2).hifReply stOK false (leBytes 1 m.words.length ++ m.words.flatMap (leBytes 4))))

end Sys2Proof.Machine
end

