-- ==== Sys2Proof/Machine/Dispatch.lean ====
section
/-! DEFINITION. exec: one arm a command, each one direct call of its meaning. -/
namespace Sys2Proof.Machine

def exec (i : Instr) (s : State) : Host.Outcome State Fault Refusal :=
  match i with
  | .registerWrite master addr width value => Sys2Proof.Machine.execRegisterWrite master addr width value s
  | .unmappedAccess master addr write => Sys2Proof.Machine.execUnmappedAccess master addr write s
  | .policyAccess master addr width value write => Sys2Proof.Machine.execPolicyAccess master addr width value write s
  | .blockOffAccess master addr write => Sys2Proof.Machine.execBlockOffAccess master addr write s
  | .authorityWindowExpiry => Sys2Proof.Machine.execAuthorityWindowExpiry s
  | .coldPowerUp vio => Sys2Proof.Machine.execColdPowerUp vio s
  | .aonPowerLoss => Sys2Proof.Machine.execAonPowerLoss s
  | .brownout vmin => Sys2Proof.Machine.execBrownout vmin s
  | .holdupExhausted => Sys2Proof.Machine.execHoldupExhausted s
  | .holdupReadyChange ready => Sys2Proof.Machine.execHoldupReadyChange ready s
  | .vioUndervoltage => Sys2Proof.Machine.execVioUndervoltage s
  | .vioRestored => Sys2Proof.Machine.execVioRestored s
  | .resetNAssert => Sys2Proof.Machine.execResetNAssert s
  | .resetNRelease => Sys2Proof.Machine.execResetNRelease s
  | .partnerReset => Sys2Proof.Machine.execPartnerReset s
  | .partnerResetRelease => Sys2Proof.Machine.execPartnerResetRelease s
  | .wpNChange low => Sys2Proof.Machine.execWpNChange low s
  | .engRunChange high => Sys2Proof.Machine.execEngRunChange high s
  | .startBtnAssert level => Sys2Proof.Machine.execStartBtnAssert level s
  | .powerUpStage recordOk recovLow secondary => Sys2Proof.Machine.execPowerUpStage recordOk recovLow secondary s
  | .bootFault => Sys2Proof.Machine.execBootFault s
  | .bootFaultBlink => Sys2Proof.Machine.execBootFaultBlink s
  | .softwareSystemReset master key => Sys2Proof.Machine.execSoftwareSystemReset master key s
  | .levelChange => Sys2Proof.Machine.execLevelChange s
  | .levelChangeDone => Sys2Proof.Machine.execLevelChangeDone s
  | .droopBegin => Sys2Proof.Machine.execDroopBegin s
  | .droopEnd => Sys2Proof.Machine.execDroopEnd s
  | .capoSample tj mw => Sys2Proof.Machine.execCapoSample tj mw s
  | .capoStepUp => Sys2Proof.Machine.execCapoStepUp s
  | .wakeEvent src index => Sys2Proof.Machine.execWakeEvent src index s
  | .sleepQuery master => Sys2Proof.Machine.execSleepQuery master s
  | .sleepQueryResult => Sys2Proof.Machine.execSleepQueryResult s
  | .sleepCommit master => Sys2Proof.Machine.execSleepCommit master s
  | .sleepEntryComplete => Sys2Proof.Machine.execSleepEntryComplete s
  | .dayTick => Sys2Proof.Machine.execDayTick s
  | .storageListenTimeout => Sys2Proof.Machine.execStorageListenTimeout s
  | .dipBegin vsup => Sys2Proof.Machine.execDipBegin vsup s
  | .dipRecoveryRise vmin => Sys2Proof.Machine.execDipRecoveryRise vmin s
  | .dipEnd => Sys2Proof.Machine.execDipEnd s
  | .lfaEnable master => Sys2Proof.Machine.execLfaEnable master s
  | .lfaCarrierWrite master freq => Sys2Proof.Machine.execLfaCarrierWrite master freq s
  | .lfaStop master => Sys2Proof.Machine.execLfaStop master s
  | .fretBoundary driven sensed => Sys2Proof.Machine.execFretBoundary driven sensed s
  | .vdrvUndervoltage bank => Sys2Proof.Machine.execVdrvUndervoltage bank s
  | .vdrvRecovered bank => Sys2Proof.Machine.execVdrvRecovered bank s
  | .channelOvercurrent ch => Sys2Proof.Machine.execChannelOvercurrent ch s
  | .channelSettleCheck ch cycle current phase => Sys2Proof.Machine.execChannelSettleCheck ch cycle current phase s
  | .pingDue => Sys2Proof.Machine.execPingDue s
  | .pingResult ch df q => Sys2Proof.Machine.execPingResult ch df q s
  | .presenceHoldExpiry ch => Sys2Proof.Machine.execPresenceHoldExpiry ch s
  | .touchScan c => Sys2Proof.Machine.execTouchScan c s
  | .touchHoldExpiry k => Sys2Proof.Machine.execTouchHoldExpiry k s
  | .lfRun => Sys2Proof.Machine.execLfRun s
  | .lfStop => Sys2Proof.Machine.execLfStop s
  | .lfCal => Sys2Proof.Machine.execLfCal s
  | .lfStatus => Sys2Proof.Machine.execLfStatus s
  | .gltOpen master template => Sys2Proof.Machine.execGltOpen master template s
  | .gltAbort master => Sys2Proof.Machine.execGltAbort master s
  | .sessionOpen => Sys2Proof.Machine.execSessionOpen s
  | .wake => Sys2Proof.Machine.execWake s
  | .round => Sys2Proof.Machine.execRound s
  | .challenge => Sys2Proof.Machine.execChallenge s
  | .measure => Sys2Proof.Machine.execMeasure s
  | .report => Sys2Proof.Machine.execReport s
  | .halt => Sys2Proof.Machine.execHalt s
  | .repeatReply => Sys2Proof.Machine.execRepeatReply s
  | .release => Sys2Proof.Machine.execRelease s
  | .nextSlot => Sys2Proof.Machine.execNextSlot s
  | .handleReply rx start rssi frame => Sys2Proof.Machine.execHandleReply rx start rssi frame s
  | .proofReply rx start rssi frame => Sys2Proof.Machine.execProofReply rx start rssi frame s
  | .proofCheckDone => Sys2Proof.Machine.execProofCheckDone s
  | .lockoutEnd place => Sys2Proof.Machine.execLockoutEnd place s
  | .lockoutClrDevice master => Sys2Proof.Machine.execLockoutClrDevice master s
  | .lockoutClrCred master index => Sys2Proof.Machine.execLockoutClrCred master index s
  | .lockoutClrAll master => Sys2Proof.Machine.execLockoutClrAll master s
  | .reportReply rx start rssi frame => Sys2Proof.Machine.execReportReply rx start rssi frame s
  | .buttonTelegram rx rssi frame => Sys2Proof.Machine.execButtonTelegram rx rssi frame s
  | .telegramCounterAccepted => Sys2Proof.Machine.execTelegramCounterAccepted s
  | .pendingLapse cred => Sys2Proof.Machine.execPendingLapse cred s
  | .slotEnd energy => Sys2Proof.Machine.execSlotEnd energy s
  | .replyTimeout => Sys2Proof.Machine.execReplyTimeout s
  | .sessionTimeout => Sys2Proof.Machine.execSessionTimeout s
  | .sniffWindow energy => Sys2Proof.Machine.execSniffWindow energy s
  | .sniffExtensionEnd => Sys2Proof.Machine.execSniffExtensionEnd s
  | .uhfJam rx rssi => Sys2Proof.Machine.execUhfJam rx rssi s
  | .uhfJamClear rx rssi => Sys2Proof.Machine.execUhfJamClear rx rssi s
  | .uhfLockLost rx => Sys2Proof.Machine.execUhfLockLost rx s
  | .gltErrClr master => Sys2Proof.Machine.execGltErrClr master s
  | .rangeReq master handle => Sys2Proof.Machine.execRangeReq master handle s
  | .rangingBlockStart selfTest => Sys2Proof.Machine.execRangingBlockStart selfTest s
  | .poll tx => Sys2Proof.Machine.execPoll tx s
  | .responseReceived port rx qual fpDiff lead eps fpPwr phase => Sys2Proof.Machine.execResponseReceived port rx qual fpDiff lead eps fpPwr phase s
  | .blockEnd => Sys2Proof.Machine.execBlockEnd s
  | .uwbSynthLockLost => Sys2Proof.Machine.execUwbSynthLockLost s
  | .uwbCal rx => Sys2Proof.Machine.execUwbCal rx s
  | .uwbScan => Sys2Proof.Machine.execUwbScan s
  | .uwbStatus => Sys2Proof.Machine.execUwbStatus s
  | .uwbErrClr master => Sys2Proof.Machine.execUwbErrClr master s
  | .solveComplete => Sys2Proof.Machine.execSolveComplete s
  | .triggerExpiry => Sys2Proof.Machine.execTriggerExpiry s
  | .vrdPropose master typ => Sys2Proof.Machine.execVrdPropose master typ s
  | .propose => Sys2Proof.Machine.execPropose s
  | .verdictStatus => Sys2Proof.Machine.execVerdictStatus s
  | .verdictDeadline start => Sys2Proof.Machine.execVerdictDeadline start s
  | .decision => Sys2Proof.Machine.execDecision s
  | .ticketTake => Sys2Proof.Machine.execTicketTake s
  | .grantCounterAccepted => Sys2Proof.Machine.execGrantCounterAccepted s
  | .signetSealed => Sys2Proof.Machine.execSignetSealed s
  | .startWaitExpiry => Sys2Proof.Machine.execStartWaitExpiry s
  | .runDropExpiry => Sys2Proof.Machine.execRunDropExpiry s
  | .outputReadback a b => Sys2Proof.Machine.execOutputReadback a b s
  | .signetTransmitted c => Sys2Proof.Machine.execSignetTransmitted c s
  | .signetRepeat c => Sys2Proof.Machine.execSignetRepeat c s
  | .signetAbandon c => Sys2Proof.Machine.execSignetAbandon c s
  | .canFrameReceived c id xtd fd brs data => Sys2Proof.Machine.execCanFrameReceived c id xtd fd brs data s
  | .canBusOffRecovery c => Sys2Proof.Machine.execCanBusOffRecovery c s
  | .canSend => Sys2Proof.Machine.execCanSend s
  | .canRecv => Sys2Proof.Machine.execCanRecv s
  | .canStatus => Sys2Proof.Machine.execCanStatus s
  | .privChallenge => Sys2Proof.Machine.execPrivChallenge s
  | .privProve => Sys2Proof.Machine.execPrivProve s
  | .privDriver => Sys2Proof.Machine.execPrivDriver s
  | .privDrop => Sys2Proof.Machine.execPrivDrop s
  | .privilegeExpiry => Sys2Proof.Machine.execPrivilegeExpiry s
  | .authCommand => Sys2Proof.Machine.execAuthCommand s
  | .anchorGet => Sys2Proof.Machine.execAnchorGet s
  | .hallmarkGet => Sys2Proof.Machine.execHallmarkGet s
  | .deviceAttest => Sys2Proof.Machine.execDeviceAttest s
  | .keyLoad => Sys2Proof.Machine.execKeyLoad s
  | .keyLoadTakesEffect slot => Sys2Proof.Machine.execKeyLoadTakesEffect slot s
  | .keyZeroize => Sys2Proof.Machine.execKeyZeroize s
  | .keyZeroizeSlot master slot key => Sys2Proof.Machine.execKeyZeroizeSlot master slot key s
  | .keyZeroizeAll master => Sys2Proof.Machine.execKeyZeroizeAll master s
  | .keyInfo => Sys2Proof.Machine.execKeyInfo s
  | .setLearn => Sys2Proof.Machine.execSetLearn s
  | .setStatus => Sys2Proof.Machine.execSetStatus s
  | .setSwitch => Sys2Proof.Machine.execSetSwitch s
  | .learnQuietTimeout => Sys2Proof.Machine.execLearnQuietTimeout s
  | .learnPartnerTimeout => Sys2Proof.Machine.execLearnPartnerTimeout s
  | .aeadOpComplete engine => Sys2Proof.Machine.execAeadOpComplete engine s
  | .bulkSuspend engine => Sys2Proof.Machine.execBulkSuspend engine s
  | .pkeOpComplete checkOk => Sys2Proof.Machine.execPkeOpComplete checkOk s
  | .hshOpComplete ring => Sys2Proof.Machine.execHshOpComplete ring s
  | .healthTestFail raw => Sys2Proof.Machine.execHealthTestFail raw s
  | .rngRestart raw => Sys2Proof.Machine.execRngRestart raw s
  | .reseed => Sys2Proof.Machine.execReseed s
  | .maskReseed => Sys2Proof.Machine.execMaskReseed s
  | .rngStartupDone raw => Sys2Proof.Machine.execRngStartupDone raw s
  | .selfTestDone aea0 aea1 hsh rng => Sys2Proof.Machine.execSelfTestDone aea0 aea1 hsh rng s
  | .pkeKat ok => Sys2Proof.Machine.execPkeKat ok s
  | .keygenTimeout => Sys2Proof.Machine.execKeygenTimeout s
  | .aeadSeal ring => Sys2Proof.Machine.execAeadSeal ring s
  | .aeadOpen ring => Sys2Proof.Machine.execAeadOpen ring s
  | .hash ring => Sys2Proof.Machine.execHash ring s
  | .sign ring => Sys2Proof.Machine.execSign ring s
  | .verify ring => Sys2Proof.Machine.execVerify ring s
  | .ecdh ring => Sys2Proof.Machine.execEcdh ring s
  | .random ring => Sys2Proof.Machine.execRandom ring s
  | .cryptoStatus ring => Sys2Proof.Machine.execCryptoStatus ring s
  | .rngRaw => Sys2Proof.Machine.execRngRaw s
  | .cryptoBulkWaitExpiry ring => Sys2Proof.Machine.execCryptoBulkWaitExpiry ring s
  | .aeaErrClr master => Sys2Proof.Machine.execAeaErrClr master s
  | .locketWindowWrite master addr width value => Sys2Proof.Machine.execLocketWindowWrite master addr width value s
  | .locketAccept => Sys2Proof.Machine.execLocketAccept s
  | .commitRecord ok => Sys2Proof.Machine.execCommitRecord ok s
  | .reclaim stream eraseOk => Sys2Proof.Machine.execReclaim stream eraseOk s
  | .mountRepair => Sys2Proof.Machine.execMountRepair s
  | .lktUnlockGo master => Sys2Proof.Machine.execLktUnlockGo master s
  | .lktUnlockRelock master => Sys2Proof.Machine.execLktUnlockRelock master s
  | .locketGrantExpiry => Sys2Proof.Machine.execLocketGrantExpiry s
  | .ringUpdate master => Sys2Proof.Machine.execRingUpdate master s
  | .lktRead => Sys2Proof.Machine.execLktRead s
  | .lktWrite => Sys2Proof.Machine.execLktWrite s
  | .lktUnlock => Sys2Proof.Machine.execLktUnlock s
  | .lktRelock => Sys2Proof.Machine.execLktRelock s
  | .lktFlush => Sys2Proof.Machine.execLktFlush s
  | .lktStatus => Sys2Proof.Machine.execLktStatus s
  | .lktRingRead => Sys2Proof.Machine.execLktRingRead s
  | .lktErrClr master => Sys2Proof.Machine.execLktErrClr master s
  | .journalAssign => Sys2Proof.Machine.execJournalAssign s
  | .journalFlushTimer => Sys2Proof.Machine.execJournalFlushTimer s
  | .programComplete ok => Sys2Proof.Machine.execProgramComplete ok s
  | .nandEraseComplete ok => Sys2Proof.Machine.execNandEraseComplete ok s
  | .sealGo master => Sys2Proof.Machine.execSealGo master s
  | .journalMount nandOk => Sys2Proof.Machine.execJournalMount nandOk s
  | .journalFormat master => Sys2Proof.Machine.execJournalFormat master s
  | .append => Sys2Proof.Machine.execAppend s
  | .seal => Sys2Proof.Machine.execSeal s
  | .flush => Sys2Proof.Machine.execFlush s
  | .exportBatch => Sys2Proof.Machine.execExportBatch s
  | .exportAck => Sys2Proof.Machine.execExportAck s
  | .driverRead => Sys2Proof.Machine.execDriverRead s
  | .jnlStatus => Sys2Proof.Machine.execJnlStatus s
  | .jnlErrClr master => Sys2Proof.Machine.execJnlErrClr master s
  | .fieldEntry => Sys2Proof.Machine.execFieldEntry s
  | .fieldExit => Sys2Proof.Machine.execFieldExit s
  | .reqa => Sys2Proof.Machine.execReqa s
  | .wupa => Sys2Proof.Machine.execWupa s
  | .anticollision valid uid => Sys2Proof.Machine.execAnticollision valid uid s
  | .cascadeSelect frame => Sys2Proof.Machine.execCascadeSelect frame s
  | .hlta => Sys2Proof.Machine.execHlta s
  | .rats frame => Sys2Proof.Machine.execRats frame s
  | .pps frame => Sys2Proof.Machine.execPps frame s
  | .deselect => Sys2Proof.Machine.execDeselect s
  | .rAck bn => Sys2Proof.Machine.execRAck bn s
  | .rNak => Sys2Proof.Machine.execRNak s
  | .select frame => Sys2Proof.Machine.execSelect frame s
  | .getInfo frame => Sys2Proof.Machine.execGetInfo frame s
  | .getChallenge frame => Sys2Proof.Machine.execGetChallenge frame s
  | .putCert frame => Sys2Proof.Machine.execPutCert frame s
  | .enfAuth frame => Sys2Proof.Machine.execEnfAuth frame s
  | .enfAuthDone => Sys2Proof.Machine.execEnfAuthDone s
  | .enfConfirm frame => Sys2Proof.Machine.execEnfConfirm frame s
  | .wsAuth frame => Sys2Proof.Machine.execWsAuth frame s
  | .fmRead frame => Sys2Proof.Machine.execFmRead frame s
  | .fmWrite frame collapse => Sys2Proof.Machine.execFmWrite frame collapse s
  | .getStatus frame => Sys2Proof.Machine.execGetStatus frame s
  | .getHallmark frame => Sys2Proof.Machine.execGetHallmark frame s
  | .authCmd frame => Sys2Proof.Machine.execAuthCmd frame s
  | .close frame => Sys2Proof.Machine.execClose frame s
  | .fieldBusyTimeout => Sys2Proof.Machine.execFieldBusyTimeout s
  | .hfStatus => Sys2Proof.Machine.execHfStatus s
  | .hfClose => Sys2Proof.Machine.execHfClose s
  | .hfWaitExit => Sys2Proof.Machine.execHfWaitExit s
  | .hftErrClr master => Sys2Proof.Machine.execHftErrClr master s
  | .wrsr => Sys2Proof.Machine.execWrsr s
  | .write addr data => Sys2Proof.Machine.execWrite addr data s
  | .read addr n => Sys2Proof.Machine.execRead addr n s
  | .wrdi => Sys2Proof.Machine.execWrdi s
  | .rdsr n => Sys2Proof.Machine.execRdsr n s
  | .wren => Sys2Proof.Machine.execWren s
  | .mbPut words abandoned => Sys2Proof.Machine.execMbPut words abandoned s
  | .mbGet => Sys2Proof.Machine.execMbGet s
  | .regRead addr n => Sys2Proof.Machine.execRegRead addr n s
  | .regWrite addr words abandoned => Sys2Proof.Machine.execRegWrite addr words abandoned s
  | .push q entry abandoned => Sys2Proof.Machine.execPush q entry abandoned s
  | .pop q => Sys2Proof.Machine.execPop q s
  | .status => Sys2Proof.Machine.execStatus s
  | .badOp op => Sys2Proof.Machine.execBadOp op s
  | .shortFrame op => Sys2Proof.Machine.execShortFrame op s
  | .hifErrClr master => Sys2Proof.Machine.execHifErrClr master s
  | .queEnq master => Sys2Proof.Machine.execQueEnq master s
  | .queDeq master => Sys2Proof.Machine.execQueDeq master s
  | .queueTake q => Sys2Proof.Machine.execQueueTake q s
  | .queueBulkWaitExpiry q => Sys2Proof.Machine.execQueueBulkWaitExpiry q s
  | .sysInfo => Sys2Proof.Machine.execSysInfo s
  | .sleepReq => Sys2Proof.Machine.execSleepReq s
  | .timeSet => Sys2Proof.Machine.execTimeSet s
  | .ping => Sys2Proof.Machine.execPing s
  | .queStatus => Sys2Proof.Machine.execQueStatus s
  | .firmwareCommand security status cause data => Sys2Proof.Machine.execFirmwareCommand security status cause data s
  | .mailboxSend master => Sys2Proof.Machine.execMailboxSend master s
  | .mailboxAck master box => Sys2Proof.Machine.execMailboxAck master box s
  | .mailboxCrossing k => Sys2Proof.Machine.execMailboxCrossing k s
  | .claspRead master k => Sys2Proof.Machine.execClaspRead master k s
  | .claspWrite master k value => Sys2Proof.Machine.execClaspWrite master k value s
  | .claspReleaseHost master => Sys2Proof.Machine.execClaspReleaseHost master s
  | .linkAligned => Sys2Proof.Machine.execLinkAligned s
  | .hello frame => Sys2Proof.Machine.execHello frame s
  | .helloRepeat => Sys2Proof.Machine.execHelloRepeat s
  | .confirm frame => Sys2Proof.Machine.execConfirm frame s
  | .heartbeat frame => Sys2Proof.Machine.execHeartbeat frame s
  | .mirrorLkt frame => Sys2Proof.Machine.execMirrorLkt frame s
  | .mirrorJnl frame => Sys2Proof.Machine.execMirrorJnl frame s
  | .mirrorCrd frame => Sys2Proof.Machine.execMirrorCrd frame s
  | .mack frame => Sys2Proof.Machine.execMack frame s
  | .mackDeadline => Sys2Proof.Machine.execMackDeadline s
  | .mailbox frame => Sys2Proof.Machine.execMailbox frame s
  | .record frame => Sys2Proof.Machine.execRecord frame s
  | .session frame => Sys2Proof.Machine.execSession frame s
  | .burst frame => Sys2Proof.Machine.execBurst frame s
  | .burstDone frame => Sys2Proof.Machine.execBurstDone frame s
  | .burstDoneTimeout => Sys2Proof.Machine.execBurstDoneTimeout s
  | .rangeGo frame => Sys2Proof.Machine.execRangeGo frame s
  | .range frame => Sys2Proof.Machine.execRange frame s
  | .uhfFwd frame => Sys2Proof.Machine.execUhfFwd frame s
  | .controlSleep frame => Sys2Proof.Machine.execControlSleep frame s
  | .controlHandover frame => Sys2Proof.Machine.execControlHandover frame s
  | .controlResync frame => Sys2Proof.Machine.execControlResync frame s
  | .resyncStageDone => Sys2Proof.Machine.execResyncStageDone s
  | .tsuFrameBad frame => Sys2Proof.Machine.execTsuFrameBad frame s
  | .linkRetrain => Sys2Proof.Machine.execLinkRetrain s
  | .linkRetransmit => Sys2Proof.Machine.execLinkRetransmit s
  | .partnerLost => Sys2Proof.Machine.execPartnerLost s
  | .roleClaim => Sys2Proof.Machine.execRoleClaim s
  | .arbTest low => Sys2Proof.Machine.execArbTest low s
  | .pairArbHigh => Sys2Proof.Machine.execPairArbHigh s
  | .handoverReq master => Sys2Proof.Machine.execHandoverReq master s
  | .handoverTimeout => Sys2Proof.Machine.execHandoverTimeout s
  | .rstPartner master => Sys2Proof.Machine.execRstPartner master s
  | .tsuErrClr master => Sys2Proof.Machine.execTsuErrClr master s
  | .fwReady master => Sys2Proof.Machine.execFwReady master s
  | .recoveryGo master => Sys2Proof.Machine.execRecoveryGo master s
  | .imgStage => Sys2Proof.Machine.execImgStage s
  | .imgActivate => Sys2Proof.Machine.execImgActivate s
  | .imgStatus => Sys2Proof.Machine.execImgStatus s
  | .drainComplete => Sys2Proof.Machine.execDrainComplete s
  | .drainTimeout => Sys2Proof.Machine.execDrainTimeout s
  | .cfgUpdStage master => Sys2Proof.Machine.execCfgUpdStage master s
  | .cfgUpdLive master => Sys2Proof.Machine.execCfgUpdLive master s
  | .norJobComplete fault => Sys2Proof.Machine.execNorJobComplete fault s
  | .cfgErrClr master => Sys2Proof.Machine.execCfgErrClr master s
  | .sysBusfaultClr master => Sys2Proof.Machine.execSysBusfaultClr master s
  | .meshScan driven read => Sys2Proof.Machine.execMeshScan driven read s
  | .tamperDetect hits => Sys2Proof.Machine.execTamperDetect hits s
  | .tamperReset => Sys2Proof.Machine.execTamperReset s
  | .tamperLockClear master => Sys2Proof.Machine.execTamperLockClear master s
  | .tamperLatchClear master => Sys2Proof.Machine.execTamperLatchClear master s
  | .watchdogKick master c value => Sys2Proof.Machine.execWatchdogKick master c value s
  | .watchdogWarning c => Sys2Proof.Machine.execWatchdogWarning c s
  | .watchdogExpiry c => Sys2Proof.Machine.execWatchdogExpiry c s
  | .blockReset master block key => Sys2Proof.Machine.execBlockReset master block key s
  | .blockReturn block => Sys2Proof.Machine.execBlockReturn block s
  | .staleReply block epoch => Sys2Proof.Machine.execStaleReply block epoch s
  | .sramEccError master addr keyStore => Sys2Proof.Machine.execSramEccError master addr keyStore s
  | .blockSelfCheckFail block => Sys2Proof.Machine.execBlockSelfCheckFail block s
  | .ieee11491Lock => Sys2Proof.Machine.execIeee11491Lock s
  | .canFrameTransmitted c => Sys2Proof.Machine.execCanFrameTransmitted c s
  | .canBusError c tx eight => Sys2Proof.Machine.execCanBusError c tx eight s
  | .nandReadComplete errs => Sys2Proof.Machine.execNandReadComplete errs s
  | .restartCollectionDone raw => Sys2Proof.Machine.execRestartCollectionDone raw s
  | .heartbeatSend => Sys2Proof.Machine.execHeartbeatSend s
  | .linkAlignmentLost => Sys2Proof.Machine.execLinkAlignmentLost s
  | .pairArbChange high => Sys2Proof.Machine.execPairArbChange high s
  | .fdNChange asserted => Sys2Proof.Machine.execFdNChange asserted s
  | .sWtxResponse => Sys2Proof.Machine.execSWtxResponse s
  | .chainedIBlock frame => Sys2Proof.Machine.execChainedIBlock frame s
  | .crcAFail => Sys2Proof.Machine.execCrcAFail s
  | .unknownApdu frame => Sys2Proof.Machine.execUnknownApdu frame s
  | .sleepAnswer frame => Sys2Proof.Machine.execSleepAnswer frame s
  | .uwbScanEnd meas => Sys2Proof.Machine.execUwbScanEnd meas s
  | .rngRawDone => Sys2Proof.Machine.execRngRawDone s
  | .discardedUplink rx rssi frame => Sys2Proof.Machine.execDiscardedUplink rx rssi frame s

end Sys2Proof.Machine
end

