-- ==== Sys2Proof/Machine/Flags.lean ====
section
/-! DEFINITION. Event flags. The block has no arithmetic flags; what it has are the pending bits of its 192 events, one set for each of masters 1, 2
and 3 (R750). `State.raise` and `State.raiseTo` (Ops.lean) set them; here is how a master's bit is read. -/
namespace Sys2Proof.Machine

/-- Event e's pending bit of a master (R750): masters 1, 2 and 3 have one each. -/
def State.eventPending (s : State) (m e : Nat) : Bool :=
  if m = 1 then s.evt.sec.getLsbD e else if m = 2 then s.evt.app.getLsbD e else if m = 3 then s.evt.host.getLsbD e else false

end Sys2Proof.Machine
end

