-- ==== Sys2Proof/Machine/Operands.lean ====
section
/-! DEFINITION. Operand forms of a queue command (R872): a command's operands stand packed in its payload of 48 bytes, little-endian, from byte 0;
its destination range stands in bytes 40 to 47. `Running.num`, `Running.sub`, `Running.dest` and `Running.destLen` (Ops.lean) read them; here are
the predicates over them that statements use. Bus operands are plain numbers; frames and tags carry their own bytes. -/
namespace Sys2Proof.Machine

/-- Whether a command is the oldest taken and not started of its ring and code. -/
def State.hasCmd (s : State) (q code : Nat) : Bool := (s.running q code).isSome

/-- Whether no queue command runs that a row of this ring and code could act on. -/
def State.noCmd (s : State) (q code : Nat) : Bool := (s.running q code).isNone

end Sys2Proof.Machine
end

