-- ==== Sys2Proof/WellFormed.lean ====
section
/-! DEFINITION. Which commands the hardware can be given: operands inside what a bus access, a frame or an entry carries. Every meaning is
total and answers an ill-formed command too; a well-formed command is one that the spec's own encodings can carry. -/
namespace Sys2Proof

/-- A bus access (R10, R21, R560, R874): masters 1 to 7, a 32-bit address, 8, 16 or 32 bits, a value that fits them. -/
def busOk (master addr width value : Nat) : Bool :=
  decide (1 ≤ master ∧ master ≤ 7) && decide (addr < 2 ^ 32) && (width == 8 || width == 16 || width == 32) && decide (value < 2 ^ width)

/-- A master number that issues accesses (Table 01-3). -/
def masterOk (m : Nat) : Bool := decide (1 ≤ m ∧ m ≤ 7)

/-- A CAN FD data length (Table 09-4). -/
def canLengthOk (fd : Bool) (n : Nat) : Bool :=
  if fd then [0, 1, 2, 3, 4, 5, 6, 7, 8, 12, 16, 20, 24, 32, 48, 64].contains n else decide (n ≤ 8)

/-- A command that the hardware can be given. -/
def Instr.wellFormed : Instr → Bool
  | .registerWrite master addr width value => busOk master addr width value
  | .unmappedAccess master addr _ => masterOk master && decide (addr < 2 ^ 32)
  | .policyAccess master addr width value _ => busOk master addr width value
  | .blockOffAccess master addr _ => masterOk master && decide (addr < 2 ^ 32)
  | .authorityWindowExpiry => true
  | .coldPowerUp _ => true
  | .aonPowerLoss => true
  | .brownout vmin => decide (vmin < 2 ^ 16)
  | .holdupExhausted => true
  | .holdupReadyChange _ => true
  | .vioUndervoltage => true
  | .vioRestored => true
  | .resetNAssert => true
  | .resetNRelease => true
  | .partnerReset => true
  | .partnerResetRelease => true
  | .wpNChange _ => true
  | .engRunChange _ => true
  | .startBtnAssert _ => true
  | .powerUpStage _ _ _ => true
  | .bootFault => true
  | .bootFaultBlink => true
  | .softwareSystemReset master _ => masterOk master
  | .levelChange => true
  | .levelChangeDone => true
  | .droopBegin => true
  | .droopEnd => true
  | .capoSample _ _ => true
  | .capoStepUp => true
  | .wakeEvent _ _ => true
  | .sleepQuery master => masterOk master
  | .sleepQueryResult => true
  | .sleepCommit master => masterOk master
  | .sleepEntryComplete => true
  | .dayTick => true
  | .storageListenTimeout => true
  | .dipBegin vsup => decide (vsup < 2 ^ 16)
  | .dipRecoveryRise vmin => decide (vmin < 2 ^ 16)
  | .dipEnd => true
  | .lfaEnable master => masterOk master
  | .lfaCarrierWrite master freq => masterOk master && decide (freq < 2 ^ 32)
  | .lfaStop master => masterOk master
  | .fretBoundary _ _ => true
  | .vdrvUndervoltage _ => true
  | .vdrvRecovered _ => true
  | .channelOvercurrent _ => true
  | .channelSettleCheck _ _ _ _ => true
  | .pingDue => true
  | .pingResult _ _ _ => true
  | .presenceHoldExpiry _ => true
  | .touchScan _ => true
  | .touchHoldExpiry _ => true
  | .lfRun => true
  | .lfStop => true
  | .lfCal => true
  | .lfStatus => true
  | .gltOpen master _ => masterOk master
  | .gltAbort master => masterOk master
  | .sessionOpen => true
  | .wake => true
  | .round => true
  | .challenge => true
  | .measure => true
  | .report => true
  | .halt => true
  | .repeatReply => true
  | .release => true
  | .nextSlot => true
  | .handleReply _ _ _ frame => decide (frame.length ≤ 256)
  | .proofReply _ _ _ frame => decide (frame.length ≤ 256)
  | .proofCheckDone => true
  | .lockoutEnd _ => true
  | .lockoutClrDevice master => masterOk master
  | .lockoutClrCred master _ => masterOk master
  | .lockoutClrAll master => masterOk master
  | .reportReply _ _ _ frame => decide (frame.length ≤ 256)
  | .buttonTelegram _ _ frame => decide (frame.length ≤ 256)
  | .telegramCounterAccepted => true
  | .pendingLapse _ => true
  | .slotEnd _ => true
  | .replyTimeout => true
  | .sessionTimeout => true
  | .sniffWindow _ => true
  | .sniffExtensionEnd => true
  | .uhfJam _ _ => true
  | .uhfJamClear _ _ => true
  | .uhfLockLost _ => true
  | .gltErrClr master => masterOk master
  | .rangeReq master _ => masterOk master
  | .rangingBlockStart _ => true
  | .poll _ => true
  | .responseReceived _ _ _ _ _ _ _ _ => true
  | .blockEnd => true
  | .uwbSynthLockLost => true
  | .uwbCal _ => true
  | .uwbScan => true
  | .uwbStatus => true
  | .uwbErrClr master => masterOk master
  | .solveComplete => true
  | .triggerExpiry => true
  | .vrdPropose master _ => masterOk master
  | .propose => true
  | .verdictStatus => true
  | .verdictDeadline _ => true
  | .decision => true
  | .ticketTake => true
  | .grantCounterAccepted => true
  | .signetSealed => true
  | .startWaitExpiry => true
  | .runDropExpiry => true
  | .outputReadback _ _ => true
  | .signetTransmitted _ => true
  | .signetRepeat _ => true
  | .signetAbandon _ => true
  | .canFrameReceived _ id xtd fd _ data => canLengthOk fd data.length && (xtd || decide (id.toNat < 2 ^ 11))
  | .canBusOffRecovery _ => true
  | .canSend => true
  | .canRecv => true
  | .canStatus => true
  | .privChallenge => true
  | .privProve => true
  | .privDriver => true
  | .privDrop => true
  | .privilegeExpiry => true
  | .authCommand => true
  | .anchorGet => true
  | .hallmarkGet => true
  | .deviceAttest => true
  | .keyLoad => true
  | .keyLoadTakesEffect _ => true
  | .keyZeroize => true
  | .keyZeroizeSlot master _ _ => masterOk master
  | .keyZeroizeAll master => masterOk master
  | .keyInfo => true
  | .setLearn => true
  | .setStatus => true
  | .setSwitch => true
  | .learnQuietTimeout => true
  | .learnPartnerTimeout => true
  | .aeadOpComplete _ => true
  | .bulkSuspend _ => true
  | .pkeOpComplete _ => true
  | .hshOpComplete _ => true
  | .healthTestFail _ => true
  | .rngRestart _ => true
  | .reseed => true
  | .maskReseed => true
  | .rngStartupDone _ => true
  | .selfTestDone _ _ _ _ => true
  | .pkeKat _ => true
  | .keygenTimeout => true
  | .aeadSeal _ => true
  | .aeadOpen _ => true
  | .hash _ => true
  | .sign _ => true
  | .verify _ => true
  | .ecdh _ => true
  | .random _ => true
  | .cryptoStatus _ => true
  | .rngRaw => true
  | .cryptoBulkWaitExpiry _ => true
  | .aeaErrClr master => masterOk master
  | .locketWindowWrite master addr width value => busOk master addr width value
  | .locketAccept => true
  | .commitRecord _ => true
  | .reclaim _ _ => true
  | .mountRepair => true
  | .lktUnlockGo master => masterOk master
  | .lktUnlockRelock master => masterOk master
  | .locketGrantExpiry => true
  | .ringUpdate master => masterOk master
  | .lktRead => true
  | .lktWrite => true
  | .lktUnlock => true
  | .lktRelock => true
  | .lktFlush => true
  | .lktStatus => true
  | .lktRingRead => true
  | .lktErrClr master => masterOk master
  | .journalAssign => true
  | .journalFlushTimer => true
  | .programComplete _ => true
  | .nandEraseComplete _ => true
  | .sealGo master => masterOk master
  | .journalMount _ => true
  | .journalFormat master => masterOk master
  | .append => true
  | .seal => true
  | .flush => true
  | .exportBatch => true
  | .exportAck => true
  | .driverRead => true
  | .jnlStatus => true
  | .jnlErrClr master => masterOk master
  | .fieldEntry => true
  | .fieldExit => true
  | .reqa => true
  | .wupa => true
  | .anticollision _ _ => true
  | .cascadeSelect frame => decide (frame.length ≤ 256)
  | .hlta => true
  | .rats frame => decide (frame.length ≤ 256)
  | .pps frame => decide (frame.length ≤ 256)
  | .deselect => true
  | .rAck _ => true
  | .rNak => true
  | .select frame => decide (frame.length ≤ 256)
  | .getInfo frame => decide (frame.length ≤ 256)
  | .getChallenge frame => decide (frame.length ≤ 256)
  | .putCert frame => decide (frame.length ≤ 256)
  | .enfAuth frame => decide (frame.length ≤ 256)
  | .enfAuthDone => true
  | .enfConfirm frame => decide (frame.length ≤ 256)
  | .wsAuth frame => decide (frame.length ≤ 256)
  | .fmRead frame => decide (frame.length ≤ 256)
  | .fmWrite frame _ => decide (frame.length ≤ 256)
  | .getStatus frame => decide (frame.length ≤ 256)
  | .getHallmark frame => decide (frame.length ≤ 256)
  | .authCmd frame => decide (frame.length ≤ 256)
  | .close frame => decide (frame.length ≤ 256)
  | .fieldBusyTimeout => true
  | .hfStatus => true
  | .hfClose => true
  | .hfWaitExit => true
  | .hftErrClr master => masterOk master
  | .wrsr => true
  | .write _ _ => true
  | .read _ _ => true
  | .wrdi => true
  | .rdsr _ => true
  | .wren => true
  | .mbPut words _ => decide (words.length ≤ 255)
  | .mbGet => true
  | .regRead _ _ => true
  | .regWrite _ _ _ => true
  | .push _ entry abandoned => if abandoned then decide (entry.length < 64) else entry.length == 64
  | .pop _ => true
  | .status => true
  | .badOp _ => true
  | .shortFrame _ => true
  | .hifErrClr master => masterOk master
  | .queEnq master => masterOk master
  | .queDeq master => masterOk master
  | .queueTake _ => true
  | .queueBulkWaitExpiry _ => true
  | .sysInfo => true
  | .sleepReq => true
  | .timeSet => true
  | .ping => true
  | .queStatus => true
  | .firmwareCommand _ _ _ data => decide (data.length ≤ 40)
  | .mailboxSend master => masterOk master
  | .mailboxAck master _ => masterOk master
  | .mailboxCrossing _ => true
  | .claspRead master _ => masterOk master
  | .claspWrite master _ value => masterOk master && decide (value < 2 ^ 32)
  | .claspReleaseHost master => masterOk master
  | .linkAligned => true
  | .hello frame => decide (frame.length ≤ 1064)
  | .helloRepeat => true
  | .confirm frame => decide (frame.length ≤ 1064)
  | .heartbeat frame => decide (frame.length ≤ 1064)
  | .mirrorLkt frame => decide (frame.length ≤ 1064)
  | .mirrorJnl frame => decide (frame.length ≤ 1064)
  | .mirrorCrd frame => decide (frame.length ≤ 1064)
  | .mack frame => decide (frame.length ≤ 1064)
  | .mackDeadline => true
  | .mailbox frame => decide (frame.length ≤ 1064)
  | .record frame => decide (frame.length ≤ 1064)
  | .session frame => decide (frame.length ≤ 1064)
  | .burst frame => decide (frame.length ≤ 1064)
  | .burstDone frame => decide (frame.length ≤ 1064)
  | .burstDoneTimeout => true
  | .rangeGo frame => decide (frame.length ≤ 1064)
  | .range frame => decide (frame.length ≤ 1064)
  | .uhfFwd frame => decide (frame.length ≤ 1064)
  | .controlSleep frame => decide (frame.length ≤ 1064)
  | .controlHandover frame => decide (frame.length ≤ 1064)
  | .controlResync frame => decide (frame.length ≤ 1064)
  | .resyncStageDone => true
  | .tsuFrameBad _ => true
  | .linkRetrain => true
  | .linkRetransmit => true
  | .partnerLost => true
  | .roleClaim => true
  | .arbTest _ => true
  | .pairArbHigh => true
  | .handoverReq master => masterOk master
  | .handoverTimeout => true
  | .rstPartner master => masterOk master
  | .tsuErrClr master => masterOk master
  | .fwReady master => masterOk master
  | .recoveryGo master => masterOk master
  | .imgStage => true
  | .imgActivate => true
  | .imgStatus => true
  | .drainComplete => true
  | .drainTimeout => true
  | .cfgUpdStage master => masterOk master
  | .cfgUpdLive master => masterOk master
  | .norJobComplete _ => true
  | .cfgErrClr master => masterOk master
  | .sysBusfaultClr master => masterOk master
  | .meshScan _ _ => true
  | .tamperDetect _ => true
  | .tamperReset => true
  | .tamperLockClear master => masterOk master
  | .tamperLatchClear master => masterOk master
  | .watchdogKick master _ _ => masterOk master
  | .watchdogWarning _ => true
  | .watchdogExpiry _ => true
  | .blockReset master _ _ => masterOk master
  | .blockReturn _ => true
  | .staleReply _ _ => true
  | .sramEccError _ addr _ => decide (addr < 2 ^ 32)
  | .blockSelfCheckFail _ => true
  | .ieee11491Lock => true
  | .canFrameTransmitted _ => true
  | .canBusError _ _ _ => true
  | .nandReadComplete _ => true
  | .restartCollectionDone _ => true
  | .heartbeatSend => true
  | .linkAlignmentLost => true
  | .pairArbChange _ => true
  | .fdNChange _ => true
  | .sWtxResponse => true
  | .chainedIBlock frame => decide (frame.length ≤ 256)
  | .crcAFail => true
  | .unknownApdu frame => decide (frame.length ≤ 256)
  | .sleepAnswer frame => decide (frame.length ≤ 1064)
  | .uwbScanEnd _ => true
  | .rngRawDone => true
  | .discardedUplink _ _ frame => decide (frame.length ≤ 256)

end Sys2Proof
end

