-- ==== Sys2Proof/Safety.lean ====
section
/-! DEFINITION. The terms in which claims are stated: a command that completes with a property, the parts of the state and what a command leaves alone, what a
completion is, and the canonical forms of the stores. -/
namespace Sys2Proof.Machine

/-- Command c, run on s, answers a next state that has property P. -/
def Runs (c : Instr) (s : State) (P : State → Prop) : Prop := ∃ t, exec c s = .next t ∧ P t

/-- The parts of the state, one for each field of State. -/
inductive Part where
  | pending | now | fresh | regs | mem | tim | pins | evt | que | mbx | hif | jnl | lkt | priv | auth | key | crd | crypto | nor | tsu | pwr | lfa | glt | uwb | loc | vrd
  | gov | can | tmp | hft | fences | jtagLocked | devnum | fwKey | appFwBytes
  deriving DecidableEq, Repr

/-- Whether two states agree in a part. -/
def Part.same : Part → State → State → Prop
  | .pending, s, t => t.pending = s.pending
  | .now, s, t => t.now = s.now
  | .fresh, s, t => t.fresh = s.fresh
  | .regs, s, t => t.regs = s.regs
  | .mem, s, t => t.mem = s.mem
  | .tim, s, t => t.tim = s.tim
  | .pins, s, t => t.pins = s.pins
  | .evt, s, t => t.evt = s.evt
  | .que, s, t => t.que = s.que
  | .mbx, s, t => t.mbx = s.mbx
  | .hif, s, t => t.hif = s.hif
  | .jnl, s, t => t.jnl = s.jnl
  | .lkt, s, t => t.lkt = s.lkt
  | .priv, s, t => t.priv = s.priv
  | .auth, s, t => t.auth = s.auth
  | .key, s, t => t.key = s.key
  | .crd, s, t => t.crd = s.crd
  | .crypto, s, t => t.crypto = s.crypto
  | .nor, s, t => t.nor = s.nor
  | .tsu, s, t => t.tsu = s.tsu
  | .pwr, s, t => t.pwr = s.pwr
  | .lfa, s, t => t.lfa = s.lfa
  | .glt, s, t => t.glt = s.glt
  | .uwb, s, t => t.uwb = s.uwb
  | .loc, s, t => t.loc = s.loc
  | .vrd, s, t => t.vrd = s.vrd
  | .gov, s, t => t.gov = s.gov
  | .can, s, t => t.can = s.can
  | .tmp, s, t => t.tmp = s.tmp
  | .hft, s, t => t.hft = s.hft
  | .fences, s, t => t.fences = s.fences
  | .jtagLocked, s, t => t.jtagLocked = s.jtagLocked
  | .devnum, s, t => t.devnum = s.devnum
  | .fwKey, s, t => t.fwKey = s.fwKey
  | .appFwBytes, s, t => t.appFwBytes = s.appFwBytes

/-- Nothing but the listed parts differs: with `mem` not listed, every byte of memory reads as before; with `regs` not listed, every register field does. -/
def Only (l : List Part) (s t : State) : Prop := ∀ p : Part, p ∉ l → p.same s t

/-- Every stored register field but the listed ones (each in all its instances and banks) reads as before. -/
def FieldsKept (l : List Field) (s t : State) : Prop := ∀ (f : Field) (i b : Nat), f ∉ l → f ∈ Reg.all → t.regB f i b = s.regB f i b

/-- Event e is pending for the security core, the application core and the host (R750). -/
def Raised (e : Nat) (t : State) : Prop := ∀ m, 1 ≤ m → m ≤ 3 → t.eventPending m e = true

/-- The newest entry of ring q. -/
def State.newest (s : State) (q : Nat) : Option Entry := (s.ring q).getLast?

/-- Command r has completed with a status, a cause and data: it is taken from the running list, and the newest entry of ring q + 16 is its completion (Table 15-5, R721). OK with a
delay of 1 µs or more reads DELAYED_OK (R729). -/
def Completed (r : Running) (block status cause : Nat) (data : List Byte) (t : State) : Prop :=
  ∃ e, t.newest (r.ring + 16) = some e ∧ e.block = block ∧ e.code = r.entry.code ∧ e.tag = r.entry.tag ∧ e.flags = r.entry.master ∧ e.cause = cause ∧
    (e.status = status ∨ (status = stOK ∧ e.status = stDELAYED)) ∧ slice e.payload 0 4 = leBytes 4 r.entry.seq ∧ slice e.payload 8 40 = fit 40 data ∧
    t.runningSeq r.ring r.entry.seq = none

/-- Keys strictly rising. -/
def Rising {α : Type} (l : List (Nat × α)) : Prop := l.Pairwise (fun a b => a.1 < b.1)

/-- The canonical form of memory: addresses strictly rising, no entry that an unlisted byte reads as. -/
def memoryWf (m : List Host.Cell) : Bool := decide (m.Pairwise (fun a b => a.1 < b.1)) && m.all (fun c => c.2 != 0)

/-- The canonical form of the register store: keys strictly rising. -/
def regsWf (r : List (Nat × Nat)) : Bool := decide (r.Pairwise (fun a b => a.1 < b.1))

end Sys2Proof.Machine
end

