-- ==== Sys2Proof/Certificates/Slice0/Obligations.lean ====
section
/-! DEFINITION. The statements for the provers. `Runs c s P`: command c, run on s, answers a next state with P. `Only l s t`: no part of the state but those listed differs. -/
open Sys2Proof Sys2Proof.Machine

/-- Frame b of kind k arrives on the pair link with content f, in its turn (R766 to R769). -/
def Arrives (k : Nat) (b : List Byte) (f : Frame) (s : State) : Prop := (s.frameIn k b).1 = some f

/-- The state in which the link has received frame b. -/
def heardOf (k : Nat) (b : List Byte) (s : State) : State := (s.frameIn k b).2

/-! ## The step, the queue, reset -/

/-- Tier 1. A step runs the command at the front of the queue on the state whose queue is the rest. -/
def Obligations.StepRunsFront : Prop :=
  ∀ (c : Instr) (s : State), step { s with pending := c :: s.pending } = exec c s

/-- Tier 1. Every command answers a next state on every state, none ends in a fault or a refusal; and on an empty queue a step moves the model's clock on by 1 µs and changes nothing
else (the model's choice, assumption 1). -/
def Obligations.StepAlwaysAnswers : Prop :=
  (∀ (c : Instr) (s : State), ∃ t, exec c s = .next t) ∧ (∀ s : State, ∃ t, step s = .next t) ∧
  (∀ s : State, s.pending = [] → ∃ t, step s = .next t ∧ t.now = s.now + 1 ∧ Only [.now] s t)

/-- Tier 1. The state after reset: every field of every register table reads its reset value, in every instance and bank, no byte of memory differs from 0, no ring holds an entry, no
mailbox a message, no event is pending, and no command waits. The spec gives memory no contents at reset (assumption 2). -/
def Obligations.ResetState : Prop :=
  (∀ (f : Field) (i b : Nat), State.reset.regB f i b = f.resetAt i) ∧ (∀ a, State.reset.byte a = 0) ∧ (∀ q, State.reset.ring q = []) ∧
  (∀ m e, State.reset.eventPending m e = false) ∧ State.reset.pending = [] ∧ State.reset.que.running = [] ∧ (∀ k, State.reset.mbx.boxes.getD k none = none)

/-! ## Bus accesses and registers (chapters 00, 01, 18) -/

/-- Whether every field of the register at a word address only stores: no action, no bank of masters. -/
def plainRegister (a : Nat) : Prop :=
  fieldsAt Reg.all a ≠ [] ∧
  ∀ p ∈ fieldsAt Reg.all a, (p.1.acc = .rw ∨ p.1.acc = .rwl ∨ p.1.acc = .ro) ∧ actOf storeActs p.1 = none ∧ p.1.banked = false ∧ p.1.live = false

/-- Tier 2. REGISTER_WRITE of the security core to a register of plain fields (R10, R11, R875): a field that may be stored takes its bits of the word (RW always, RWL while its lock
bit is clear) when they are a value of its set, and keeps its value otherwise; an RO field keeps it too. No other field and no other part of the state changes. -/
def Obligations.PlainRegisterWrite : Prop :=
  ∀ (s : State) (a w n : Nat), s.awake = true → regionOf a = some (.block n) → a % 4 = 0 → w < 2 ^ 32 → s.blockOff n = false → plainRegister a →
    (∀ p ∈ fieldsAt Reg.all a, s.guarded p = false) →
    Runs (.registerWrite 1 a 32 w) s (fun t =>
      (∀ p ∈ fieldsAt Reg.all a, t.regI p.1 p.2 =
        if (p.1.acc = .rw ∨ (p.1.acc = .rwl ∧ s.locked p.1 p.2 = false)) ∧ fieldTakes p.1 w = true then bits w p.1.lo p.1.width
        else s.regI p.1 p.2) ∧
      (∀ f i b, f ∈ Reg.all → (f, i) ∉ fieldsAt Reg.all a → i < f.count * f.inner → t.regB f i b = s.regB f i b) ∧ Only [.regs] s t)

/-- Tier 2. REGISTER_WRITE to memory (Tables 01-2, 01-4, R874, and the model's choice that this row carries every bus write, assumption 3): an aligned write of 8, 16 or 32 bits that the
region serves stores exactly its bytes, little-endian (R7); every other byte and every other part stays. -/
def Obligations.MemoryWrite : Prop :=
  ∀ (s : State) (m a width v : Nat) (r : Region), s.onBus m = true → regionOf a = some r → r ≠ .locket → (∀ n, r ≠ .block n) → naturally a width = true →
    s.memServes m a r true = true →
    Runs (.registerWrite m a width v) s (fun t =>
      (∀ i, i < width / 8 → t.byte (a + i) = (leBytes (width / 8) v).getD i 0) ∧ (∀ b, (b < a ∨ a + width / 8 ≤ b) → t.byte b = s.byte b) ∧ Only [.mem] s t)

/-- The bus-fault record of one fault (R853) on a state that has recorded none: its kind, master, address and direction, COUNT 1, E_190. -/
def FaultRecorded (kind m a : Nat) (write : Bool) (s t : State) : Prop :=
  (s.reg Reg.SYS_BUSFAULT_INFO_COUNT = 0 →
    t.reg Reg.SYS_BUSFAULT_INFO_KIND = kind ∧ t.reg Reg.SYS_BUSFAULT_INFO_MASTER = m ∧ t.reg Reg.SYS_BUSFAULT_ADDR_ADDR = a ∧
      t.reg Reg.SYS_BUSFAULT_INFO_WRITE = ofBool write) ∧
  t.reg Reg.SYS_BUSFAULT_INFO_COUNT = satInc 16 (s.reg Reg.SYS_BUSFAULT_INFO_COUNT) ∧ Raised 190 t ∧
  FieldsKept [Reg.SYS_BUSFAULT_INFO_KIND, Reg.SYS_BUSFAULT_INFO_MASTER, Reg.SYS_BUSFAULT_ADDR_ADDR, Reg.SYS_BUSFAULT_INFO_WRITE, Reg.SYS_BUSFAULT_INFO_COUNT,
    Reg.SYS_BUSFAULT_INFO_OVERRUN] s t ∧
  Only [.regs, .evt] s t

/-- Tier 2. R20: an access outside every range of Table 01-2 is a bus error with read data 0xDEAD_0FF5; write data is ignored (nothing but the record and the event changes), and the record
holds a decode error with the master and the address. UNMAPPED_ACCESS and a REGISTER_WRITE there do the same. -/
def Obligations.UnmappedAccess : Prop :=
  ∀ (s : State) (m a width v : Nat), s.onBus m = true → a < 2 ^ 32 → regionOf a = none →
    Runs (.unmappedAccess m a true) s (FaultRecorded 0 m a true s) ∧ Runs (.unmappedAccess m a false) s (FaultRecorded 0 m a false s) ∧
    Runs (.registerWrite m a width v) s (FaultRecorded 0 m a true s) ∧ (s.busWrite m a width v).1 ≠ some stOK ∧
    (s.busRead m a width).1 ≠ stOK ∧ (s.busRead m a width).2.1 = 0xDEAD0FF5

/-- Tier 2. R23: once the IEEE 1149.1 port is locked, no write of the debug master is taken and no byte of memory or part of the machine but the fault record changes; its reads give
0xDEAD_0FF5, and its messages, acknowledgements, Clasp reads and Clasp writes leave the state as it was. -/
def Obligations.DebugLockedOut : Prop :=
  (∀ (s : State) (a width v : Nat), s.jtagLocked = true →
    (s.busWrite 7 a width v).1 ≠ some stOK ∧ Only [.regs, .evt] s (s.busWrite 7 a width v).2 ∧
    (s.busRead 7 a width).1 ≠ stOK ∧ (s.busRead 7 a width).2.1 = 0xDEAD0FF5 ∧ Only [.regs, .evt] s (s.busRead 7 a width).2.2) ∧
  (∀ (s : State) (b : Fin 8) (k : Fin 32) (v : Nat), s.jtagLocked = true →
    Runs (.mailboxSend 7) s (fun t => Raised 190 t ∧ Only [.regs, .evt] s t) ∧ Runs (.mailboxAck 7 b) s (fun t => t = s) ∧ Runs (.claspRead 7 k) s (fun t => t = s) ∧ Runs (.claspWrite 7 k v) s (fun t => t = s))

/-- Tier 2. Accesses that are refused. Whoever writes credential RAM, whatever the width, has a policy error (KIND 1) and no byte changes (R28), and POLICY_ACCESS with the same operands
ends so too; a write of the security core to a register that the authority window guards, while no window names it, is ignored and recorded as a policy error (R32); an access of a master
that the window serves to a block that is off ends in BLOCK_OFF: KIND 2 in the record, read data 0xDEAD_0FF5, a write ignored (R852). -/
def Obligations.RefusedAccesses : Prop :=
  (∀ (s : State) (m a width v : Nat), s.onBus m = true → m ≤ 7 → regionOf a = some .credential →
    Runs (.registerWrite m a width v) s (FaultRecorded 1 m a true s) ∧ Runs (.policyAccess m a width v true) s (FaultRecorded 1 m a true s)) ∧
  (∀ (s : State) (a w n : Nat) (p : Field × Nat), s.awake = true → regionOf a = some (.block n) → a % 4 = 0 → w < 2 ^ 32 → s.blockOff n = false →
    (fieldsAt Reg.all a).find? (fun x => s.guarded x) = some p → s.namedWord 1 a w p.1 = none →
    Runs (.registerWrite 1 a 32 w) s (FaultRecorded 1 1 a true s)) ∧
  (∀ (s : State) (m a v n : Nat) (write : Bool), s.onBus m = true → m ≤ 7 → regionOf a = some (.block n) → a % 4 = 0 → s.blockServes m n write = true → s.blockOff n = true →
    Runs (.blockOffAccess m a write) s (FaultRecorded 2 m a write s) ∧
    (write = true → Runs (.registerWrite m a 32 v) s (FaultRecorded 2 m a true s) ∧ (s.busWrite m a 32 v).1 = some stBLOCKOFF) ∧
    (write = false → (s.busRead m a 32).1 = stBLOCKOFF ∧ (s.busRead m a 32).2.1 = 0xDEAD0FF5))

/-! ## The whole machine -/

/-- The canonical forms: memory with addresses strictly rising and no listed byte equal to 0, the register store with keys strictly rising. -/
def CanonicalForms (s : State) : Prop := memoryWf s.mem = true ∧ regsWf s.regs = true

/-- Tier 1. The canonical forms hold after reset. -/
def Obligations.FormsAtReset : Prop := CanonicalForms State.reset

/-- Tier 3. Every step, whatever command stands in front, keeps the canonical forms of memory and of the register store, and no step opens the IEEE 1149.1 port again (R23). -/
def Obligations.StepKeepsForms : Prop :=
  ∀ s t : State, CanonicalForms s → step s = .next t → CanonicalForms t ∧ (s.jtagLocked = true → t.jtagLocked = true)

/-- Tier 3. R44's rule for the release outputs: a step after which REL_A is driven high, and before which it was not, ran SIGNET_SEALED, or ran VIO_RESTORED while a release was in
force (R862); whatever else is commanded, no other command asserts a release. -/
def Obligations.ReleaseOnlyBySignet : Prop :=
  ∀ (c : Instr) (s t : State), exec c s = .next t → t.pins.relA = some true → s.pins.relA = some true ∨ c = .signetSealed ∨ (c = .vioRestored ∧ s.gov.rel ≠ none)

/-! ## Supplies, pins, resets, stages (chapters 02, 03) -/

/-- Tier 2. Supplies and level pins. COLD_POWER_UP with the other supply there and no reset pin low begins stage 0 with BOOT_STAT 0b000 (R137, R140); BROWNOUT and AON_POWER_LOSS leave the
device without power and note their reset class (R154, R156); HOLDUP_EXHAUSTED ends the hold-up commit (R93); HOLDUP_READY and WP_N follow their pins (R95, R69); VIO below its level in
run floats the release outputs, and VIO back drives them again (R862). -/
def Obligations.SupplyCommands : Prop :=
  (∀ (s : State) (vio : Bool), s.pwr.phase = .off → (vio = true ∨ s.pins.vio = true) → (vio = false ∨ s.pins.vsup = true) → s.pins.resetLow = false → s.pins.pairRstLow = false →
    Runs (.coldPowerUp vio) s (fun t => t.pwr.phase = .stage 0 ∧ t.pins.bootStat = some 0 ∧ t.pins.vsup = true ∧ t.pins.vio = true ∧ t.pwr.aonUp = (s.pwr.aonUp || !vio) ∧ Only [.pwr, .pins, .lfa, .hft] s t)) ∧
  (∀ s : State, Runs .aonPowerLoss s (fun t => t.pwr.phase = .off ∧ t.pwr.causes = 1 ∧ t.pins.vsup = false ∧ t.pins.relA = none ∧ t.pins.relBn = none ∧ t.devnum = s.devnum)) ∧
  (∀ (s : State) (v : Nat), s.pins.vsup = true →
    Runs (.brownout v) s (fun t => t.pwr.phase = .off ∧ t.pwr.causes = s.pwr.causes ||| 2 ∧ t.pins.vsup = false ∧ t.pins.relA = none ∧ t.lkt.worn = s.lkt.worn ∧
      (s.lkt.writes = [] → s.key.vaultJob = none → t.lkt.rings = s.lkt.rings))) ∧
  (∀ s : State, s.pins.vsup = false → Runs .holdupExhausted s (fun t => t.pwr.holdupOut = true ∧ t.pins.holdupReady = false ∧ Only [.pwr, .pins] s t)) ∧
  (∀ (s : State) (r : Bool), Runs (.holdupReadyChange r) s (fun t => t.pins.holdupReady = r ∧ Only [.pins] s t)) ∧
  (∀ (s : State) (l : Bool), Runs (.wpNChange l) s (fun t => t.pins.wpLow = l ∧ Only [.pins] s t)) ∧
  (∀ s : State, s.mainUp = true → s.pwr.vioLow = false →
    Runs .vioUndervoltage s (fun t => t.pins.vio = false ∧ t.pins.relA = none ∧ t.pins.relBn = none ∧ t.pwr.vioLow = true ∧ Only [.pins, .pwr, .regs, .jnl, .evt, .que] s t)) ∧
  (∀ s : State, s.pins.vio = false → s.mainUp = true → s.pwr.phase ≠ .noImage →
    Runs .vioRestored s (fun t => t.pins.vio = true ∧ t.pins.relA = some s.gov.rel.isSome ∧ t.pins.relBn = some (!s.gov.rel.isSome) ∧ t.pwr.vioLow = false ∧
      Only [.pins, .pwr, .lfa] s t))

/-- Tier 2. What a device reset does to registers and memory, for the classes that one command each brings about: after AON_POWER_LOSS (A), BROWNOUT (B), RESET_N_ASSERT (P),
PARTNER_RESET (X) and SOFTWARE_SYSTEM_RESET (S), every field whose Reset class column lists the class reads its reset value and every other field its value before (R15); the queue of
commands, the device number and the lock of the IEEE 1149.1 port stay, and after all but A each byte of the Locket's shadow does when no write waits there
(R160; a selector not yet accepted is taken back, R472, R490). -/
def Obligations.ResetClassesOfFields : Prop :=
  ∀ (s : State) (c : ResetClass) (i : Instr), regsWf s.regs = true → memoryWf s.mem = true →
    ((c = .A ∧ i = .aonPowerLoss) ∨ (c = .B ∧ (∃ v, i = .brownout v) ∧ s.pins.vsup = true) ∨ (c = .P ∧ i = .resetNAssert ∧ (s.pwr.phase ≠ .off ∨ s.pwr.aonUp = true)) ∨
      (c = .X ∧ i = .partnerReset ∧ (s.pwr.phase ≠ .off ∨ s.pwr.aonUp = true) ∧ s.tsu.resetDriveUntil ≤ s.now) ∨ (c = .S ∧ i = .softwareSystemReset 1 0xA5 ∧ s.mainUp = true)) →
    Runs i s (fun t =>
      (∀ (f : Field) (n b : Nat), f ∈ Reg.all → t.regB f n b = if f.classes.testBit c.bit then f.resetAt n else s.regB f n b) ∧
      t.pending = s.pending ∧ t.devnum = s.devnum ∧ t.jtagLocked = s.jtagLocked ∧
      (c ≠ .A → s.lkt.writes = [] → s.key.vaultJob = none → ∀ a, lktBase ≤ a → a < lktBase + 0x8000 → t.byte a = s.byte a))

/-- Tier 2. Reset pins and the software reset: RESET_N or PAIR_RST_N low holds the device, at the memory stage when VCORE is in regulation and at the first stage otherwise (R138, R867);
its release begins that stage once neither pin is low; the software reset begins it at once (R156), another value or master does nothing (R163), and a master that Table 01-4 gives no
write there has a policy error (R25). -/
def Obligations.ResetPins : Prop :=
  (∀ s : State, s.pwr.phase ≠ .off → Runs .resetNAssert s (fun t => t.pwr.phase = .held (if s.vcoreUp then 2 else 0) ∧ t.pins.resetLow = true ∧ t.pins.relA = none)) ∧
  (∀ s : State, s.pwr.phase ≠ .off → s.tsu.resetDriveUntil ≤ s.now →
    Runs .partnerReset s (fun t => t.pwr.phase = .held (if s.vcoreUp then 2 else 0) ∧ t.pins.pairRstLow = true ∧ t.pins.relA = none)) ∧
  (∀ (s : State) (n : Nat), s.pwr.phase = .held n → s.pins.pairRstLow = false →
    Runs .resetNRelease s (fun t => t.pwr.phase = .stage n ∧ t.pins.resetLow = false ∧ t.pins.bootStat = some 0 ∧ Only [.pwr, .pins] s t)) ∧
  (∀ (s : State) (n : Nat), s.pwr.phase = .held n → s.pins.resetLow = false →
    Runs .partnerResetRelease s (fun t => t.pwr.phase = .stage n ∧ t.pins.pairRstLow = false ∧ t.pins.bootStat = some 0 ∧ Only [.pwr, .pins] s t)) ∧
  (∀ s : State, s.mainUp = true → Runs (.softwareSystemReset 1 0xA5) s (fun t => t.pwr.phase = .stage (if s.vcoreUp then 2 else 0) ∧ t.pwr.causes = s.pwr.causes ||| 32 ∧ t.pins.relA = none)) ∧
  (∀ (s : State) (m : Nat) (k : BitVec 8), m ≠ 1 ∨ k ≠ 0xA5 → s.mayWriteField m Reg.PWR_RST_REQ_KEY = true → Runs (.softwareSystemReset m k) s (fun t => t = s)) ∧
  (∀ (s : State) (m : Nat) (k : BitVec 8), m ≤ 7 → s.mayWriteField m Reg.PWR_RST_REQ_KEY = false →
    Runs (.softwareSystemReset m k) s (FaultRecorded 1 m Reg.PWR_RST_REQ_KEY.addr true s))

/-- Tier 2. Power-up stages (R136, R139, R141): the ready signal of stages 1 to 3 begins the next one, the oscillator's being passed over after a detuning wake; a stage beyond its bound of Table 03-5 enters BOOT_FAULT with the stage's code, the
release outputs at high impedance; in BOOT_FAULT the BOOT_STAT pins alternate between the code and 0b000. RECOV_N low at the end of the logic stage after a reset leads to recovery (R830). -/
def Obligations.PowerUpStages : Prop :=
  (∀ (s : State) (a b c : Bool) (n : Nat), s.pwr.phase = .stage n → n < 2 →
    Runs (.powerUpStage a b c) s (fun t => t.pwr.phase = .stage (if n = 0 ∧ s.oscillatorRuns = true then 2 else n + 1) ∧ t.pwr.stageAt = s.now ∧ Only [.pwr] s t)) ∧
  (∀ (s : State) (a b c : Bool), s.pwr.phase = .stage 2 → Runs (.powerUpStage a b c) s (fun t => t.pwr.phase = .stage 3)) ∧
  (∀ (s : State) (n : Nat), s.pwr.phase = .stage n → s.pwr.stageAt + stageBound n s.secureKept < s.now → n < 4 →
    Runs .bootFault s (fun t => t.pwr.phase = .bootFault (n + 1) ∧ t.reg Reg.PWR_BOOT_FAULT_STAGE = n + 1 ∧ t.pins.bootStat = some (n + 1) ∧ t.pins.relA = none ∧ t.pins.relBn = none ∧
      Only [.pwr, .pins, .regs, .tsu] s t)) ∧
  (∀ (s : State) (a c : Bool), s.pwr.phase = .stage 3 → s.pwr.wakeFrom = 0 → s.glt.heldFrame = none →
    Runs (.powerUpStage a true c) s (fun t => t.pwr.phase = .recovery ∧ t.pins.bootStat = some 5 ∧ t.tsu.secondary = c)) ∧
  (∀ (s : State) (c : Nat), s.pwr.phase = .bootFault c → s.pwr.stageAt + 225000 ≤ s.now →
    Runs .bootFaultBlink s (fun t => t.pins.bootStat = some (if s.pins.bootStat = some 0 then c else 0) ∧ t.pwr.stageAt = s.now ∧ Only [.pwr, .pins] s t))

/-- Tier 2. Performance levels, droop and Capo. The granted level becomes the lower performance of LEVEL and the caps (R100), VCORE first upward, the clock first downward (R101); a droop
episode counts and raises E_181 (R105); a Capo sample at a limit lowers the LF cap by 1 at most every 10 ms (R107); Tj at 155 °C begins the thermal stop with E_183 (R110); 100 ms of cool
samples raise the caps again in the reverse order (R108). -/
def Obligations.LevelsAndCapo : Prop :=
  (∀ s : State, s.pwr.busy = false → s.mainUp = true → s.levelTarget ≠ s.pwr.granted →
    Runs .levelChange s (fun t => t.pwr.granted = max (s.reg Reg.CLK_PERF_LEVEL) (max s.pwr.levelCap (if s.pwr.dip then 3 else 0)) ∧ t.pwr.busy = true ∧
      (t.pwr.granted < s.pwr.granted → t.pwr.vcoreLevel = t.pwr.granted ∧ t.pwr.clkLevel = s.pwr.clkLevel) ∧
      (s.pwr.granted < t.pwr.granted → t.pwr.clkLevel = t.pwr.granted ∧ t.pwr.vcoreLevel = s.pwr.vcoreLevel) ∧ Only [.pwr] s t)) ∧
  (∀ s : State, s.pwr.busy = true → Runs .levelChangeDone s (fun t => t.pwr.busy = false ∧ t.pwr.clkLevel = s.pwr.granted ∧ t.pwr.vcoreLevel = s.pwr.granted ∧
    (∀ l, s.pwr.nextLevel = some l → t.reg Reg.CLK_PERF_LEVEL = low 2 l) ∧ FieldsKept [Reg.CLK_PERF_LEVEL] s t ∧ Only [.pwr, .regs] s t)) ∧
  (∀ s : State, s.pwr.droop = false → s.mainUp = true → Runs .droopBegin s (fun t => t.pwr.droop = true ∧ t.reg Reg.CLK_DROOP_COUNT = satInc 16 (s.reg Reg.CLK_DROOP_COUNT) ∧
    Raised 181 t ∧ FieldsKept [Reg.CLK_DROOP_COUNT] s t ∧ Only [.pwr, .regs, .evt] s t)) ∧
  (∀ s : State, Runs .droopEnd s (fun t => t.pwr.droop = false ∧ Only [.pwr] s t)) ∧
  (∀ (s : State) (tj : BitVec 8) (mw : BitVec 12), s.mainUp = true → s.pwr.thermal = false → tj.toNat < 219 →
    Runs (.capoSample tj mw) s (fun t => t.pwr.tj = tj.toNat ∧ t.pwr.powerLog = (mw.toNat :: s.pwr.powerLog).take 10 ∧ t.pwr.powerEst = t.pwr.powerLog.sum / t.pwr.powerLog.length ∧
      t.pwr.lfCap = (if (s.reg Reg.CLK_CAPO_CFG_TJ_LIMIT + 64 ≤ tj.toNat ∨ s.reg Reg.CLK_CAPO_CFG_PWR_LIMIT ≤ t.pwr.powerEst) ∧ 1 < s.pwr.lfCap ∧
        (∀ x, s.pwr.stepDownAt = some x → x + 10000 ≤ s.now) then s.pwr.lfCap - 1 else s.pwr.lfCap) ∧ Only [.pwr, .evt] s t)) ∧
  (∀ (s : State) (tj : BitVec 8) (mw : BitVec 12), s.mainUp = true → s.pwr.thermal = false → 219 ≤ tj.toNat →
    Runs (.capoSample tj mw) s (fun t => t.pwr.thermal = true ∧ Raised 183 t)) ∧
  (∀ (s : State) (x : Nat), s.pwr.coolSince = some x → x + 100000 ≤ s.now → (0 < s.pwr.levelCap ∨ s.pwr.lfCap < 4) →
    Runs .capoStepUp s (fun t => (0 < s.pwr.levelCap → t.pwr.levelCap = s.pwr.levelCap - 1 ∧ t.pwr.lfCap = s.pwr.lfCap) ∧
      (s.pwr.levelCap = 0 → t.pwr.lfCap = s.pwr.lfCap + 1 ∧ t.pwr.levelCap = 0) ∧ Raised 183 t ∧ Only [.pwr, .evt] s t))

/-- Tier 2. The sleep handshake: a query asks every block and reports the lowest-numbered refusal with its cause (R119, R120); a commit is accepted only while OUTCOME is ready and nothing
has arisen, refused with cause 12 in a dip and 11 otherwise (R121), and stops the blocks (R122); the entry completes into the state (R125), or into S3 when the count of idle days was reached on the way (R127), or rolls back (R123); SLEEP_REQ completes OK with
what the query found (R118). A wake source that the state accepts begins the stages and is recorded (R115). -/
def Obligations.SleepHandshake : Prop :=
  (∀ (s : State) (m : Nat), (m = 1 ∨ m = 2) → s.pwr.phase = .run → s.pwr.querying = false →
    Runs (.sleepQuery m) s (fun t => t.pwr.querying = true ∧ t.reg Reg.PWR_SLEEP_CTL_QUERY = 1)) ∧
  (∀ s : State, s.pwr.querying = true → Runs .sleepQueryResult s (fun t => t.pwr.querying = false ∧
    (s.sleepRefusals (s.reg Reg.PWR_SLEEP_CTL_TARGET) none s.partnerAwake = [] → t.reg Reg.PWR_SLEEP_STAT_OUTCOME = 1) ∧
    (∀ b k l, s.sleepRefusals (s.reg Reg.PWR_SLEEP_CTL_TARGET) none s.partnerAwake = (b, k) :: l →
      t.reg Reg.PWR_SLEEP_STAT_OUTCOME = 2 ∧ t.reg Reg.PWR_SLEEP_STAT_REFUSER = low 5 b ∧ t.reg Reg.PWR_SLEEP_STAT_CAUSE = low 4 k) ∧
    FieldsKept [Reg.PWR_SLEEP_STAT_OUTCOME, Reg.PWR_SLEEP_STAT_REFUSER, Reg.PWR_SLEEP_STAT_CAUSE, Reg.PWR_SLEEP_CTL_QUERY] s t ∧ Only [.pwr, .regs] s t)) ∧
  (∀ (s : State) (r : Running), s.running 0 2 = some r →
    Runs .sleepReq s (fun t => Completed r blkSYS stOK 0 (leBytes 1 (t.reg Reg.PWR_SLEEP_STAT_OUTCOME) ++ leBytes 1 (t.reg Reg.PWR_SLEEP_STAT_REFUSER) ++ leBytes 1 (t.reg Reg.PWR_SLEEP_STAT_CAUSE)) t ∧
      t.reg Reg.PWR_SLEEP_CTL_TARGET = (if 1 ≤ r.num 0 1 ∧ r.num 0 1 ≤ 4 then r.num 0 1 else s.reg Reg.PWR_SLEEP_CTL_TARGET))) ∧
  (∀ (s : State) (m : Nat), (m = 1 ∨ m = 2) → s.pwr.phase = .run → s.pwr.dip = false → s.reg Reg.PWR_SLEEP_STAT_OUTCOME = 1 → s.pwr.disturbed = none → s.sleepArisen = none →
    s.sleepRefusals (s.reg Reg.PWR_SLEEP_CTL_TARGET) none s.partnerAwake = [] →
    Runs (.sleepCommit m) s (fun t => t.pwr.phase = .entering s.sleepTarget.1 ∧ t.fences.stopped = stoppedBlocks ∧ t.reg Reg.PWR_SLEEP_CTL_COMMIT = 1 ∧ Only [.pwr, .regs, .fences] s t)) ∧
  (∀ (s : State) (m : Nat), (m = 1 ∨ m = 2) → s.pwr.phase = .run → (s.pwr.dip = true ∨ s.reg Reg.PWR_SLEEP_STAT_OUTCOME ≠ 1 ∨ s.pwr.disturbed ≠ none ∨ s.sleepArisen ≠ none) →
    Runs (.sleepCommit m) s (fun t => t.pwr.phase = .run ∧ t.reg Reg.PWR_SLEEP_STAT_OUTCOME = 2 ∧
      t.reg Reg.PWR_SLEEP_STAT_CAUSE = (if s.pwr.dip = true ∨ s.pwr.disturbed = some 12 then 12 else 11) ∧ Only [.regs] s t)) ∧
  (∀ (s : State) (n m : Nat), s.pwr.phase = .entering n → s.sleepRefusals n none s.partnerAwake = [] → s.sleepArisen = none →
    m = (if s.pwr.storing = false ∧ n ≤ 2 ∧ s.sleepTarget.2 = true then 3 else n) →
    Runs .sleepEntryComplete s (fun t => t.pwr.phase = .sleep m ∧ t.reg Reg.PWR_SLEEP_STAT_ENTERED = low 3 m ∧ t.reg Reg.PWR_SLEEP_CTL_COMMIT = 0 ∧ t.pins.relA = none ∧ t.pending = s.pending ∧
      (s.pwr.storing = true ∨ m ≠ n → t.reg Reg.PWR_IDLE_STAT_STORAGE = 1))) ∧
  (∀ (s : State) (n b k : Nat) (l : List (Nat × Nat)), s.pwr.phase = .entering n → s.sleepRefusals n none s.partnerAwake ++ s.sleepArisen.toList = (b, k) :: l →
    Runs .sleepEntryComplete s (fun t => t.pwr.phase = .run ∧ t.reg Reg.PWR_SLEEP_STAT_OUTCOME = 3 ∧ t.reg Reg.PWR_SLEEP_CTL_COMMIT = 0 ∧ t.fences.stopped = [] ∧ Raised 182 t ∧
      Only [.pwr, .regs, .evt, .fences, .can, .tsu] s t)) ∧
  (∀ (s : State) (src : Fin 9) (i : Fin 16) (n : Nat), s.pwr.phase = .sleep n → s.wakeEnabled src = true → sleepAccepts n src = true → (src ≠ 7 ∨ ∃ h ∈ s.tmp.held, s.tmpResp h.sensor ≠ 0) →
    Runs (.wakeEvent src i) s (fun t => t.pwr.phase = .stage 0 ∧ t.pwr.wakeFrom = n ∧ t.reg Reg.PWR_WAKE_SRC_SOURCE = src.val ∧ t.reg Reg.PWR_WAKE_SRC_INDEX = (if src.val ≤ 3 then i.val else 0) ∧
      FieldsKept [Reg.PWR_WAKE_SRC_SOURCE, Reg.PWR_WAKE_SRC_INDEX] s t ∧ Only [.pwr, .pins, .regs] s t))

/-- The STANDBY asked for a sleep state by CONTROL SLEEP: its target is the one named, within R875 (R798). -/
def asked (b : List Byte) (f : Frame) (s : State) : State := (heardOf 0x40 b s).putTarget (f.num 1 1)

/-- Tier 2. Sleep in a pair and in storage: CONTROL SLEEP makes a STANDBY without a refusal commit to the state named or to S3 in the storage regime, and one with a refusal stay in run with
it in SLEEP_STAT (R798); the STANDBY's answer is noted; a day that has passed counts and at the count of idle days turns S1 and S2 into S3 with its regime (R126, R127), and a day that has not
passed changes nothing; 10 s without an accepted telegram after a touch or UHF wake in S3 lead back there (R129, R304). -/
def Obligations.SleepRegimes : Prop :=
  (∀ (s : State) (b : List Byte) (f : Frame), Arrives 0x40 b f s → f.num 0 1 = 0 → (heardOf 0x40 b s).isStandby = true → (heardOf 0x40 b s).pwr.phase = .run →
    ((asked b f s).sleepRefusals ((asked b f s).reg Reg.PWR_SLEEP_CTL_TARGET) none (asked b f s).partnerAwake = [] →
      Runs (.controlSleep b) s (fun t => t.pwr.phase = .entering (asked b f s).sleepTarget.1 ∧ t.fences.stopped = stoppedBlocks ∧ t.reg Reg.PWR_SLEEP_CTL_COMMIT = 1)) ∧
    (∀ n k l, (asked b f s).sleepRefusals ((asked b f s).reg Reg.PWR_SLEEP_CTL_TARGET) none (asked b f s).partnerAwake = (n, k) :: l →
      Runs (.controlSleep b) s (fun t => t.pwr.phase = .run ∧ t.reg Reg.PWR_SLEEP_STAT_OUTCOME = 2 ∧ t.reg Reg.PWR_SLEEP_STAT_REFUSER = low 5 n ∧
        t.reg Reg.PWR_SLEEP_STAT_CAUSE = low 4 k))) ∧
  (∀ (s : State) (b : List Byte) (f : Frame), Arrives 0x40 b f s → f.num 0 1 = 1 → (heardOf 0x40 b s).isStandby = false →
    Runs (.sleepAnswer b) s (fun t => t.tsu.sleepAnswer = some (f.num 1 1 == 1, f.num 2 1, f.num 3 1) ∧ Only [.tsu] (heardOf 0x40 b s) t)) ∧
  (∀ s : State, s.pwr.dayAt + 86400000000 ≤ s.now →
    Runs .dayTick s (fun t => t.reg Reg.PWR_IDLE_STAT_DAYS_ELAPSED = satInc Reg.PWR_IDLE_STAT_DAYS_ELAPSED.width (s.reg Reg.PWR_IDLE_STAT_DAYS_ELAPSED) ∧ t.pwr.dayAt = s.now ∧
      ((s.sleeping = 1 ∨ s.sleeping = 2) → s.reg Reg.PWR_IDLE_CFG_DAYS ≤ t.reg Reg.PWR_IDLE_STAT_DAYS_ELAPSED →
        t.pwr.phase = .sleep 3 ∧ t.reg Reg.PWR_SLEEP_STAT_ENTERED = 3 ∧ t.reg Reg.PWR_IDLE_STAT_STORAGE = 1 ∧ t.lfa.pings = [] ∧ t.lfa.fret = none) ∧
      (s.sleeping ≠ 1 → s.sleeping ≠ 2 → t.pwr.phase = s.pwr.phase ∧ t.lfa = s.lfa) ∧
      FieldsKept [Reg.PWR_IDLE_STAT_DAYS_ELAPSED, Reg.PWR_SLEEP_STAT_ENTERED, Reg.PWR_IDLE_STAT_STORAGE] s t ∧ Only [.pwr, .regs, .lfa] s t)) ∧
  (∀ s : State, s.now < s.pwr.dayAt + 86400000000 → Runs .dayTick s (fun t => t = s)) ∧
  (∀ (s : State) (x : Nat), s.pwr.listenSince = some x → x + 9900000 ≤ s.now → s.pwr.phase = .run →
    Runs .storageListenTimeout s (fun t => t.pwr.phase = .entering 3 ∧ t.fences.stopped = stoppedBlocks ∧ t.reg Reg.PWR_SLEEP_CTL_COMMIT = 1 ∧
      FieldsKept [Reg.PWR_SLEEP_CTL_COMMIT] s t ∧ Only [.pwr, .regs, .fences] s t)) ∧
  (∀ s : State, s.pwr.listenSince = none → Runs .storageListenTimeout s (fun t => t = s))

/-- Tier 2. The supply dip (R145 to R153): it begins with DIP set, the count raised and, while MAIN is up, E_180; VSUP back above the recovery level is noted; 200 µs later (180 µs at the
earliest) DIP is cleared with E_180. -/
def Obligations.SupplyDip : Prop :=
  (∀ (s : State) (v : Nat), s.pwr.dip = false → s.mainUp = true →
    Runs (.dipBegin v) s (fun t => t.pwr.dip = true ∧ t.reg Reg.PWR_SUPPLY_STAT_DIP_COUNT = satInc 16 (s.reg Reg.PWR_SUPPLY_STAT_DIP_COUNT) ∧ Raised 180 t)) ∧
  (∀ (s : State) (v n : Nat), s.pwr.dip = false → s.pwr.phase = .sleep n → n ≠ 4 →
    Runs (.dipBegin v) s (fun t => t.pwr.dip = true ∧ t.pwr.dipMin = v ∧ t.reg Reg.PWR_SUPPLY_STAT_DIP_COUNT = satInc 16 (s.reg Reg.PWR_SUPPLY_STAT_DIP_COUNT) ∧
      FieldsKept [Reg.PWR_SUPPLY_STAT_DIP_COUNT] s t ∧ Only [.pwr, .regs, .glt] s t)) ∧
  (∀ (s : State) (v : Nat), s.pwr.dip = true → Runs (.dipRecoveryRise v) s (fun t => t.pwr.dipRise = some s.now ∧ t.pwr.dipMin = min s.pwr.dipMin v ∧ t.pwr.dip = true ∧ Only [.pwr] s t)) ∧
  (∀ (s : State) (x : Nat), s.pwr.dip = true → s.pwr.dipRise = some x → x + 180 ≤ s.now → s.mainUp = true →
    Runs .dipEnd s (fun t => t.pwr.dip = false ∧ Raised 180 t)) ∧
  (∀ (s : State) (x : Nat), s.pwr.dip = true → s.pwr.dipRise = some x → x + 180 ≤ s.now → s.mainUp = false →
    Runs .dipEnd s (fun t => t.pwr.dip = false ∧ t.pwr.dipOwed.length = s.pwr.dipOwed.length + 1 ∧ Only [.pwr] s t))

/-! ## LF array and touch (chapter 04) -/

/-- Tier 2. LFA control: EN set by a master that may store it starts the Fret count at 0 and owes every enabled channel its seeding ping (R171, R212); a carrier frequency takes effect at
once while EN is clear and waits while it is set (R169); STOP marks a running queue sequence to end at the next boundary (R183); a Fret boundary counts (R179, R221). -/
def Obligations.LfaControl : Prop :=
  (∀ (s : State) (m : Nat), s.mayStore m Reg.LFA_CTRL_EN 0 = true → s.flag Reg.LFA_CTRL_EN = false →
    Runs (.lfaEnable m) s (fun t => t.flag Reg.LFA_CTRL_EN = true ∧ t.lfa.frets = 0 ∧ t.lfa.seeds = (List.range 16).filter (fun ch => s.regI Reg.LFA_CH_CFG_EN ch == 1) ∧
      FieldsKept [Reg.LFA_CTRL_EN] s t ∧ Only [.regs, .lfa] s t)) ∧
  (∀ (s : State) (m f : Nat), s.mayStore m Reg.LFA_CARRIER_FREQ 0 = true → 100000 ≤ f → f ≤ 150000 →
    (s.flag Reg.LFA_CTRL_EN = false → Runs (.lfaCarrierWrite m f) s (fun t => t.reg Reg.LFA_CARRIER_FREQ = f ∧ t.lfa.carrier = none ∧
      FieldsKept [Reg.LFA_CARRIER_FREQ] s t ∧ Only [.regs, .lfa] s t)) ∧
    (s.flag Reg.LFA_CTRL_EN = true → Runs (.lfaCarrierWrite m f) s (fun t => t.lfa.carrier = some f ∧ Only [.lfa] s t))) ∧
  (∀ (s : State) (m : Nat) (q : LfSeq), s.lfa.seq = some q → q.issuer ≠ 1 → s.mayWriteField m Reg.LFA_CTRL_STOP = true →
    Runs (.lfaStop m) s (fun t => t.lfa.seq = some { q with stop := true } ∧ t.lfa.fret = s.lfa.fret ∧ t.reg Reg.LFA_CTRL_STOP = 1 ∧ FieldsKept [Reg.LFA_CTRL_STOP] s t ∧
      Only [.lfa, .regs] s t)) ∧
  (∀ (s : State) (d : List (Nat × Nat)) (m : List (Nat × Nat × Nat)), s.flag Reg.LFA_CTRL_EN = true →
    Runs (.fretBoundary d m) s (fun t => t.lfa.frets = low 16 (s.lfa.frets + 1)))

/-- Tier 2. Channel faults (R168, R200, R201, R203): a bank below its undervoltage level latches VDRV_LOW on its four channels; OVERCURRENT latches, marks the Fret not valid and turns the
channel off until the Fret ends; a phase outside 4 steps of its target after the 8th driven cycle latches PHASE_ERR; each latch raises E_64 + n. -/
def Obligations.ChannelFaults : Prop :=
  (∀ (s : State) (b : Fin 4) (k : Nat), k < 4 →
    Runs (.vdrvUndervoltage b) s (fun t => t.regI Reg.LFA_CH_STAT_VDRV_LOW (4 * b.val + k) = 1 ∧ Raised (64 + (4 * b.val + k)) t ∧ b.val ∈ t.pwr.vdrvLow ∧ b.val ∈ t.lfa.bankOff ∧
      FieldsKept [Reg.LFA_CH_STAT_VDRV_LOW] s t ∧ Only [.regs, .evt, .pwr, .lfa] s t)) ∧
  (∀ (s : State) (b : Fin 4), Runs (.vdrvRecovered b) s (fun t => b.val ∉ t.pwr.vdrvLow ∧ b.val ∉ t.lfa.bankOff ∧ Only [.pwr, .lfa] s t)) ∧
  (∀ (s : State) (ch : Fin 16), s.drives ch.val = true →
    Runs (.channelOvercurrent ch) s (fun t => t.regI Reg.LFA_CH_STAT_OVERCURRENT ch.val = 1 ∧ Raised (64 + ch.val) t ∧ t.drives ch.val = false ∧
      (∀ f, t.lfa.fret = some f → f.bad = true) ∧ FieldsKept [Reg.LFA_CH_STAT_OVERCURRENT] s t ∧ Only [.regs, .evt, .lfa] s t)) ∧
  (∀ (s : State) (ch : Fin 16) (cycle current phase : Nat) (f : Fret) (x : Nat × Nat × Nat), s.lfa.fret = some f → f.slots.find? (fun y => y.1 == ch.val) = some x →
    s.drives ch.val = true → 8 < cycle → nearPhase phase (s.targetPhase ch.val x.2.2) = false →
    Runs (.channelSettleCheck ch cycle current phase) s (fun t => t.regI Reg.LFA_CH_STAT_PHASE_ERR ch.val = 1 ∧ Raised (64 + ch.val) t ∧ t.lfa.fret = some { f with bad := true } ∧
      FieldsKept [Reg.LFA_CH_STAT_PHASE_ERR] s t ∧ Only [.regs, .evt, .lfa] s t))

/-- Tier 2. Pings, presence and touch: a period that has passed makes the masked channels due (R207); a ring-down is reported (R206); PRES_HOLD of presence re-seeds the baseline from the
latest reading, clears PRESENCE and sets STUCK (R211); a scan of one enabled electrode stores its capacitance and tells touch by THRESH on DEB + 1 scans in a row and THRESH / 2 (R215);
30 s of touch re-seed BASE and clear TOUCH (R217). -/
def Obligations.PingsAndTouch : Prop :=
  (∀ (s : State) (p : Nat), s.pingPeriod = some p → s.sleeping ≠ 2 → s.flag Reg.LFA_CTRL_EN = true → s.lfa.pings = [] → s.lfa.pingAt + p ≤ s.now →
    Runs .pingDue s (fun t => t.lfa.pings = (List.range 16).filter (fun ch => bit (s.reg Reg.LFA_PING_CFG_MASK) ch) ∧ Only [.lfa] s t)) ∧
  (∀ (s : State) (ch : Fin 16) (df : BitVec 16) (q : BitVec 8), ch.val ∈ s.lfa.ringing →
    Runs (.pingResult ch df q) s (fun t => t.regI Reg.LFA_CH_RING_DF ch.val = df.toNat ∧ t.regI Reg.LFA_CH_RING_Q ch.val = q.toNat ∧
      (ch.val ∈ s.lfa.seeding → t.regI Reg.LFA_CH_BASE_DF_BASE ch.val = df.toNat ∧ t.regI Reg.LFA_CH_BASE_Q_BASE ch.val = q.toNat))) ∧
  (∀ (s : State) (ch : Fin 16), (s.presence ch.val).present = true → (s.presence ch.val).since + 1000000 * s.reg Reg.LFA_PRES_CFG_PRES_HOLD ≤ s.now →
    Runs (.presenceHoldExpiry ch) s (fun t => (t.presence ch.val).present = false ∧ t.regI Reg.LFA_CH_STAT_STUCK ch.val = 1 ∧
      t.regI Reg.LFA_CH_BASE_DF_BASE ch.val = s.regI Reg.LFA_CH_RING_DF ch.val % 2 ^ 16 ∧ t.regI Reg.LFA_CH_BASE_Q_BASE ch.val = s.regI Reg.LFA_CH_RING_Q ch.val % 2 ^ 8 ∧
      FieldsKept [Reg.LFA_CH_STAT_STUCK, Reg.LFA_CH_BASE_DF_BASE, Reg.LFA_CH_BASE_Q_BASE] s t ∧ Only [.regs, .lfa, .evt] s t)) ∧
  (∀ (s : State) (k c : Nat), k < 8 → c < 4096 → bit (s.reg Reg.TCH_CTRL_EN) k = true → s.sleeping ≤ 3 →
    s.lfa.scanAt + 1000 * (if s.sleeping = 0 then s.reg Reg.TCH_SCAN_PER_RUN else s.reg Reg.TCH_SCAN_PER_SLEEP) ≤ s.now →
    Runs (.touchScan [(k, c)]) s (fun t => t.lfa.scanAt = s.now ∧ (t.touchOf k).c = c ∧
      (t.touchOf k).touched = (if (s.touchOf k).touched then decide (2 * s.regI Reg.TCH_STAT_BASE k + s.regI Reg.TCH_CFG_THRESH k ≤ 2 * c)
        else decide (s.regI Reg.TCH_STAT_BASE k + s.regI Reg.TCH_CFG_THRESH k ≤ c ∧ s.regI Reg.TCH_CFG_DEB k < min 4 ((s.touchOf k).count + 1))))) ∧
  (∀ (s : State) (k : Fin 8), (s.touchOf k.val).touched = true → (s.touchOf k.val).since + 29000000 ≤ s.now →
    Runs (.touchHoldExpiry k) s (fun t => (t.touchOf k.val).touched = false ∧ t.regI Reg.TCH_STAT_BASE k.val = low 12 (s.touchOf k.val).c ∧
      FieldsKept [Reg.TCH_STAT_BASE] s t ∧ Only [.regs, .lfa] s t))

/-- Tier 2. LF queue commands (R192, R220): LF_RUN and LF_CAL issued while EN is clear complete with BLOCK_OFF, cause 8, and otherwise wait for their boundary as the newest sequence;
a kind that LF_RUN does not allow is cause 7; LF_STOP completes OK and stops the Q_2 sequence; LF_STATUS writes 128 bytes at its destination and no other byte. -/
def Obligations.LfQueueCommands : Prop :=
  (∀ (s : State) (r : Running), s.lfCommand 2 1 2 = some r → s.flag Reg.LFA_CTRL_EN = false → r.num 4 4 = 16 → s.rangeOk r.entry.master (r.num 0 4) 16 = true →
    (descriptor (s.bytes (r.num 0 4) 16)).kind = 2 → Runs .lfRun s (fun t => Completed r blkLFA stBLOCKOFF 8 (leBytes 4 0) t ∧ Only [.que, .evt, .regs] s t)) ∧
  (∀ (s : State) (r : Running) (k : Nat), s.lfCommand 2 1 2 = some r → s.flag Reg.LFA_CTRL_EN = true → 1 ≤ k → k ≤ 3 → r.num 4 4 = 16 * k → s.rangeOk r.entry.master (r.num 0 4) (16 * k) = true →
    (∀ i, i < k → (descriptor (s.bytes (r.num 0 4 + 16 * i) 16)).kind = 0 ∨ (descriptor (s.bytes (r.num 0 4 + 16 * i) 16)).kind = 2 ∨
      (descriptor (s.bytes (r.num 0 4 + 16 * i) 16)).kind = 3) →
    Runs .lfRun s (fun t => ∃ q, t.lfa.waiting = s.lfa.waiting ++ [q] ∧ q.issuer = 2 ∧ q.cmd = r.entry.seq ∧ q.descs.length = k ∧ Only [.lfa] s t)) ∧
  (∀ (s : State) (r : Running) (k : Nat), s.lfCommand 2 1 2 = some r → 1 ≤ k → k ≤ 3 → r.num 4 4 = 16 * k → s.rangeOk r.entry.master (r.num 0 4) (16 * k) = true →
    (∃ i, i < k ∧ ((descriptor (s.bytes (r.num 0 4 + 16 * i) 16)).kind = 1 ∨ 4 ≤ (descriptor (s.bytes (r.num 0 4 + 16 * i) 16)).kind)) →
    Runs .lfRun s (fun t => Completed r blkLFA stPOLICY 7 (leBytes 4 0) t ∧ Only [.que, .evt, .regs] s t)) ∧
  (∀ (s : State) (r : Running), s.running 2 2 = some r →
    Runs .lfStop s (fun t => Completed r blkLFA stOK 0 [] t ∧ (∀ q, s.lfa.seq = some q → q.issuer = 2 → t.lfa.seq = some { q with stop := true }) ∧ Only [.lfa, .que, .evt, .regs] s t)) ∧
  (∀ (s : State) (r : Running), s.lfCommand 13 0x20 3 = some r → s.flag Reg.LFA_CTRL_EN = true → 1 ≤ r.num 4 1 → r.num 4 1 ≤ 64 → r.num 2 2 ≤ 1023 → r.num 0 2 ≠ 0 →
    Runs .lfCal s (fun t => ∃ q, t.lfa.waiting = s.lfa.waiting ++ [q] ∧ q.issuer = 3 ∧ q.cmd = r.entry.seq ∧
      q.descs.length = ((List.range 16).filter (fun ch => bit (r.num 0 2) ch)).length ∧ Only [.lfa] s t)) ∧
  (∀ (s : State) (r : Running), s.running 13 0x21 = some r → s.rangeOk r.entry.master r.dest 128 = true → 128 ≤ r.destLen →
    Runs .lfStatus s (fun t => Completed r blkLFA stOK 0 (leBytes 4 128) t ∧ (∀ a, a < r.dest ∨ r.dest + 128 ≤ a → t.byte a = s.byte a) ∧ Only [.mem, .que, .evt, .regs] s t))

/-! ## Gelet, UHF, authentication (chapters 05, 06) -/

/-- A session may open now: none is open, nothing holds requests, RNG serves the TAG, and template n is not refused. -/
def SessionFree (s : State) (n : Nat) : Prop :=
  s.glt.sess = none ∧ s.crdSwitching = false ∧ s.nor.drain = none ∧ s.rngServes = true ∧ s.openRefused n = false

/-- A session of template n for an issuer has opened: number and TAG of R236 and R265, the evidence rings empty, E_96. -/
def SessionOpened (n : Nat) (i : GIssuer) (s t : State) : Prop :=
  (∃ g, t.glt.sess = some g ∧ g.number = low 32 (s.reg Reg.GLT_SESS_NUM_NUMBER + 1) ∧ g.step = .due .wake ∧ g.template = n ∧ g.issuer = i ∧ g.q = s.reg Reg.GLT_SESS_CFG_Q_START ∧
    (∀ x, s.glt.lastTag = some x → g.tag ≠ x) ∧ g.tag < 256 ∧ t.reg Reg.GLT_SESS_NUM_NUMBER = g.number) ∧
  (∀ q, 40 ≤ q → q ≤ 43 → t.ring q = []) ∧ Raised 96 t ∧ FieldsKept [Reg.GLT_SESS_NUM_NUMBER, Reg.GLT_SESS_CTL_TEMPLATE] s t ∧
  Only [.glt, .regs, .que, .evt, .fresh, .tsu, .crypto] s t

/-- No block of a session runs or waits. -/
def NoBlocks (s : State) (n : Nat) : Prop := s.uwb.block.all (fun b => b.session != n) = true ∧ ∀ w ∈ s.uwb.waiting, w.session ≠ n

/-- Tier 2. Sessions (R236, R262 to R265): GLT_OPEN by a core and SESSION_OPEN open one; with one open, SESSION_OPEN completes REFUSED_FULL with cause 7; GLT_ABORT marks the open session, ABORT reading 1;
T_MAX ends it with OK, cause 2, its next frame HALT 0xFFFF; an aborted one that finds no LF for 2 s completes without it. -/
def Obligations.Sessions : Prop :=
  (∀ (s : State) (m : Nat) (n : Fin 16), (m = 1 ∨ m = 2) → SessionFree s n.val → Runs (.gltOpen m n) s (SessionOpened n.val .core s)) ∧
  (∀ (s : State) (r : Running), s.que.running.find? (fun x => x.ring == 1 && x.entry.code == 1 && !x.started) = some r → SessionFree s (r.num 0 1) →
    Runs .sessionOpen s (SessionOpened (r.num 0 1) (.queue r.entry.seq) s)) ∧
  (∀ (s : State) (r : Running) (g : GSess), s.que.running.find? (fun x => x.ring == 1 && x.entry.code == 1 && !x.started) = some r → s.runningSeq 1 r.entry.seq = some r →
    s.glt.sess = some g → s.crdSwitching = false → s.nor.drain = none →
    Runs .sessionOpen s (fun t => Completed r blkGLT stFULL 7 (leBytes 4 g.number) t ∧ Only [.que, .evt, .regs] s t)) ∧
  (∀ (s : State) (m : Nat) (g : GSess), (m = 1 ∨ m = 2) → s.glt.sess = some g →
    Runs (.gltAbort m) s (fun t => t.glt.sess = some { g with abort := true } ∧ (∀ q, s.lfa.seq = some q → q.issuer = 1 → t.lfa.seq = some { q with stop := true }) ∧
      t.reg Reg.GLT_SESS_CTL_ABORT = 1 ∧ FieldsKept [Reg.GLT_SESS_CTL_ABORT] s t ∧ Only [.glt, .lfa, .regs] s t)) ∧
  (∀ (s : State) (g : GSess), s.glt.sess = some g → (∀ x, g.step ≠ .aborted x) → g.ends = none → NoBlocks s g.number → g.openedAt + 1000 * s.reg Reg.GLT_SESS_CFG_T_MAX ≤ s.now →
    Runs .sessionTimeout s (fun t => (∃ h, t.glt.sess = some h ∧ h.ends = some (stOK, 2) ∧ h.step = .due (.halt 0xFFFF) ∧ h.awaits = []) ∧
      t.lfa.waiting = s.lfa.waiting.filter (fun q => q.issuer != 1) ∧ t.reg Reg.GLT_SESS_CTL_ABORT = 0 ∧ FieldsKept [Reg.GLT_SESS_CTL_ABORT] s t ∧ Only [.glt, .lfa, .regs] s t)) ∧
  (∀ (s : State) (g : GSess) (x st c : Nat), s.glt.sess = some g → g.step = .aborted x → x + 2000000 ≤ s.now → g.ends = some (st, c) → s.pwr.dip = false → st < 256 → c < 256 →
    Runs .sessionTimeout s (fun t => t.glt.sess = none ∧ t.reg Reg.GLT_LAST_STATUS = st ∧ t.reg Reg.GLT_LAST_CAUSE = low Reg.GLT_LAST_CAUSE.width c ∧ Raised 101 t)) ∧
  (∀ (s : State) (m : Nat), s.mayWriteField m Reg.GLT_ERR_CLR_CLR = true →
    Runs (.gltErrClr m) s (fun t => t.reg Reg.GLT_ERR_CRC = 0 ∧ t.reg Reg.GLT_ERR_TIMING = 0 ∧ t.reg Reg.GLT_ERR_COLLISION = 0 ∧ t.reg Reg.GLT_ERR_NO_REPLY = 0 ∧
      FieldsKept [Reg.GLT_ERR_CRC, Reg.GLT_ERR_TIMING, Reg.GLT_ERR_COLLISION, Reg.GLT_ERR_NO_REPLY] s t ∧ Only [.regs] s t))

/-- A downlink frame d of the open session g is due and may go on the air. -/
def FrameDue (s : State) (g : GSess) (d : Downlink) : Prop :=
  s.glt.sess = some g ∧ g.step = .due d ∧ s.airFree = true ∧ s.lfAllowed = true ∧ s.flag Reg.LFA_CTRL_EN = true ∧ s.lfa.done = []

/-- The frame has been handed to LFA: these bytes with the CRC over this prefix byte (R232, R233), as GLT's newest sequence. -/
def FrameSent (d : Downlink) (pre : Nat) (body : List Byte) (s t : State) : Prop :=
  t.glt.sent = [body ++ beBytes 2 (geletCrc pre body)] ∧ (∃ g, t.glt.sess = some g ∧ g.step = .air d) ∧ (∃ q, t.lfa.waiting = s.lfa.waiting ++ [q] ∧ q.issuer = 1) ∧
  Only (match d with | .challenge _ => [.glt, .lfa, .tsu, .fresh, .crypto] | _ => [.glt, .lfa, .tsu]) s t

/-- Tier 2. The downlink frames of Table 05-2, byte for byte: WAKE, ROUND, CHALLENGE with its nonce from RNG, for which it waits (R538), MEASURE, REPORT, HALT, REPEAT, RELEASE, NEXT_SLOT. The bursts that WAKE, ROUND
and MEASURE announce are those of R254 and R258 for the session. WAKE's CRC runs over the prefix
0x00, every other over the session's TAG (R232, R233). -/
def Obligations.DownlinkFrames : Prop :=
  (∀ (s : State) (g : GSess), FrameDue s g .wake → Runs .wake s (FrameSent .wake 0
    (leBytes 1 (16 + g.mode % 16) ++ beBytes 2 (s.reg Reg.GLT_GROUP_GROUP) ++ leBytes 1 g.tag ++ leBytes 1 (16 * (g.q % 16) + (frameBursts (s.template g.template) g .wake).length % 16)) s)) ∧
  (∀ (s : State) (g : GSess) (l : List Nat), FrameDue s g (.round l) → Runs .round s (FrameSent (.round l) g.tag
    (leBytes 1 (32 + g.q % 16) ++ leBytes 1 (16 * ((frameBursts (s.template g.template) g (.round l)).length % 16)) ++ leBytes 1 (16 * (l.length % 16)) ++
      l.flatMap (beBytes 2)) s)) ∧
  (∀ (s : State) (g : GSess) (l : List Nat), FrameDue s g (.challenge l) → s.rngServes = true → Runs .challenge s (fun t => FrameSent (.challenge l) g.tag
    (leBytes 1 (48 + l.length % 16) ++ leBytes 1 (16 * (s.challengeArgs (s.template g.template) g.bursts.length).1 + (s.challengeArgs (s.template g.template) g.bursts.length).2) ++
      (s.random 4).1 ++ l.flatMap (beBytes 2)) s t ∧
    (∀ h ∈ l, ∀ u k, t.glt.sess = some u → u.tok h = some k → k.asked = true ∧ k.nonce = ofBe (s.random 4).1) ∧ t.crypto.rng = (s.random 4).2.crypto.rng)) ∧
  (∀ (s : State) (g : GSess) (l : List Nat), FrameDue s g (.challenge l) → s.rngServes = false → Runs .challenge s (fun t => t = s)) ∧
  (∀ (s : State) (g : GSess) (x : Nat), FrameDue s g (.measure x) → Runs .measure s (FrameSent (.measure x) g.tag
    (leBytes 1 (64 + (frameBursts (s.template g.template) g (.measure x)).length % 16) ++
      leBytes 1 (16 * (((frameBursts (s.template g.template) g (.measure x)).map (fun y => y.1)).headD 0 % 16))) s)) ∧
  (∀ (s : State) (g : GSess) (h f n : Nat), FrameDue s g (.report h f n) → Runs .report s (FrameSent (.report h f n) g.tag
    (leBytes 1 (80 + f % 16) ++ leBytes 1 (16 * (n % 16)) ++ beBytes 2 h) s)) ∧
  (∀ (s : State) (g : GSess) (h : Nat), FrameDue s g (.halt h) → Runs .halt s (FrameSent (.halt h) g.tag ([0x60] ++ beBytes 2 h) s)) ∧
  (∀ (s : State) (g : GSess) (h : Nat), FrameDue s g (.again h) → Runs .repeatReply s (FrameSent (.again h) g.tag ([0x70] ++ beBytes 2 h) s)) ∧
  (∀ (s : State) (g : GSess) (h : Nat), FrameDue s g (.release h) → Runs .release s (FrameSent (.release h) g.tag ([0x80] ++ beBytes 2 h) s)) ∧
  (∀ (s : State) (g : GSess), FrameDue s g .nextSlot → Runs .nextSlot s (FrameSent .nextSlot g.tag [0x90] s))

/-- Tier 2. Slots and replies (R244 to R246, R249, R259, R260): a sound HANDLE in its window fills its slot; a slot's end counts it as SINGLE, EMPTY or collided, and the last one adapts Q and
raises E_97; a sound PROOF is handed to be checked with E_99; a REPORT enters one vector per burst with E_100; a reply that does not come counts and is asked for again; a valid frame of
another type is only counted. A session that GLT_ABORT has marked ends with the last reply. -/
def Obligations.SlotsAndReplies : Prop :=
  (∀ (s : State) (rx : Fin 3) (start h : Nat) (rssi : BitVec 8) (raw f : List Byte) (g : GSess), airFrame (rx.val == 2) raw = some f → s.glt.sess = some g → g.step = .slots → s.sessionHears g rx.val = true →
    uplink g.tag f = (true, 0x81, beBytes 2 h) → h < 65536 → inWindowOf (bit g.mode 0) (if bit g.mode 0 then 128 else 256 + 512 * g.slot) start = true → g.tok h = none → g.single = none →
    Runs (.handleReply rx start rssi raw) s (fun t => t.glt.sess = some { g with single := some h } ∧
      (rx.val < 2 → t.regI Reg.UHF_STAT_FRAMES rx.val = satInc Reg.UHF_STAT_FRAMES.width (s.regI Reg.UHF_STAT_FRAMES rx.val) ∧ Raised (104 + rx.val) t) ∧
      FieldsKept [Reg.UHF_STAT_FRAMES] s t ∧ Only [.glt, .regs, .evt] s t)) ∧
  (∀ (s : State) (e : Bool) (g : GSess), s.glt.sess = some g → g.step = .slots → g.slot + 1 < 2 ^ g.slotQ →
    Runs (.slotEnd e) s (fun t => (∃ u, t.glt.sess = some u ∧ u.slot = g.slot + 1 ∧ u.single = none ∧ u.noise = false ∧ u.rounds = g.rounds ∧
      (∀ h, g.single = some h → g.noise = false → u.singles = g.singles ++ [h] ∧ u.empty = g.empty ∧ u.coll = g.coll) ∧
      (g.single = none → g.noise = false → e = false → u.singles = g.singles ∧ u.empty = g.empty + 1 ∧ u.coll = g.coll) ∧
      ((g.noise = true ∨ (g.single = none ∧ e = true)) → u.singles = g.singles ∧ u.empty = g.empty ∧ u.coll = g.coll + 1 ∧
        t.reg Reg.GLT_ERR_COLLISION = satInc Reg.GLT_ERR_COLLISION.width (s.reg Reg.GLT_ERR_COLLISION) ∧ (s.reg Reg.GLT_ERR_COLLISION < 255 → Raised 102 t))) ∧
      FieldsKept [Reg.GLT_ERR_COLLISION] s t ∧ Only [.glt, .regs, .evt] s t)) ∧
  (∀ (s : State) (e : Bool) (g : GSess) (h : Nat), s.glt.sess = some g → g.step = .slots → 2 ^ g.slotQ ≤ g.slot + 1 → g.single = some h → g.noise = false → g.abort = false →
    Runs (.slotEnd e) s (fun t => (∃ u, t.glt.sess = some u ∧ u.q = (if g.empty < g.coll then min 10 (g.q + 1) else if 2 * g.coll < g.empty then g.q - 1 else g.q)) ∧ Raised 97 t ∧
      Only [.glt, .evt] s t)) ∧
  (∀ (s : State) (rx : Fin 3) (start : Nat) (rssi : BitVec 8) (raw f p : List Byte) (g : GSess) (w : Await) (k : GTok), airFrame (rx.val == 2) raw = some f → s.glt.sess = some g → g.step = .replies →
    s.sessionHears g rx.val = true → g.awaitAt start = some w → w.typ = 0x83 → uplink g.tag f = (true, 0x83, p) → 16 ≤ p.length →
    inWindowOf (bit g.mode 0) w.nominal start = true → g.tok w.handle = some k → g.abort = false →
    Runs (.proofReply rx start rssi raw) s (fun t => (∃ u c, t.glt.sess = some u ∧ u.checks = g.checks ++ [c] ∧ c.handle = w.handle ∧
      c.payload = (if bit k.flags 0 then p else p.take 16) ∧ c.time = s.timebase ∧ w ∉ u.awaits) ∧ Raised 99 t ∧ Only [.glt, .regs, .evt, .que, .crypto] s t)) ∧
  (∀ (s : State) (rx : Fin 3) (start : Nat) (rssi : BitVec 8) (raw f p : List Byte) (g : GSess) (w : Await), airFrame (rx.val == 2) raw = some f → s.glt.sess = some g → g.step = .replies →
    s.sessionHears g rx.val = true → g.awaitAt start = some w → w.typ = 0x85 → uplink g.tag f = (true, 0x85, p) → p ≠ [] → inWindowOf (bit g.mode 0) w.nominal start = true → g.abort = false →
    Runs (.reportReply rx start rssi raw) s (fun t => (∃ l, t.ring 42 = s.ring 42 ++ l ∧ l.length = min 16 ((p.length - 1) / 6)) ∧ Raised 100 t ∧ Only [.glt, .regs, .evt, .que] s t)) ∧
  (∀ (s : State) (g : GSess) (w : Await) (l : List Await), s.glt.sess = some g → g.step = .replies → g.awaits = w :: l → g.abort = false →
    Runs .replyTimeout s (fun t => (∃ u, t.glt.sess = some u ∧ (∃ x ∈ u.missed, x.handle = w.handle) ∧ w ∉ u.awaits) ∧
      t.reg Reg.GLT_ERR_NO_REPLY = satInc Reg.GLT_ERR_NO_REPLY.width (s.reg Reg.GLT_ERR_NO_REPLY) ∧
      (s.reg Reg.GLT_ERR_NO_REPLY < 255 → Raised 102 t) ∧ FieldsKept [Reg.GLT_ERR_NO_REPLY] s t ∧ Only [.glt, .regs, .evt] s t)) ∧
  (∀ (s : State) (g : GSess) (w : Await), s.glt.sess = some g → g.step = .replies → g.awaits = [w] → g.abort = true → g.ends = none →
    Runs .replyTimeout s (fun t => (∃ u, t.glt.sess = some u ∧ u.ends = some (stOK, 2) ∧ u.step = .due (.halt 0xFFFF)) ∧
      t.reg Reg.GLT_ERR_NO_REPLY = satInc Reg.GLT_ERR_NO_REPLY.width (s.reg Reg.GLT_ERR_NO_REPLY))) ∧
  (∀ (s : State) (rx : Fin 2) (rssi : BitVec 8) (raw f : List Byte), airFrame false raw = some f → s.receives rx.val = true → (uplink 0 f).1 = true → (uplink 0 f).2.1 ∉ [0x81, 0x83, 0x85, 0x40] →
    Runs (.discardedUplink rx rssi raw) s (fun t => t.regI Reg.UHF_STAT_FRAMES rx.val = satInc Reg.UHF_STAT_FRAMES.width (s.regI Reg.UHF_STAT_FRAMES rx.val) ∧ Raised (104 + rx.val) t ∧
      t.glt.sess = s.glt.sess ∧ FieldsKept [Reg.UHF_STAT_FRAMES] s t ∧ Only [.glt, .regs, .evt] s t))

/-- Tier 2. Proof checks (R282 to R289, Table 06-3): the check that engine 0 runs is answered on Q_40 with the cause that the checks find in their order and the time of the PROOF (R50), the token becomes proved (2) for cause
0 and failed (3) otherwise; cause 0 counts as accepted, and a wrong tag or a duplicate as a failure; WP_N low gives cause 9. -/
def Obligations.ProofChecks : Prop :=
  (∀ (s : State) (o : AeaOp) (g : GSess) (c : ProofCheck) (k : GTok), (s.engine 0).op = some o → o.ring = ringGlt → s.masksFlow = true → s.glt.sess = some g →
    g.checks.find? (fun x => checkId g x.handle == o.cmd) = some c → g.tok c.handle = some k →
    Runs .proofCheckDone s (fun t =>
      let p := ((s.engineDone 0).checkProof { g with checks := g.checks.erase c } k c (c.kek != s.key.kekGen)).1
      (∃ e, t.ring 40 = s.ring 40 ++ [e] ∧ slice e.payload 0 4 = leBytes 4 g.number ∧ slice e.payload 4 2 = leBytes 2 k.handle ∧ slice e.payload 6 2 = leBytes 2 p.cred ∧
        slice e.payload 9 1 = leBytes 1 (proofStatus p.cause) ∧ slice e.payload 10 1 = leBytes 1 p.cause ∧ slice e.payload 12 6 = leBytes 6 c.time ∧ (p.cause ≠ 0 → slice e.payload 8 1 = [0])) ∧
      (s.pins.wpLow = true → p.cause = 9) ∧
      (p.cause = 0 → t.reg Reg.GLT_AUTH_STAT_PROOF_OK = satInc Reg.GLT_AUTH_STAT_PROOF_OK.width (s.reg Reg.GLT_AUTH_STAT_PROOF_OK)) ∧
      (p.cause = 2 ∨ p.cause = 3 → t.reg Reg.GLT_AUTH_STAT_PROOF_FAIL = satInc Reg.GLT_AUTH_STAT_PROOF_FAIL.width (s.reg Reg.GLT_AUTH_STAT_PROOF_FAIL)) ∧
      (p.cause = 1 → t.reg Reg.GLT_AUTH_STAT_UNKNOWN = satInc Reg.GLT_AUTH_STAT_UNKNOWN.width (s.reg Reg.GLT_AUTH_STAT_UNKNOWN)) ∧
      t.pins = s.pins ∧ t.crd = s.crd ∧ t.pending = s.pending))

/-- No copy of telegram p has been passed on within the last 1,200 ms, that time included (R270). -/
def NewTelegram (s : State) (p : List Byte) : Prop := ∀ x ∈ s.glt.trains, x.bytes = p → x.at_ + 1200001 ≤ s.now

/-- Tier 2. Telegrams (R269, R270, R295, R297, R303): a new BUTTON frame is counted, noted as passed on, remembered as a wake event (R121) and checked, an unknown SID counting as UNKNOWN; one heard in a sniff window wakes the
device and is held; a copy within 1,200 ms is counted and discarded; an accepted counter write raises E_103, counts and ends the idle days; a pending telegram lapses. -/
def Obligations.Telegrams : Prop :=
  (∀ (s : State) (rx : Fin 2) (rssi : BitVec 8) (raw f p : List Byte), airFrame false raw = some f → s.pwr.phase = .run → s.receives rx.val = true → uplink 0 f = (true, 0x40, p) → p.length = 12 →
    (rx.val = 0 → s.glt.tuned = none) → NewTelegram s p → s.glt.held = none → s.glt.queue = [] → s.masksFlow = true → s.enginesFailed = false → (s.freeEngine .timed).isSome = true → s.lktRefuses = false → s.findSid (ofBe (p.take 4)) = none →
    Runs (.buttonTelegram rx rssi raw) s (fun t => { bytes := p, at_ := s.now : Telegram } ∈ t.glt.trains ∧ t.glt.queue = [] ∧
      t.regI Reg.UHF_STAT_FRAMES rx.val = satInc Reg.UHF_STAT_FRAMES.width (s.regI Reg.UHF_STAT_FRAMES rx.val) ∧
      t.reg Reg.GLT_BTN_STAT_UNKNOWN = satInc Reg.GLT_BTN_STAT_UNKNOWN.width (s.reg Reg.GLT_BTN_STAT_UNKNOWN) ∧ Raised (104 + rx.val) t ∧
      (s.wakeEnabled 2 = true → t.pwr = { s.pwr with disturbed := some (s.pwr.disturbed.getD 11) }) ∧ (s.wakeEnabled 2 = false → t.pwr = s.pwr) ∧
      FieldsKept [Reg.UHF_STAT_FRAMES, Reg.GLT_BTN_STAT_UNKNOWN] s t ∧ Only [.glt, .regs, .evt, .pwr] s t)) ∧
  (∀ (s : State) (rx : Fin 2) (rssi : BitVec 8) (raw f p : List Byte) (n : Nat), airFrame false raw = some f → s.pwr.phase = .sleep n → 1 ≤ n → n ≤ 3 → s.receives rx.val = true →
    s.wakeEnabled 2 = true → uplink 0 f = (true, 0x40, p) → p.length = 12 → (rx.val = 0 → s.glt.tuned = none) → NewTelegram s p →
    Runs (.buttonTelegram rx rssi raw) s (fun t => t.glt.heldFrame = some { bytes := p, at_ := s.now } ∧ t.pwr.phase = .stage 0 ∧ t.pwr.wakeFrom = n ∧
      t.reg Reg.PWR_WAKE_SRC_SOURCE = 2 ∧ t.reg Reg.PWR_WAKE_SRC_INDEX = rx.val ∧ Raised (106 + rx.val) t ∧ Only [.glt, .regs, .evt, .pwr, .pins] s t)) ∧
  (∀ (s : State) (rx : Fin 2) (rssi : BitVec 8) (raw f p : List Byte), airFrame false raw = some f → s.pwr.phase = .run → s.receives rx.val = true → uplink 0 f = (true, 0x40, p) → p.length = 12 →
    (rx.val = 0 → s.glt.tuned = none) → ¬NewTelegram s p →
    Runs (.buttonTelegram rx rssi raw) s (fun t => t.glt.trains = s.glt.trains ∧ t.glt.queue = s.glt.queue ∧ t.glt.held = s.glt.held ∧
      t.regI Reg.UHF_STAT_FRAMES rx.val = satInc Reg.UHF_STAT_FRAMES.width (s.regI Reg.UHF_STAT_FRAMES rx.val) ∧ FieldsKept [Reg.UHF_STAT_FRAMES] s t ∧ Only [.glt, .regs, .evt, .pwr] s t)) ∧
  (∀ (s : State) (h : HeldTelegram) (w : LktWrite), s.glt.held = some h → (s.settle .telegram).1 = some w → w.state.ok = true → h.accepted = true → s.glt.queue = [] →
    Runs .telegramCounterAccepted s (fun t => t.glt.held = none ∧ (∀ p ∈ t.glt.pending, p.cred ≠ h.cred) ∧ Raised 103 t ∧
      t.reg Reg.GLT_BTN_STAT_ACCEPTED = satInc Reg.GLT_BTN_STAT_ACCEPTED.width (s.reg Reg.GLT_BTN_STAT_ACCEPTED) ∧ t.reg Reg.PWR_IDLE_STAT_DAYS_ELAPSED = 0)) ∧
  (∀ (s : State) (c : Nat), Runs (.pendingLapse c) s (fun t => (∀ p, p ∈ t.glt.pending ↔ p ∈ s.glt.pending ∧ ¬(p.cred = c ∧ p.at_ + 4900000 ≤ s.now)) ∧ Only [.glt] s t))

/-- The lockout of place p has ended and no other place has changed. -/
def PlaceCleared (p : Nat) (s t : State) : Prop := t.lockRecorded p = false ∧ ∀ q, q ≤ 128 → q ≠ p → t.lockEntry q = s.lockEntry q

/-- The authority window has at hand a write of GLT_LOCKOUT_CLR with these bits. -/
def ClearNamed (s : State) (v : Nat) : Prop := ∃ w, s.namedWrite 1 Reg.GLT_LOCKOUT_CLR_DEVICE = some w ∧ w.value &&& w.mask = v

/-- The parts of the state that the end of a lockout by an authority command may change: the Locket and its mirror, the journal, the window and its answer. -/
def clearParts : List Part := [.lkt, .mem, .glt, .jnl, .evt, .regs, .tsu, .que, .auth, .hft, .fresh]

/-- Tier 2. Lockouts end (R307, R309, R313): by their time, LOCKOUT_END clears the place; by the named write of an authority command, LOCKOUT_CLR clears the device's, one credential's or every
place. A write that no window names is ignored and recorded as a policy error (R32), and a place without a lockout stays as it is. -/
def Obligations.LockoutsEnd : Prop :=
  (∀ (s : State) (p : Fin 129), s.lktRefuses = false → s.lockRecorded p.val = true → s.lockSeconds ≤ s.lockAge p.val →
    Runs (.lockoutEnd p) s (fun t => PlaceCleared p.val s t ∧ Only [.lkt, .mem, .glt, .jnl, .evt, .regs, .tsu, .que] s t)) ∧
  (∀ (s : State) (p : Fin 129), s.lockRecorded p.val = false ∨ s.lockAge p.val + 1 < s.lockSeconds → Runs (.lockoutEnd p) s (fun t => t = s)) ∧
  (∀ s : State, s.lktRefuses = false → ClearNamed s 1 → s.lockRecorded 128 = true → Runs (.lockoutClrDevice 1) s (fun t => PlaceCleared 128 s t ∧ Only clearParts s t)) ∧
  (∀ (s : State) (i : Fin 4096) (p : Nat), s.lktRefuses = false → ClearNamed s (2 + 65536 * i.val) → s.credPlace i.val = some p →
    Runs (.lockoutClrCred 1 i) s (fun t => PlaceCleared p s t ∧ Only clearParts s t)) ∧
  (∀ s : State, s.lktRefuses = false → ClearNamed s 4 → Runs (.lockoutClrAll 1) s (fun t => (∀ q, q ≤ 128 → t.lockRecorded q = false) ∧ Only clearParts s t)) ∧
  (∀ (s : State) (m : Nat) (i : Fin 4096), m ≤ 7 → m ≠ 1 ∨ s.auth = none →
    Runs (.lockoutClrDevice m) s (FaultRecorded 1 m (Reg.GLT_LOCKOUT_CLR_DEVICE.addrAt 0) true s) ∧
    Runs (.lockoutClrCred m i) s (FaultRecorded 1 m (Reg.GLT_LOCKOUT_CLR_DEVICE.addrAt 0) true s) ∧
    Runs (.lockoutClrAll m) s (FaultRecorded 1 m (Reg.GLT_LOCKOUT_CLR_DEVICE.addrAt 0) true s))

/-- Tier 2. UHF (R269, R271, Table 05-7): a sniff window opens at its period in sleep; an extended one ends 17 ms later; a level above THRESH sets JAM with E_108 + r once, one below clears it;
a lost lock raises E_110 + r. -/
def Obligations.UhfReception : Prop :=
  (∀ (s : State) (e : Bool), 1 ≤ s.sleeping → s.sleeping ≤ 3 → s.pwr.dip = false → bit (s.reg Reg.UHF_CTRL_EN) (s.reg Reg.UHF_CTRL_SNIFF) = true →
    s.glt.sniffAt + (if s.sleeping = 3 then 980000 else 1000 * s.reg Reg.UHF_SNIFF_PER) ≤ s.now →
    Runs (.sniffWindow e) s (fun t => t.glt.sniff = some (s.reg Reg.UHF_CTRL_SNIFF, s.now, e) ∧ t.glt.sniffAt = s.now ∧ Only [.glt] s t)) ∧
  (∀ (s : State) (r x : Nat), s.glt.sniff = some (r, x, true) → x + 16800 ≤ s.now → Runs .sniffExtensionEnd s (fun t => t.glt.sniff = none ∧ Only [.glt] s t)) ∧
  (∀ (s : State) (rx : Fin 2) (v : BitVec 8), s.receives rx.val = true → signed 8 (s.reg Reg.UHF_JAM_THRESH) < v.toInt →
    Runs (.uhfJam rx v) s (fun t => (t.uhf rx.val).jam = true ∧ (t.uhf rx.val).rssi = v.toNat ∧ ((s.uhf rx.val).jam = false → Raised (108 + rx.val) t) ∧
      ((s.uhf rx.val).jam = true → t.evt = s.evt) ∧ Only [.glt, .evt] s t)) ∧
  (∀ (s : State) (rx : Fin 2) (v : BitVec 8), s.receives rx.val = true → v.toInt < signed 8 (s.reg Reg.UHF_JAM_THRESH) →
    Runs (.uhfJamClear rx v) s (fun t => (t.uhf rx.val).jam = false ∧ (t.uhf rx.val).rssi = v.toNat ∧ Only [.glt] s t)) ∧
  (∀ (s : State) (rx : Fin 2), Runs (.uhfLockLost rx) s (fun t => (t.uhf rx.val).unlocked = true ∧ Raised (110 + rx.val) t ∧ Only [.glt, .evt] s t))

/-! ## Ranging, location, verdicts (chapters 07, 08) -/

/-- No abort of the open session waits for a Fret boundary. -/
def NoAbort (s : State) : Prop := ∀ g, s.glt.sess = some g → g.abort = false

/-- The solve that the end of a block makes due (R368): from the block when it names a port, from Q_42 alone when it names none and was the handle's first. -/
def solvesOf (s : State) (b : UBlock) : List Solve :=
  let v (n : Option Nat) : Solve := { session := b.session, handle := b.handle, block := n, off := !s.flag Reg.LOC_CTRL_EN }
  if !b.ports.isEmpty then [v (some b.number)] else if b.number = 0 then [v none] else []

/-- Tier 2. A ranging block (R326 to R331, R338, R347): RANGE_REQ queues one, or counts REFUSED when 8 wait; its start sends RANGE_START (its FCS PRESUMED, assumption 18); each poll takes its instant, within 2 ns of the schedule that RANGE_START's timestamp fixes (free within 1 µs, assumption 110), and the next exchange
index j, and none leaves at another instant; its STS begins at V_STS + 2j (R332); a response is recorded with the reason that rejects it; its end makes one Q_41 entry for each port and the solve due, and it counts when it has run. A lost synthesizer lock ends it with cause 6. -/
def Obligations.RangingBlocks : Prop :=
  (∀ (s : State) (m : Nat) (h : BitVec 16) (k : UKeys), (m = 1 ∨ m = 2) → s.uwb.keys.reverse.find? (fun x => x.handle == h.toNat) = some k → s.flag Reg.UWB_CTRL_EN = true →
    k.blocks + (s.uwb.waiting.filter (fun w => w.session == k.session && w.handle == k.handle)).length < s.reg Reg.UWB_SCHED_MAX_BLOCKS →
    (s.uwb.waiting.length < 8 → Runs (.rangeReq m h) s (fun t => t.uwb.waiting = s.uwb.waiting ++ [{ session := k.session, handle := k.handle }] ∧ t.uwb.reqStatus = none ∧
      FieldsKept [Reg.UWB_RANGE_CTL_HANDLE] s t ∧ Only [.uwb, .regs] s t)) ∧
    (8 ≤ s.uwb.waiting.length → Runs (.rangeReq m h) s (fun t => t.reg Reg.UWB_STAT_REFUSED = satInc Reg.UWB_STAT_REFUSED.width (s.reg Reg.UWB_STAT_REFUSED) ∧
      t.uwb = { s.uwb with reqStatus := some stFULL } ∧ FieldsKept [Reg.UWB_RANGE_CTL_HANDLE, Reg.UWB_STAT_REFUSED] s t ∧ Only [.uwb, .regs] s t))) ∧
  (∀ (s : State) (w : UWait) (l : List UWait) (k : UKeys), s.uwb.block = none → s.uwb.scan = none → s.uwb.cal = none → s.uwb.waiting = w :: l → w.go = none → s.flag Reg.UWB_CTRL_EN = true → s.lfAllowed = true →
    s.replyDue w.handle = false → s.ukeys w.session w.handle = some k → s.usablePorts ≠ [] →
    Runs (.rangingBlockStart 0) s (fun t => t.uwb.waiting = l ∧
      (∃ b, t.uwb.block = some b ∧ b.session = w.session ∧ b.handle = w.handle ∧ b.number = k.blocks ∧ b.ports = s.usablePorts ∧ b.base = k.next ∧ b.startedAt = s.now ∧ b.polls = [] ∧ b.first = w.first ∧
        b.startTx = (s.startStamp).1) ∧
      t.ukeys w.session w.handle = some { k with blocks := k.blocks + 1 } ∧
      (∃ c : List Byte, c.length = 2 ∧ t.uwb.sent = [.sp0 (s.usablePorts.headD 0) ([0x52] ++ beBytes 2 w.handle ++ leBytes 1 k.tag ++ leBytes 1 k.blocks ++
        leBytes 1 s.usablePorts.length ++ beBytes 2 (s.reg Reg.UWB_SCHED_PERIOD) ++ beBytes 4 k.next ++ c)]) ∧ Only [.uwb, .fresh] s t)) ∧
  (∀ (s : State) (tx : BitVec 40) (b : UBlock) (p : Nat), s.uwb.block = some b → b.ports[b.polls.length]? = some p →
    b.startedAt + (b.polls.length + 1) * s.reg Reg.UWB_SCHED_PERIOD ≤ s.now → s.replyDue b.handle = false →
    b.onTime (s.reg Reg.UWB_SCHED_PERIOD) tx.toNat = true →
    Runs (.poll tx) s (fun t => t.uwb.block = some { b with polls := b.polls ++ [(p, tx.toNat, low 48 (b.startedAt + (b.polls.length + 1) * s.reg Reg.UWB_SCHED_PERIOD - s.tim.mainUp))] } ∧
      (∀ k, s.ukeys b.session b.handle = some k → t.uwb.sent = [.sp3 p k.kSts (stsV k.vSts (2 * (b.base + b.polls.length)))] ∧
        t.ukeys b.session b.handle = some { k with next := low 32 (b.base + b.polls.length + 1) }) ∧ Only [.uwb] s t)) ∧
  (∀ (s : State) (tx : BitVec 40) (b : UBlock), s.uwb.block = some b → b.onTime (s.reg Reg.UWB_SCHED_PERIOD) tx.toNat = false → Runs (.poll tx) s (fun t => t = s)) ∧
  (∀ (s : State) (port : Fin 4) (rx : BitVec 40) (qual fp : BitVec 8) (fpDiff lead : Nat) (eps phase : Int) (b : UBlock) (p : Nat × Nat × Nat), s.uwb.block = some b →
    b.polls.getLast? = some p → port.val ∈ b.ports → b.rxOf p.1 port.val = none →
    Runs (.responseReceived port rx qual fpDiff lead eps fp phase) s (fun t => (∃ x, t.uwb.block = some { b with rx := b.rx ++ [x] } ∧ x.a = p.1 ∧ x.k = port.val ∧
      x.delta = low 40 (rx.toNat + 2 ^ 40 - p.2.1) ∧ x.why = (if qual.toNat < s.reg Reg.UWB_RANGE_CFG_STS_QMIN ∨ 32000 < lead then 2 else
        if 125 * s.reg Reg.UWB_RANGE_CFG_FP_AGREE < fpDiff then 3 else 0) ∧ (x.why ≠ 0 → Raised (114 + 4 * port.val) t)) ∧
      FieldsKept [Reg.UWB_ERR_STS, Reg.UWB_ERR_FP] s t ∧ Only [.uwb, .regs, .evt] s t)) ∧
  (∀ (s : State) (b : UBlock), s.uwb.block = some b → b.polls.length = b.ports.length → b.forPeer = false → s.mirrorsNow = false → NoAbort s →
    Runs .blockEnd s (fun t => t.uwb.block = none ∧ (∃ l, t.ring 41 = s.ring 41 ++ l ∧ l.length = b.ports.length) ∧
      t.loc.due = s.loc.due ++ solvesOf s b ∧
      t.reg Reg.UWB_STAT_BLOCKS = (if b.ran then low Reg.UWB_STAT_BLOCKS.width (s.reg Reg.UWB_STAT_BLOCKS + 1) else s.reg Reg.UWB_STAT_BLOCKS) ∧ Only [.uwb, .regs, .evt, .que, .loc, .glt] s t)) ∧
  (∀ (s : State) (b : UBlock), s.uwb.block = some b → b.cut = none → b.forPeer = false → s.mirrorsNow = false → NoAbort s →
    Runs .uwbSynthLockLost s (fun t => t.uwb.pllLost = true ∧ t.uwb.block = none ∧
      (∃ l, t.ring 41 = s.ring 41 ++ l ∧ l.length = b.ports.length ∧ ∀ e ∈ l, slice e.payload 7 2 = leBytes 1 stRANGE ++ [6]) ∧ Only [.uwb, .regs, .evt, .que, .loc, .glt] s t)) ∧
  (∀ (s : State) (m : Nat), s.mayWriteField m Reg.UWB_ERR_CLR_CLR = true →
    Runs (.uwbErrClr m) s (fun t => t.reg Reg.UWB_ERR_STS = 0 ∧ t.reg Reg.UWB_ERR_FP = 0 ∧ t.reg Reg.UWB_ERR_DEV = 0 ∧ t.reg Reg.UWB_ERR_EARLY = 0 ∧
      FieldsKept [Reg.UWB_ERR_STS, Reg.UWB_ERR_FP, Reg.UWB_ERR_DEV, Reg.UWB_ERR_EARLY] s t ∧ Only [.regs] s t))

/-- The receptions of a calibration block at ports whose chains are on (R322). -/
def calHeard (ports : List Nat) (l : List CalRx) : List CalRx := l.filter (fun z => ports.contains z.1 && ports.contains z.2.1)

/-- What a calibration of these ports answers over its receptions (Table 07-6). -/
def calData (ports : List Nat) (l : List CalRx) : List Byte := ports.flatMap (fun a => ports.flatMap (fun k => calPair l a k)) ++ calPhase l 0 ++ calPhase l 1

/-- The ports that a mask names, of those usable (R322). -/
def portsOf (s : State) (mask : Nat) : List Nat := s.usablePorts.filter (fun p => bit mask p)

/-- Tier 2. The commands of Q_3 (Table 07-6, R360): with no block waiting or running, UWB_CAL runs its blocks, one for each command of this row (the model's choice, assumption 110), and the
last of up to 3 ports answers their means; UWB_SCAN starts and its end answers noise floor and peak of each port; their limits refuse with REFUSED_POLICY; UWB_STATUS answers the status
registers. While a block waits or runs, all three wait. -/
def Obligations.RangingQueue : Prop :=
  (∀ (s : State) (l : List (Nat × Nat × Int × Int × Int)) (r : Running), s.running 3 1 = some r → s.runningSeq 3 r.entry.seq = some r → s.uwbIdle = true → s.uwb.cal = none → s.uwb.scan = none →
    s.lfAllowed = true → 1 ≤ r.num 2 1 → r.num 2 1 ≤ 64 → portsOf s (r.num 0 1) ≠ [] → ((s.startCmd r).useSlot (r.num 1 1) useDERIVE [1] 3).1 = 0 →
    (r.num 2 1 = 1 → (portsOf s (r.num 0 1)).length ≤ 3 →
      Runs (.uwbCal l) s (fun t => Completed r blkUWB stOK 0 (calData (portsOf s (r.num 0 1)) (calHeard (portsOf s (r.num 0 1)) l)) t ∧ t.uwb.cal = none)) ∧
    (1 < r.num 2 1 → Runs (.uwbCal l) s (fun t => ∃ x, t.uwb.cal = some x ∧ x.cmd = r.entry.seq ∧ x.ports = portsOf s (r.num 0 1) ∧ x.blocks = r.num 2 1 ∧ x.number = 1 ∧
      x.rx = calHeard (portsOf s (r.num 0 1)) l))) ∧
  (∀ (s : State) (l : List (Nat × Nat × Int × Int × Int)) (x : UCal), s.uwbIdle = true → s.lfAllowed = true → s.uwb.cal = some x →
    (x.number + 1 < x.blocks → Runs (.uwbCal l) s (fun t => t.uwb.cal = some { x with rx := x.rx ++ calHeard x.ports l, number := x.number + 1, base := x.base + x.ports.length } ∧
      Only [.uwb] s t)) ∧
    (∀ r, s.runningSeq 3 x.cmd = some r → x.blocks ≤ x.number + 1 → x.ports.length ≤ 3 →
      Runs (.uwbCal l) s (fun t => Completed r blkUWB stOK 0 (calData x.ports (x.rx ++ calHeard x.ports l)) t ∧ t.uwb.cal = none ∧ Only [.uwb, .que, .evt, .regs] s t))) ∧
  (∀ (s : State) (l : List (Nat × Nat × Int × Int × Int)) (r : Running), s.running 3 1 = some r → s.uwbIdle = true → s.uwb.cal = none → s.uwb.scan = none → s.lfAllowed = true →
    (r.num 2 1 = 0 ∨ 64 < r.num 2 1 ∨ portsOf s (r.num 0 1) = []) →
    Runs (.uwbCal l) s (fun t => Completed r blkUWB stPOLICY 0 [] t ∧ Only [.que, .evt, .regs] s t)) ∧
  (∀ (s : State) (r : Running), s.que.running.find? (fun x => x.ring == 3 && x.entry.code == 2 && !x.started) = some r → s.uwbIdle = true → s.uwb.scan = none → s.uwb.cal = none → 1 ≤ r.num 2 2 → r.num 2 2 ≤ 1000 → r.num 0 1 ≤ 1 →
    Runs .uwbScan s (fun t => (∃ x, t.uwb.scan = some x ∧ x.cmd = r.entry.seq ∧ x.until_ = s.now + 1000 * r.num 2 2 ∧
      x.ports = s.usablePorts.filter (fun p => bit (r.num 1 1) p)) ∧ Only [.uwb, .que] s t)) ∧
  (∀ (s : State) (meas : List (BitVec 8 × BitVec 8)) (x : UScan) (r : Running), s.uwb.scan = some x → x.until_ ≤ s.now → s.runningSeq 3 x.cmd = some r →
    Runs (.uwbScanEnd meas) s (fun t => t.uwb.scan = none ∧
      Completed r blkUWB stOK 0 (x.ports.flatMap (fun p => match meas[p]? with | some v => [v.1, v.2] | none => [0, 0])) t ∧ Only [.uwb, .que, .evt, .regs] s t)) ∧
  (∀ (s : State) (r : Running), s.running 3 3 = some r → s.uwbIdle = true →
    Runs .uwbStatus s (fun t => Completed r blkUWB stOK 0 (s.regBytes Reg.UWB_STAT_STATE 0 ++ (List.range 4).flatMap (s.regBytes Reg.UWB_PORT_STAT_FAULT)) t ∧ Only [.que, .evt, .regs] s t)) ∧
  (∀ (s : State) (l : List (Nat × Nat × Int × Int × Int)), s.uwbIdle = false →
    Runs .uwbStatus s (fun t => t = s) ∧ Runs (.uwbCal l) s (fun t => t = s) ∧ Runs .uwbScan s (fun t => t = s))

/-- The first cause of Table 08-7, 1 to 5 and 7, that refuses a proposal at once; none when it is accepted (R387). -/
def Accepts (s : State) (typ session : Nat) : Prop := s.propRefused typ session = 0

/-- Tier 2. Positions, triggers, proposals (R368, R373, R383 to R389): the oldest due solve enters one Q_43 entry, cause 4 when LOC was off as it fell due; triggers of 1,000 ms lapse; a refused proposal
completes at once with its cause; an accepted one is pending or decided; PROPOSE on Q_1 with no session of that number is refused with cause 1; the deadline of a pending proposal without a
qualifying token is noted; DECISION carries a decision out: a verdict record, for a ticket its number and E_136, and the completion, and in a dip none but POWER_ABORT, cause 5 (R149);
VERDICT_STATUS answers. -/
def Obligations.Verdicts : Prop :=
  (∀ (s : State) (v : Solve) (l : List Solve), s.loc.due = v :: l →
    Runs .solveComplete s (fun t => t.loc.due = l ∧ (∃ e, t.ring 43 = s.ring 43 ++ [e] ∧ slice e.payload 0 6 = leBytes 4 v.session ++ leBytes 2 v.handle ∧
      (v.off = true → slice e.payload 7 2 = leBytes 1 stZONE ++ [4])) ∧
      t.reg Reg.LOC_STAT_SOLVES = low Reg.LOC_STAT_SOLVES.width (s.reg Reg.LOC_STAT_SOLVES + 1) ∧ (v.off = true → Raised 129 t) ∧
      Only [.loc, .que, .regs, .evt, .vrd, .fresh] s t)) ∧
  (∀ s : State, Runs .triggerExpiry s (fun t => (∀ x, t.vrd.start = some x ↔ s.vrd.start = some x ∧ s.now < x.latched + 1000000) ∧
    (∀ x, t.vrd.entry = some x ↔ s.vrd.entry = some x ∧ s.now < x.latched + 1000000) ∧ t.vrd.pending = s.vrd.pending ∧ Only [.vrd] s t)) ∧
  (∀ (s : State) (m : Nat) (typ : BitVec 3), (m = 1 ∨ m = 2) → s.propRefused typ.toNat (s.reg Reg.VRD_PROP_SESS_SESSION) ≠ 0 →
    Runs (.vrdPropose m typ) s (fun t => t.reg Reg.VRD_RESULT_CAUSE = low Reg.VRD_RESULT_CAUSE.width (s.propRefused typ.toNat (s.reg Reg.VRD_PROP_SESS_SESSION)) ∧
      t.reg Reg.VRD_RESULT_TYPE = typ.toNat ∧ Raised 137 t ∧ t.vrd.pending = s.vrd.pending ∧
      FieldsKept [Reg.VRD_RESULT_CAUSE, Reg.VRD_RESULT_TYPE, Reg.VRD_RESULT_STATUS, Reg.VRD_PROPOSE_GO, Reg.VRD_PROPOSE_TYPE] s t ∧ Only [.regs, .evt, .vrd] s t)) ∧
  (∀ (s : State) (m : Nat) (typ : BitVec 3), (m = 1 ∨ m = 2) → Accepts s typ.toNat (s.reg Reg.VRD_PROP_SESS_SESSION) →
    Runs (.vrdPropose m typ) s (fun t => t.reg Reg.VRD_PROPOSE_GO = 1 ∧
      (∃ p ∈ t.vrd.pending, p.typ = typ.toNat ∧ p.session = s.reg Reg.VRD_PROP_SESS_SESSION ∧ p.cmd = none ∧ p.acceptedAt = s.now) ∧ t.vrd.pending.length = s.vrd.pending.length + 1 ∧
      FieldsKept [Reg.VRD_PROPOSE_GO, Reg.VRD_PROPOSE_TYPE] s t ∧ Only [.regs, .vrd, .fresh] s t)) ∧
  (∀ (s : State) (r : Running), s.que.running.find? (fun x => x.ring == 1 && x.entry.code == 2 && !x.started) = some r → s.runningSeq 1 r.entry.seq = some r → s.glt.sess = none → s.glt.last = none →
    Runs .propose s (fun t => Completed r blkVRD stPOLICY 1 (leBytes 4 0 ++ leBytes 2 0xFFFF ++ leBytes 2 0) t ∧ t.reg Reg.VRD_RESULT_STATUS = stPOLICY ∧ Only [.regs, .evt, .vrd, .que] s t)) ∧
  (∀ (s : State) (r : Running), s.que.running.find? (fun x => x.ring == 1 && x.entry.code == 2 && !x.started) = some r → Accepts s (r.num 0 1) (r.num 1 4) →
    Runs .propose s (fun t => (∃ p ∈ t.vrd.pending, p.typ = r.num 0 1 ∧ p.session = r.num 1 4 ∧ p.cmd = some r.entry.seq) ∧ t.vrd.pending.length = s.vrd.pending.length + 1 ∧
      Only [.vrd, .que, .fresh] s t)) ∧
  (∀ (s : State) (r : Running), s.running 1 3 = some r →
    Runs .verdictStatus s (fun t => Completed r blkVRD stOK 0 (s.regBytes Reg.VRD_RESULT_TYPE 0 ++ s.regBytes Reg.VRD_RESULT_CRED_CRED 0 ++ s.regBytes Reg.VRD_TRIG_START 0) t ∧
      Only [.que, .evt, .regs] s t)) ∧
  (∀ (s : State) (b : Bool) (g : GSess) (p : Proposal) (d : Nat), s.vrdSession = some g →
    s.vrd.pending.find? (fun x => x.typ == (if b then 2 else 1) && x.decided.isNone && !x.deadlineDone) = some p → s.deadlineOf p = some d → d ≤ s.now →
    g.handles.any (fun h => s.tokenReady g h && (s.judgeToken g p h).1 == 0) = false →
    Runs (.verdictDeadline b) s (fun t => (∃ x ∈ t.vrd.pending, x = { p with deadlineDone := true }) ∧ t.vrd.pending.length = s.vrd.pending.length ∧ Only [.vrd] s t)) ∧
  (∀ (s : State) (p : Proposal) (d : Decision), s.vrd.pending.findSome? (fun x => x.decided.map (fun y => (x, y))) = some (p, d) → (s.pwr.dip = true → d.chosen = none) →
    Runs .decision s (fun t => t.vrd.pending = s.vrd.pending.erase p ∧ t.reg Reg.VRD_RESULT_STATUS = low Reg.VRD_RESULT_STATUS.width d.status ∧
      t.reg Reg.VRD_RESULT_CAUSE = low Reg.VRD_RESULT_CAUSE.width d.cause ∧
      (d.chosen = none → t.ring 44 = s.ring 44 ∧ t.reg Reg.VRD_TICKET_NUMBER = s.reg Reg.VRD_TICKET_NUMBER) ∧
      (∀ c, d.chosen = some c → t.reg Reg.VRD_TICKET_NUMBER = low 32 (s.reg Reg.VRD_TICKET_NUMBER + 1) ∧ Raised 136 t ∧
        ∃ e, t.ring 44 = s.ring 44 ++ [e] ∧ slice e.payload 0 2 = leBytes 1 p.typ ++ leBytes 1 c.1 ∧ slice e.payload 8 4 = leBytes 4 (low 32 (s.reg Reg.VRD_TICKET_NUMBER + 1))) ∧
      Only [.regs, .evt, .vrd, .jnl, .que] s t)) ∧
  (∀ (s : State) (p : Proposal) (d : Decision), s.vrd.pending.findSome? (fun x => x.decided.map (fun y => (x, y))) = some (p, d) → s.pwr.dip = true → d.chosen ≠ none →
    Runs .decision s (fun t => t.vrd.pending = s.vrd.pending.erase p ∧ t.reg Reg.VRD_RESULT_STATUS = stPOWER ∧ t.reg Reg.VRD_RESULT_CAUSE = 5 ∧ t.ring 44 = s.ring 44 ∧
      t.reg Reg.VRD_TICKET_NUMBER = s.reg Reg.VRD_TICKET_NUMBER ∧ Only [.regs, .evt, .vrd, .jnl, .que] s t))

/-! ## Release governor, CAN (chapter 09) -/

/-- A ticket has completed in GOV with a status and a cause (R419): GOV_LAST holds them. -/
def TicketDone (p : List Byte) (status cause : Nat) (t : State) : Prop :=
  t.reg Reg.GOV_LAST_STATUS = low 8 status ∧ t.reg Reg.GOV_LAST_CAUSE = low Reg.GOV_LAST_CAUSE.width cause ∧ t.reg Reg.GOV_LAST_TICKET_NUMBER = low 32 (ticketNumber p) ∧
  (status ≠ stOK → Raised 143 t)

/-- Tier 2. Tickets (R414 to R417, R420, Table 09-1): the oldest of Q_44 ends with the first order that applies, or the raised grant counter goes to the Locket while the outputs stay; a
counter that the Locket refuses is order 8; with the counter accepted the nonce is formed and the Signet slot used once; the sealed Signet asserts the release for START alone, in the same
step in which it goes to the controllers that BUS names. -/
def Obligations.Tickets : Prop :=
  (∀ (s : State) (e : Entry) (l : List Entry) (st c : Nat), s.gov.ticket = none → s.ring 44 = e :: l → s.tsu.handover = none → blkGOV ∉ s.fences.inReset →
    s.ticketOutcome e.payload = some (st, c) →
    Runs .ticketTake s (fun t => t.ring 44 = l ∧ TicketDone e.payload st c t ∧ t.gov = s.gov ∧
      (c = 1 → t.reg Reg.GOV_ERR_STALE = satInc Reg.GOV_ERR_STALE.width (s.reg Reg.GOV_ERR_STALE)) ∧
      (c = 6 → t.reg Reg.GOV_ERR_RATE = satInc Reg.GOV_ERR_RATE.width (s.reg Reg.GOV_ERR_RATE)) ∧ Only [.que, .regs, .evt, .jnl] s t)) ∧
  (∀ (s : State) (e : Entry) (l : List Entry), s.gov.ticket = none → s.ring 44 = e :: l → s.tsu.handover = none → blkGOV ∉ s.fences.inReset → s.ticketOutcome e.payload = none →
    Runs .ticketTake s (fun t => t.ring 44 = l ∧ t.gov = { s.gov with ticket := some { payload := e.payload, grant := s.ringValue 1 + 1 } } ∧
      (∃ x ∈ t.lkt.writes, x.writer = .grantCounter ∧ LktItem.ring 1 (s.ringValue 1 + 1) ∈ x.items) ∧ Only [.que, .gov, .lkt, .mem, .tsu, .evt, .regs] s t)) ∧
  (∀ (s : State) (x : GovTicket) (w : LktWrite), s.gov.ticket = some x → x.phase = .counter → (s.settle .grantCounter).1 = some w → w.state.ok = false →
    Runs .grantCounterAccepted s (fun t => t.gov.ticket = none ∧ TicketDone x.payload stNV 8 t ∧ t.pins = s.pins ∧ t.gov.rel = s.gov.rel)) ∧
  (∀ (s : State) (x : GovTicket) (w : LktWrite), s.gov.ticket = some x → x.phase = .counter → (s.settle .grantCounter).1 = some w → w.state.ok = true →
    s.nonceRefused = false → s.key.invocNext < s.key.invocTop → s.slotCause s.signetSlot useSEAL [0, 1] 2 = 0 → (s.slot s.signetSlot).count < (s.slot s.signetSlot).ceiling →
    Runs .grantCounterAccepted s (fun t => (∃ y, t.gov.ticket = some y ∧ y.phase = .seal ∧ y.grant = x.grant ∧ y.payload = x.payload ∧
      y.nonce = leBytes 4 (s.reg Reg.KEY_NONCE_CFG_DEVICE) ++ leBytes 8 s.key.invocNext) ∧ t.key.invocNext = s.key.invocNext + 1 ∧
      (t.slotRaw s.signetSlot).count = (s.slot s.signetSlot).count + 1 ∧ t.pins = s.pins ∧ t.gov.rel = s.gov.rel)) ∧
  (∀ (s : State) (x : GovTicket) (e : Nat), s.gov.ticket = some x → x.phase = .seal → s.engineOf ringGov (ticketNumber x.payload) = some e →
    Runs .signetSealed s (fun t => t.gov.ticket = none ∧ TicketDone x.payload stOK 0 t ∧
      (ticketType x.payload = 2 → t.pins.relA = some true ∧ t.pins.relBn = some false ∧ Raised 140 t ∧
        ∃ r, t.gov.rel = some r ∧ r.assertedAt = s.now ∧ r.running = s.pins.engRun ∧ r.grant = x.grant) ∧
      (ticketType x.payload ≠ 2 → t.pins = s.pins ∧ t.gov.rel = s.gov.rel) ∧
      (∀ c, c < 2 → (bit (s.reg Reg.GOV_SIGNET_CFG_BUS) c = true →
          ∃ g, (t.canCtl c).signets = (s.canCtl c).signets ++ [g] ∧ g.grant = x.grant ∧ g.kind = signetKind (ticketType x.payload) ∧
            g.frame.data = s.signetBytes x (s.slotRaw s.signetSlot).key x.nonce ∧ g.left = s.reg Reg.GOV_SIGNET_CFG_REPEATS) ∧
        (bit (s.reg Reg.GOV_SIGNET_CFG_BUS) c = false → t.canCtl c = s.canCtl c)) ∧
      Only [.gov, .pins, .can, .crypto, .que, .regs, .evt, .jnl] s t))

/-- None of orders 1 to 10 of Table 09-2 applies to ticket p: it is not late, GOV is enabled and on the ACTIVE, no tamper lock stands; a START ticket finds no output fault, no release and a
history below MAX_RATE; a DRIVER ticket finds DRIVER_EN; the Locket takes GOV's writes, the Signet slot is not SPENT and the grant counter is below its last value. -/
def TicketPasses (s : State) (p : List Byte) : Prop :=
  s.timebase ≤ ticketExpiry p ∧ s.flag Reg.GOV_CTRL_EN = true ∧ s.isStandby = false ∧ s.tamperLocked = false ∧
  (ticketType p = 2 → s.flag Reg.GOV_STAT_OUT_FAULT = false ∧ s.gov.rel = none ∧ (s.histDamaged = true ∨ s.rateUsed < s.reg Reg.GOV_REL_CFG_MAX_RATE)) ∧
  (ticketType p = 3 → s.flag Reg.GOV_SIGNET_CFG_DRIVER_EN = true) ∧ s.govNvFails (ticketType p == 2) = false ∧ (s.slot s.signetSlot).state ≠ .spent ∧ s.ringValue 1 ≠ 0xFFFFFFFF

/-- Tier 2. The three steps of a ticket that nothing stops, and the release and its ends (R80, R383, R415, R416, R420 to R423). Under Table 09-2's conditions TICKET_TAKE takes the oldest
ticket of Q_44 and hands the raised grant counter to the Locket; with that write placed, hold-up ready, its mirror settled and a nonce and a use of the Signet slot at hand,
GRANT_COUNTER_ACCEPTED goes on to the sealing; with the Signet on engine 0 and mask bits flowing SIGNET_SEALED completes the ticket with OK, and asserts the release for START. ENG_RUN marks the release as running or starts its drop; the start button latches a trigger while MAIN runs; START_WAIT without the engine is
end reason 1 and RUN_DROP reason 2, each with both outputs off and E_141; each third wrong readback sets OUT_FAULT with E_143 and ends a release as reason 3. -/
def Obligations.ReleaseEnds : Prop :=
  (∀ (s : State) (e : Entry) (l : List Entry), s.ring 44 = e :: l → s.gov.ticket = none → s.tsu.handover = none → blkGOV ∉ s.fences.inReset → TicketPasses s e.payload →
    ∃ t, Sys2Proof.Machine.exec .ticketTake s = .next t ∧ t.ring 44 = l ∧ t.gov = { s.gov with ticket := some { payload := e.payload, grant := s.ringValue 1 + 1 } } ∧ t.pins = s.pins) ∧
  (∀ (s : State) (x : GovTicket) (w : LktWrite), s.gov.ticket = some x → x.phase = .counter → s.lkt.writes.find? (fun y => y.writer == .grantCounter) = some w →
    w.state = .waiting → w.placed = true → s.pins.wpLow = false → s.pins.holdupReady = true → s.mirrorDone w.mseq = true → s.nonceRefused = false → s.key.invocNext < s.key.invocTop →
    s.slotCause s.signetSlot useSEAL [0, 1] 2 = 0 → (s.slot s.signetSlot).count < (s.slot s.signetSlot).ceiling →
    ∃ t, Sys2Proof.Machine.exec .grantCounterAccepted s = .next t ∧ t.pins = s.pins ∧ t.gov.rel = s.gov.rel ∧ t.key.invocNext = s.key.invocNext + 1 ∧
      t.gov.ticket = some { x with degraded := s.pairDegraded || w.lone, phase := .seal, nonce := leBytes 4 (s.reg Reg.KEY_NONCE_CFG_DEVICE) ++ leBytes 8 s.key.invocNext }) ∧
  (∀ (s : State) (x : GovTicket) (o : AeaOp), s.gov.ticket = some x → x.phase = .seal → s.masksFlow = true → (s.engine 0).op = some o → o.ring = ringGov → o.cmd = ticketNumber x.payload →
    ∃ t, Sys2Proof.Machine.exec .signetSealed s = .next t ∧ t.gov.ticket = none ∧ TicketDone x.payload stOK 0 t ∧
      (ticketType x.payload = 2 → t.pins = { s.pins with relA := some true, relBn := some false } ∧ Raised 140 t) ∧ (ticketType x.payload ≠ 2 → t.pins = s.pins)) ∧
  (∀ (s : State) (h : Bool), Runs (.engRunChange h) s (fun t => t.pins = { s.pins with engRun := h } ∧ (s.gov.rel = none → t.gov = s.gov) ∧
    (∀ r, s.gov.rel = some r → h = true → t.gov.rel = some { r with running := true, lowSince := none }) ∧
    (∀ r, s.gov.rel = some r → h = false → r.lowSince = none → t.gov.rel = some { r with lowSince := some s.now }) ∧ Only [.pins, .gov] s t)) ∧
  (∀ (s : State) (l : Bool), Runs (.startBtnAssert l) s (fun t => t.pins = { s.pins with startBtn := l } ∧
    (l = true → s.pins.startBtn = false → s.flag Reg.VRD_CTRL_EN = true → s.awake = true → Raised 138 t ∧ ∃ x, t.vrd.start = some x ∧ x.latched = s.now) ∧
    ((l = false ∨ s.pins.startBtn = true ∨ s.flag Reg.VRD_CTRL_EN = false ∨ s.awake = false) → t.vrd = s.vrd) ∧ Only [.pins, .vrd, .evt] s t)) ∧
  (∀ (s : State) (r : Release), s.gov.rel = some r → r.running = false → r.assertedAt + 1000000 * s.reg Reg.GOV_REL_CFG_START_WAIT ≤ s.now →
    Runs .startWaitExpiry s (fun t => t.gov.rel = none ∧ t.pins.relA ≠ some true ∧ Raised 141 t ∧ t.reg Reg.GOV_LAST_END = 1)) ∧
  (∀ (s : State) (r : Release) (x : Nat), s.gov.rel = some r → r.running = true → r.lowSince = some x → x + 10000 * s.reg Reg.GOV_REL_CFG_RUN_DROP ≤ s.now →
    Runs .runDropExpiry s (fun t => t.gov.rel = none ∧ t.pins.relA ≠ some true ∧ Raised 141 t ∧ t.reg Reg.GOV_LAST_END = 2)) ∧
  (∀ (s : State) (a b : Bool), s.pins.relA = some a → s.pins.relBn = some b → Runs (.outputReadback a b) s (fun t => t.gov = { s.gov with mismatch := 0 } ∧ Only [.gov] s t)) ∧
  (∀ (s : State) (a b x y : Bool), s.pins.relA = some x → s.pins.relBn = some y → (x, y) ≠ (a, b) → 2 ≤ s.gov.mismatch →
    Runs (.outputReadback a b) s (fun t => t.reg Reg.GOV_STAT_OUT_FAULT = 1 ∧ t.gov.mismatch = 0 ∧ t.gov.rel = none ∧ Raised 143 t ∧
      (∀ r, s.gov.rel = some r → t.pins.relA = some false ∧ t.pins.relBn = some true ∧ Raised 141 t ∧ t.reg Reg.GOV_LAST_END = 3) ∧
      (s.gov.rel = none → t.pins = s.pins ∧ FieldsKept [Reg.GOV_STAT_OUT_FAULT] s t ∧ Only [.gov, .regs, .evt] s t))) ∧
  (∀ (s : State) (a b x y : Bool), s.pins.relA = some x → s.pins.relBn = some y → (x, y) ≠ (a, b) → s.gov.mismatch < 2 →
    Runs (.outputReadback a b) s (fun t => t.gov = { s.gov with mismatch := s.gov.mismatch + 1 } ∧ Only [.gov] s t))

/-- Controller c with the other one as before. -/
def OneController (c : Nat) (x : CanCtl) (s t : State) : Prop := t.canCtl c = x ∧ t.canCtl (1 - c) = s.canCtl (1 - c)

/-- Tier 2. Signets on CAN (R434, R435, R446): the first transmitted copy raises E_142 and the last one leaves the controller; the next copy is queued 10 ms after the one before; a copy not
transmitted within 50 ms is abandoned with E_143 and a count. A bus error counts as ISO 11898-1 says (PRESUMED, assumption 64); recovery from bus-off clears the counters. -/
def Obligations.SignetsOnCan : Prop :=
  (∀ (s : State) (c : Fin 2) (g : Signet), (s.canCtl c.val).signets = [g] → g.queued = true → g.left = 0 → s.canOn c.val = true → s.regI Reg.CAN_CTRL_FD c.val = 1 →
    Runs (.signetTransmitted c) s (fun t => (t.canCtl c.val).signets = [] ∧ t.can.sent = some (c.val, g.frame) ∧ (g.told = false → Raised 142 t) ∧ (g.told = true → t.evt = s.evt) ∧
      Only [.can, .evt] s t)) ∧
  (∀ (s : State) (c : Fin 2) (g : Signet), (s.canCtl c.val).signets = [g] → g.queued = false → g.at_ + 9000 ≤ s.now →
    Runs (.signetRepeat c) s (fun t => OneController c.val { s.canCtl c.val with signets := [{ g with queued := true, at_ := s.now }] } s t ∧ Only [.can] s t)) ∧
  (∀ (s : State) (c : Fin 2) (g : Signet), (s.canCtl c.val).signets = [g] → g.queued = true → g.left = 0 → g.at_ + 50000 ≤ s.now →
    Runs (.signetAbandon c) s (fun t => OneController c.val { s.canCtl c.val with signets := [] } s t ∧ Raised 143 t ∧
      t.reg Reg.GOV_ERR_SIGNET = satInc Reg.GOV_ERR_SIGNET.width (s.reg Reg.GOV_ERR_SIGNET) ∧ t.pins = s.pins ∧ Only [.can, .evt, .regs, .jnl] s t)) ∧
  (∀ (s : State) (c : Fin 2) (tx eight : Bool), s.canOn c.val = true →
    Runs (.canBusError c tx eight) s (fun t => (tx = true → (t.canCtl c.val).tec = min 255 ((s.canCtl c.val).tec + if eight then 8 else 0)) ∧
      (tx = true → 255 < (s.canCtl c.val).tec + (if eight then 8 else 0) → (t.canCtl c.val).busOff = true) ∧
      (tx = false → (t.canCtl c.val).rec_ = min 255 ((s.canCtl c.val).rec_ + if eight then 8 else 1)) ∧ t.canCtl (1 - c.val) = s.canCtl (1 - c.val) ∧ Only [.can] s t)) ∧
  (∀ (s : State) (c : Fin 2), s.canState c.val = 2 →
    Runs (.canBusOffRecovery c) s (fun t => OneController c.val { s.canCtl c.val with busOff := false, tec := 0, rec_ := 0 } s t ∧ Only [.can] s t))

/-- Tier 2. CAN frames (R435, R438, R734, R735): CAN_SEND of a frame within its limits queues it; transmitted, it completes its command; CAN_RECV arms its filter and completes with the first
classical frame that passes, a data frame with its data or a remote frame (`brs` set: RTR, assumption 64) with none; CAN_STATUS answers; operands outside the limits, and Signet identifiers, are refused with REFUSED_POLICY. -/
def Obligations.CanFrames : Prop :=
  (∀ (s : State) (r : Running), s.que.running.find? (fun x => x.ring == 12 && x.entry.code == 1 && !x.started) = some r → r.num 0 1 ≤ 1 → r.num 6 1 = 0 → r.num 8 1 ≤ 8 → r.num 5 1 = 0 →
    r.num 1 4 < 2 ^ 11 → s.signetId (r.num 1 4) false = false →
    Runs .canSend s (fun t => (∃ f, (t.canCtl (r.num 0 1)).txq = (s.canCtl (r.num 0 1)).txq ++ [(r.entry.seq, f)] ∧ f.id = r.num 1 4 ∧ f.fd = false ∧ f.xtd = false ∧
      f.data = r.sub 9 (r.num 8 1)) ∧ Only [.can, .que] s t)) ∧
  (∀ (s : State) (r : Running), s.que.running.find? (fun x => x.ring == 12 && x.entry.code == 1 && !x.started) = some r →
    (1 < r.num 0 1 ∨ 64 < r.num 8 1 ∨ s.signetId (r.num 1 4) (r.num 5 1 == 1) = true) → Runs .canSend s (fun t => Completed r blkCAN stPOLICY 0 [] t ∧ Only [.que, .evt, .regs] s t)) ∧
  (∀ (s : State) (c : Fin 2) (q : Nat) (f : CanFrame) (l : List (Nat × CanFrame)) (r : Running), (s.canCtl c.val).txq = (q, f) :: l → s.canOn c.val = true →
    (∀ g ∈ (s.canCtl c.val).signets, g.queued = false) → s.runningSeq 12 q = some r →
    Runs (.canFrameTransmitted c) s (fun t => (t.canCtl c.val).txq = l ∧ t.can.sent = some (c.val, f) ∧ Completed r blkCAN stOK 0 [] t ∧ Only [.can, .que, .evt, .regs] s t)) ∧
  (∀ (s : State) (r : Running), s.que.running.find? (fun x => x.ring == 12 && x.entry.code == 2 && !x.started) = some r → r.num 0 1 ≤ 1 → r.num 1 1 ≤ 15 → s.runningSeq 12 r.entry.seq = some r →
    Runs .canRecv s (fun t => (∃ x, t.runningSeq 12 r.entry.seq = some x ∧ x.started = true ∧ x.entry = r.entry) ∧ Only [.que] s t)) ∧
  (∀ (s : State) (c : Fin 2) (id : BitVec 29) (xtd brs : Bool) (d : List Byte) (r : Running), s.canOn c.val = true → d.length ≤ 8 → s.que.running = [r] → r.ring = 12 → r.entry.code = 2 →
    r.started = true → r.num 0 1 = c.val → s.canPasses c.val (r.num 1 1) id.toNat = true →
    Runs (.canFrameReceived c id xtd false brs d) s (fun t => Completed r blkCAN stOK 0 (leBytes 4 id.toNat ++ leBytes 1 (ofBool xtd + 8 * ofBool brs) ++ leBytes 1 (if brs then 0 else d.length) ++ (if brs then [] else d)) t ∧
      Only [.can, .que, .evt, .regs, .fresh] s t)) ∧
  (∀ (s : State) (r : Running), s.running 12 3 = some r → r.num 0 1 ≤ 1 →
    Runs .canStatus s (fun t => Completed r blkCAN stOK 0 (s.regBytes Reg.CAN_STAT_STATE (r.num 0 1)) t ∧ Only [.que, .evt, .regs] s t))

/-! ## Privilege, keys, credentials, authority (chapters 10, 01) -/

/-- Tier 2. Elevation (R449, R451, R455 to R458): PRIV_CHALLENGE answers 16 bytes of the general DRBG and the device number; PRIV_PROVE of the host with a signature that verifies raises it to the level
for 1,800 s and uses the challenge up, one that does not ends with AUTH_FAIL; PRIV_DRIVER needs a proof of the last 60 s; PRIV_DROP returns the host to PUBLIC and ends its grants; elevations
end with their time. -/
def Obligations.Elevation : Prop :=
  (∀ (s : State) (r : Running), s.running 10 1 = some r → s.rngServes = true →
    Runs .privChallenge s (fun t => t.priv.challenge = some { bytes := (s.random 16).1, at_ := s.now } ∧ Completed r blkKEY stOK 0 ((s.random 16).1 ++ leBytes 8 s.devnum) t ∧
      t.hostLevel = s.hostLevel ∧ Only [.priv, .crypto, .fresh, .que, .evt, .regs] s t)) ∧
  (∀ (s : State) (r : Running) (c : Challenge), s.running 10 2 = some r → s.proveLocked = false → (r.num 0 1 = 2 ∨ r.num 0 1 = 3) → r.num 6 4 = 64 → r.entry.master = 3 →
    s.rangeOk 3 (r.num 2 4) 64 = true → s.priv.challenge = some c → s.now < c.at_ + 10000000 → s.pkeVerifies = true → s.inTurn pkeHolds r = true →
    (ecdsaVerify (s.proveKey (r.num 0 1) (r.num 1 1)) (sha256 (proveMessage s.devnum c.bytes (r.num 0 1) (r.num 1 1) 3)) (s.bytes (r.num 2 4) 64) = true →
      Runs .privProve s (fun t => t.priv.elevated = some (r.num 0 1, s.now) ∧ t.priv.challenge = none ∧ t.hostLevel = r.num 0 1 ∧
        Completed r blkKEY stOK 0 (leBytes 1 (r.num 0 1) ++ leBytes 2 1800) t ∧ Only [.priv, .regs, .evt, .que, .lkt] s t)) ∧
    (ecdsaVerify (s.proveKey (r.num 0 1) (r.num 1 1)) (sha256 (proveMessage s.devnum c.bytes (r.num 0 1) (r.num 1 1) 3)) (s.bytes (r.num 2 4) 64) = false →
      Runs .privProve s (fun t => t.priv.elevated = s.priv.elevated ∧ t.priv.challenge = none ∧ Completed r blkKEY stAUTH 0 [] t ∧ Only [.priv, .regs, .evt, .que, .jnl] s t))) ∧
  (∀ (s : State) (r : Running) (p : Nat × Nat × Nat × Nat), s.running 10 3 = some r → r.entry.master = 3 →
    s.priv.proofs.find? (fun x => x.1 == r.num 0 4 && x.2.1 == r.num 4 2 && decide (s.now ≤ x.2.2.2 + 60000000)) = some p →
    Runs .privDriver s (fun t => t.priv.driver = some (p.2.2.1, s.now) ∧ Completed r blkKEY stOK 0 (leBytes 2 p.2.2.1 ++ leBytes 2 600) t ∧ Only [.priv, .regs, .evt, .que, .lkt] s t)) ∧
  (∀ (s : State) (r : Running), s.running 10 4 = some r → r.entry.master = 3 →
    Runs .privDrop s (fun t => t.hostLevel = 0 ∧ (∀ g ∈ t.lkt.grants, g.master ≠ 3) ∧ t.mem = s.mem ∧ Completed r blkKEY stOK 0 [] t ∧ Only [.priv, .lkt, .regs, .evt, .que] s t)) ∧
  (∀ s : State, Runs .privilegeExpiry s (fun t =>
    (∀ e, t.priv.elevated = some e ↔ s.priv.elevated = some e ∧ s.now < e.2 + 1800000000) ∧ (∀ d, t.priv.driver = some d ↔ s.priv.driver = some d ∧ s.now < d.2 + 600000000) ∧
    Only [.priv, .evt, .lkt] s t))

/-- A Hallmark signature of a message has been handed to PKE for a command, after `before` in its output (R477). -/
def HallmarkBegun (r : Running) (before msg : List Byte) (s t : State) : Prop :=
  (∃ op k, t.crypto.pke = some op ∧ op.ring = 10 ∧ op.cmd = r.entry.seq ∧ op.kind = .sign ∧ op.slot = 254 ∧ op.dest = r.dest ∧
    op.out = before ++ ecdsaSign (ofBe (s.slotRaw 254).key) (sha256 msg) k) ∧ (t.slotRaw 254).count = (s.slotRaw 254).count + 1

/-- Tier 2. Anchors and Hallmark (R453, R476 to R478): ANCHOR_GET writes both keys and the counter at its destination and no other byte; HALLMARK_GET and DEVICE_ATTEST hand PKE the messages of
R478 and Table 10-7 under slot 254. SET_STATUS and KEY_INFO answer their registers. -/
def Obligations.AnchorsAndHallmark : Prop :=
  (∀ (s : State) (r : Running), s.running 10 0x11 = some r → s.areaDamaged 0 = false → s.rangeOk r.entry.master r.dest 132 = true → 132 ≤ r.destLen →
    Runs .anchorGet s (fun t => t.bytes r.dest 132 = s.authorityKey ++ s.makerKey ++ leBytes 4 s.authCounter ∧ (∀ a, a < r.dest ∨ r.dest + 132 ≤ a → t.byte a = s.byte a) ∧
      Completed r blkKEY stOK 0 (leBytes 4 132) t ∧ Only [.mem, .que, .evt, .regs] s t)) ∧
  (∀ (s : State) (r : Running), s.running 10 0x11 = some r → s.areaDamaged 0 = true →
    Runs .anchorGet s (fun t => Completed r blkKEY stNV 0 [] t ∧ Only [.que, .evt, .regs] s t)) ∧
  (∀ (s : State) (r : Running), s.running 10 0x12 = some r → r.started = false → s.pkeFree = true → s.inTurn pkeHolds r = true → (s.useSlot 254 useSIGN [2] 0).1 = 0 →
    Runs .hallmarkGet s (HallmarkBegun r (s.key.certificate ++ publicKey (ofBe s.fuseTransport))
      ([0x54, 0x52, 0x4E, 0x53] ++ beBytes 8 s.devnum ++ publicKey (ofBe s.fuseTransport)) s)) ∧
  (∀ (s : State) (r : Running), s.running 10 0x13 = some r → r.started = false → s.pkeFree = true → s.inTurn pkeHolds r = true → (s.useSlot 254 useSIGN [2] 0).1 = 0 →
    Runs .deviceAttest s (HallmarkBegun r [] ([0x41, 0x54, 0x53, 0x54] ++ beBytes 8 s.devnum ++ r.sub 0 32) s)) ∧
  (∀ (s : State) (r : Running), s.running 9 2 = some r →
    Runs .setStatus s (fun t => Completed r blkCRD stOK 0 (s.regBytes Reg.CRD_STAT_TABLE_VALID 0 ++ s.regBytes Reg.CRD_GEN_GENERATION 0) t ∧ Only [.que, .evt, .regs] s t)) ∧
  (∀ (s : State) (r : Running), s.running 10 0x22 = some r →
    Runs .keyInfo s (fun t => Completed r blkKEY stOK 0 ((s.set Reg.KEY_SLOT_QRY_INDEX (r.num 0 1)).regBytes Reg.KEY_SLOT_INFO_STATE 0 ++
      (s.set Reg.KEY_SLOT_QRY_INDEX (r.num 0 1)).regBytes Reg.KEY_SLOT_USES_USED 0) t ∧ t.reg Reg.KEY_SLOT_QRY_INDEX = s.reg Reg.KEY_SLOT_QRY_INDEX ∧ Only [.que, .evt, .regs] s t))

/-- Slot n holds a newly loaded key: count and ceiling at 0 (R499). -/
def Loaded (n : Nat) (key : List Byte) (attrs ctr : Nat) (t : State) : Prop :=
  t.slotRaw n = { state := .active, key := key, attrs := attrs, loadCtr := some ctr } ∧ Raised 146 t ∧ ∃ j, t.key.vaultJob = some j

/-- Slot n of the key store is EMPTY after a zeroize: only its load counter stands (R498), and no other slot has changed. -/
def Zeroized (n : Nat) (s t : State) : Prop :=
  t.slotRaw n = { loadCtr := (s.slotRaw n).loadCtr } ∧ n ∈ t.key.aonMarks ∧ Raised 147 t ∧ ∀ m, m ≠ n → t.slotRaw m = s.slotRaw m

/-- Tier 2. Key slots (R498 to R501, R870): a KEY_LOAD that passes its checks puts the unwrapped key in its EMPTY slot with E_146 and begins the durable change; a DRAINING slot takes the new
key when nothing is in flight; a zeroize by Q_10, by KEY_ZEROIZE with the key 0x5A and by ALL empties the slots with E_147, and any other key does nothing. -/
def Obligations.KeySlots : Prop :=
  (∀ (s : State) (r : Running) (x k : List Byte), s.running 10 0x20 = some r → r.started = false → (keyLoadArgs r).allowed = true →
    s.rangeOk r.entry.master (keyLoadArgs r).eph 64 = true → s.rangeOk r.entry.master (keyLoadArgs r).wrap (keyLoadArgs r).wrapLen = true → s.flag Reg.KEY_CTRL_EN = true →
    s.slotRaw (keyLoadArgs r).slot = {} → bits (keyLoadArgs r).attrs 12 3 ≤ r.level → s.key.vaultJob = none → s.pkeFree = true → s.inTurn pkeHolds r = true →
    (s.freeEngine .bulk).isSome = true → (s.useSlot 253 useECDH [2] 0).1 = 0 →
    ecdh (ofBe (s.slotRaw 253).key) (s.bytes (keyLoadArgs r).eph 64) = some x →
    aesUnwrap (loadWrapKey x s.devnum (keyLoadArgs r).slot (keyLoadArgs r).ctr) (s.bytes (keyLoadArgs r).wrap (keyLoadArgs r).wrapLen) = some k →
    s.inFlightCmds (keyLoadArgs r).slot = [] → s.pins.wpLow = false → s.lkt.worn = false →
    Runs .keyLoad s (fun t => Loaded (keyLoadArgs r).slot k (bits (keyLoadArgs r).attrs 4 22 * 16) (keyLoadArgs r).ctr t ∧
      (∀ n, n ≠ (keyLoadArgs r).slot → n ≠ 253 → t.slotRaw n = s.slotRaw n))) ∧
  (∀ (s : State) (n : Fin 256) (l : PendingLoad), (s.slotRaw n.val).state = .draining → (s.slotRaw n.val).load = some l → s.inFlightCmds n.val = [] → s.key.vaultJob = none →
    s.pins.wpLow = false → s.lkt.worn = false →
    Runs (.keyLoadTakesEffect n) s (fun t => Loaded n.val l.key l.attrs l.ctr t ∧ (∀ m, m ≠ n.val → t.slotRaw m = s.slotRaw m))) ∧
  (∀ (s : State) (r : Running), s.running 10 0x21 = some r → r.num 0 1 < 248 → (s.slot (r.num 0 1)).state ≠ .empty → (s.slot (r.num 0 1)).owner ≤ r.level →
    Runs .keyZeroize s (fun t => Zeroized (r.num 0 1) s t ∧ Completed r blkKEY stOK 0 [] t)) ∧
  (∀ (s : State) (n : BitVec 8), n.toNat < 248 → s.auth = none →
    Runs (.keyZeroizeSlot 1 n 0x5A) s (Zeroized n.toNat s)) ∧
  (∀ (s : State) (n k : BitVec 8) (m : Nat), s.auth = none → m ≤ 7 → (m ≠ 1 ∨ k = 0x5A ∧ (n = 253 ∨ n = 254)) →
    Runs (.keyZeroizeSlot m n k) s (FaultRecorded 1 m (Reg.KEY_ZEROIZE_KEY.addrAt 0) true s)) ∧
  (∀ (s : State) (n k : BitVec 8), k ≠ 0x5A → s.auth = none → Runs (.keyZeroizeSlot 1 n k) s (fun t => t = s)) ∧
  (∀ s : State, Runs (.keyZeroizeAll 1) s (fun t => ∀ n, (n < 248 ∨ n = 255) → (t.slotRaw n).state = .empty))

/-- A pending write of the Locket for a writer. -/
def Submitted (w : Writer) (t : State) : Prop := ∃ x ∈ t.lkt.writes, x.writer = w

/-- Tier 2. Authority commands (R30, R31, R459 to R461, R841, R845): one of a wrong format is refused with REFUSED_POLICY; one that verifies opens the window with its writes and hands the
raised counter to the Locket; after 9 ms the writes not admitted are dropped and the command ends with E_151; the named write of TMP_CLR.LOCK goes to the Locket first and that of TMP_LATCH
clears its bits; without the named write both are ignored and recorded as a policy error (R32). -/
def Obligations.AuthorityCommands : Prop :=
  (∀ (s : State) (r : Running), s.auth = none → s.pkeVerifies = true → s.hft.waits ≠ .auth →
    s.que.running.find? (fun x => x.ring == 10 && x.entry.code == 0x10 && !x.started) = some r → s.inTurn pkeHolds r = true → s.runningSeq 10 r.entry.seq = some r →
    s.rangeOk r.entry.master (r.num 0 4) (r.num 4 4) = true → r.num 4 4 ≤ 400 →
    (authFormat (s.bytes (r.num 0 4) (r.num 4 4)) = false →
      Runs .authCommand s (fun t => t.auth = none ∧ Raised 151 t ∧ Completed r blkKEY stPOLICY 0 (leBytes 1 0 ++ leBytes 4 s.authCounter) t ∧ Only [.que, .evt, .regs] s t)) ∧
    ((s.authCheck (s.bytes (r.num 0 4) (r.num 4 4))).1.1 = stOK →
      Runs .authCommand s (fun t => (∃ w, t.auth = some w ∧ w.source = .queue r.entry.seq ∧ w.phase = .counter ∧ w.left = authWrites (s.bytes (r.num 0 4) (r.num 4 4)) ∧
        w.ctr = ofLe (slice (s.bytes (r.num 0 4) (r.num 4 4)) 12 4) ∧ w.applied = 0 ∧ w.openedAt = s.now) ∧ Submitted .anchor t ∧
        Only [.auth, .lkt, .mem, .que, .evt, .regs, .tsu] s t))) ∧
  (∀ (s : State) (w : Auth), s.auth = some w → w.phase = .writes → w.openedAt + 9000 ≤ s.now →
    (w.waiting = none → Runs .authorityWindowExpiry s (fun t => t.auth = none ∧ Raised 151 t ∧ t.tmp = s.tmp ∧
      (∀ c r, w.source = .queue c → s.runningSeq 10 c = some r → Completed r blkKEY stOK 0 (leBytes 1 w.applied ++ leBytes 4 s.authCounter) t))) ∧
    (w.waiting ≠ none → Runs .authorityWindowExpiry s (fun t => t.auth = some { w with left := [] } ∧ Only [.auth] s t))) ∧
  (∀ (s : State) (w : AuthWrite), s.namedWrite 1 Reg.TMP_CLR_LOCK = some w → bit (w.value &&& w.mask) 0 = true →
    Runs (.tamperLockClear 1) s (fun t => Submitted .tamperPage t ∧ (∃ a, t.auth = some a ∧ a.waiting = some w) ∧ t.tmp = s.tmp ∧ Only [.auth, .lkt, .mem, .que, .evt, .regs, .tsu] s t)) ∧
  (∀ (s : State) (w : AuthWrite), s.namedWrite 1 Reg.TMP_LATCH_LATCH = some w →
    Runs (.tamperLatchClear 1) s (fun t => t.reg Reg.TMP_LATCH_LATCH = low Reg.TMP_LATCH_LATCH.width
      (s.reg Reg.TMP_LATCH_LATCH - (s.reg Reg.TMP_LATCH_LATCH &&& (w.value &&& w.mask))) ∧ t.tmp = s.tmp)) ∧
  (∀ (s : State) (m : Nat), m ≤ 7 → m ≠ 1 ∨ s.auth = none →
    Runs (.tamperLockClear m) s (fun t => FaultRecorded 1 m (Reg.TMP_CLR_LOCK.addrAt 0) true s t ∧ t.tmp = s.tmp) ∧
    Runs (.tamperLatchClear m) s (fun t => FaultRecorded 1 m (Reg.TMP_LATCH_LATCH.addrAt 0) true s t ∧ t.reg Reg.TMP_LATCH_LATCH = s.reg Reg.TMP_LATCH_LATCH))

/-- Tier 2. Learning a credential set (R468 to R474): a set with a wrong format completes with cause 1 and E_149; one that passes the checks begins to write the bank not in force; at a quiet
point the switch writes the selector; 2 s without one end it with cause 11; 5 s without the partner let this device switch alone. -/
def Obligations.Learning : Prop :=
  (∀ (s : State) (r : Running), s.que.running.find? (fun x => x.ring == 9 && x.entry.code == 1 && !x.started) = some r → s.runningSeq 9 r.entry.seq = some r →
    s.flag Reg.PKE_STAT_KAT_FAIL = false → s.pkeFree = true → s.inTurn pkeHolds r = true → (s.freeEngine .bulk).isSome = true → s.rangeOk r.entry.master (r.num 0 4) (r.num 4 4) = true → setFormat (s.bytes (r.num 0 4) (r.num 4 4)) = false →
    Runs .setLearn s (fun t => Completed r blkCRD stPOLICY 1 (leBytes 2 0) t ∧ t.reg Reg.CRD_LAST_CAUSE = 1 ∧ t.reg Reg.CRD_LAST_STATUS = stPOLICY ∧ Raised 149 t ∧ t.crd = s.crd ∧
      t.nor = s.nor ∧ Only [.que, .evt, .regs] s t)) ∧
  (∀ (s : State) (r : Running), s.que.running.find? (fun x => x.ring == 9 && x.entry.code == 1 && !x.started) = some r → s.flag Reg.PKE_STAT_KAT_FAIL = false →
    s.pkeFree = true → s.inTurn pkeHolds r = true → (s.freeEngine .bulk).isSome = true → s.rangeOk r.entry.master (r.num 0 4) (r.num 4 4) = true → ((s.startCmd r).learnCheck (s.bytes (r.num 0 4) (r.num 4 4)) false).1.cause = 0 →
    s.mirrorsNow = false →
    Runs .setLearn s (fun t => (∃ l, t.crd.learn = some l ∧ l.cmd = some r.entry.seq ∧ l.phase = .writing ∧ l.generation = setGen (s.bytes (r.num 0 4) (r.num 4 4)) ∧
      l.count = setCount (s.bytes (r.num 0 4) (r.num 4 4)) ∧ l.since = s.now ∧
      t.nor.jobs = s.nor.jobs ++ [{ area := .cred (1 - s.crd.bank), data := ((s.startCmd r).learnCheck (s.bytes (r.num 0 4) (r.num 4 4)) false).1.bank }]) ∧ t.crd.generation = s.crd.generation ∧ t.crd.bank = s.crd.bank)) ∧
  (∀ (s : State) (l : Learn), s.crd.learn = some l → l.phase = .quiet → s.quietPoint = true →
    Runs .setSwitch s (fun t => t.crd.learn = some { l with phase := .selector } ∧ Submitted .selector t ∧ t.crd.generation = s.crd.generation ∧
      Only [.crd, .lkt, .mem, .que, .evt, .regs, .tsu] s t)) ∧
  (∀ (s : State) (l : Learn) (c : Nat) (r : Running), s.crd.learn = some l → l.phase = .quiet → l.cmd = some c → s.runningSeq 9 c = some r → l.since + 2000000 ≤ s.now →
    Runs .learnQuietTimeout s (fun t => t.crd.learn = none ∧ t.reg Reg.CRD_LAST_CAUSE = 11 ∧ Raised 149 t ∧ Completed r blkCRD stFULL 11 (leBytes 2 0) t ∧
      Only [.crd, .que, .evt, .regs] s t)) ∧
  (∀ (s : State) (l : Learn), s.crd.learn = some l → l.cmd ≠ none → l.mseq ≠ none → l.since + 5000000 ≤ s.now →
    (l.phase = .partner → Runs .learnPartnerTimeout s (fun t => t.crd.learn = some { l with mseq := none, degraded := true, phase := .quiet, since := s.now } ∧ Only [.crd] s t)) ∧
    (l.phase = .writing → Runs .learnPartnerTimeout s (fun t => t.crd.learn = some { l with mseq := none, degraded := true } ∧ Only [.crd] s t)))

/-! ## Crypto engines (chapter 11) -/

/-- The bytes of l stand at address a and no other byte has changed. -/
def BytesPut (a : Nat) (l : List Byte) (s t : State) : Prop := (∀ i, i < l.length → t.byte (a + i) = l.getD i 0) ∧ ∀ b, b < a ∨ a + l.length ≤ b → t.byte b = s.byte b

/-- Engine e runs a BULK operation of command r: its output is computed from the operands as they stood, and the slot has been used once more (R482, R545). -/
def AeadBegun (r : Running) (a : AeadArgs) (isOpen : Bool) (nonce : List Byte) (e : Nat) (s t : State) : Prop :=
  (∃ o, (t.engine e).op = some o ∧ o.cls = .bulk ∧ o.ring = r.ring ∧ o.cmd = r.entry.seq ∧ o.dest = r.dest ∧ o.isOpen = isOpen ∧
    o.out = aeadRun (s.slotRaw a.slot).key a nonce (s.bytes a.aAddr a.aLen) (s.bytes a.pAddr (if isOpen then a.pLen + a.tagLen else a.pLen)) isOpen) ∧
  (t.slotRaw a.slot).count = (s.slotRaw a.slot).count + 1

/-- Tier 2. AEAD on Q_4 and Q_5 (R482, R493, R509, R517, R518, R545 to R549): a command that no cause of Table 11-8 refuses starts on a free engine, with the caller's nonce or the device's
own; its end writes the output, or for a tag that fails nothing but cause 8 and E_152; after 256 block operations a BULK operation gives way to a waiting one, which stalls, counted, while no masks flow (R515); a command beyond BULK_WAIT ends with the
first cause of Table 11-8 that holds, 7 and E_159 at the latest. -/
def Obligations.AeadCommands : Prop :=
  (∀ (s : State) (q : Fin 2) (r : Running) (e : Nat), s.running (4 + q.val) 1 = some r → r.started = false → (s.slot (r.num 0 1)).deviceNonce = false →
    s.aeadCause r (aeadArgs r true) true false = 0 → s.inTurn aeadHolds r = true → s.freeEngine .bulk = some e → (s.useSlot (aeadArgs r true).slot useSEAL [0, 1] 0).1 = 0 →
    Runs (.aeadSeal q) s (AeadBegun r (aeadArgs r true) false (aeadArgs r true).nonce e s)) ∧
  (∀ (s : State) (q : Fin 2) (r : Running) (e : Nat), s.running (4 + q.val) 1 = some r → r.started = false → (s.slot (r.num 0 1)).deviceNonce = true →
    s.aeadCause r (aeadArgs r false) false false = 0 → s.inTurn aeadHolds r = true → s.freeEngine .bulk = some e → s.nonceRefused = false → s.key.invocNext < s.key.invocTop →
    (s.useSlot (aeadArgs r false).slot useSEAL [0, 1] 0).1 = 0 →
    Runs (.aeadSeal q) s (fun t => AeadBegun r (aeadArgs r false) false (leBytes 4 (s.reg Reg.KEY_NONCE_CFG_DEVICE) ++ leBytes 8 s.key.invocNext) e s t ∧
      t.key.invocNext = s.key.invocNext + 1)) ∧
  (∀ (s : State) (q : Fin 2) (r : Running) (e : Nat), s.running (4 + q.val) 2 = some r → r.started = false → s.aeadCause r (aeadArgs r true) true true = 0 →
    s.inTurn aeadHolds r = true → s.freeEngine .bulk = some e → (s.useSlot (aeadArgs r true).slot useOPEN [0, 1] 0).1 = 0 →
    Runs (.aeadOpen q) s (AeadBegun r (aeadArgs r true) true (aeadArgs r true).nonce e s)) ∧
  (∀ (s : State) (e : Fin 2) (o : AeaOp) (r : Running), (s.engine e.val).op = some o → (o.ring = 4 ∨ o.ring = 5) → s.masksFlow = true → s.runningSeq o.ring o.cmd = some r →
    (∀ d, o.out = some d → Runs (.aeadOpComplete e) s (fun t => BytesPut o.dest d s t ∧ Completed r blkAEA stOK 0 o.nonce t ∧
      t.regI Reg.AEA_STAT_OPS e.val = low Reg.AEA_STAT_OPS.width (s.regI Reg.AEA_STAT_OPS e.val + 1) ∧ Only [.mem, .crypto, .que, .evt, .regs] s t)) ∧
    (o.out = none → Runs (.aeadOpComplete e) s (fun t => t.mem = s.mem ∧ Completed r blkAEA stAUTH 8 [] t ∧ Raised 152 t ∧
      t.regI Reg.AEA_ERR_TAG_FAIL e.val = satInc Reg.AEA_ERR_TAG_FAIL.width (s.regI Reg.AEA_ERR_TAG_FAIL e.val) ∧ Only [.crypto, .que, .evt, .regs] s t))) ∧
  (∀ (s : State) (e : Fin 2) (o w : AeaOp), (s.engine e.val).op = some o → o.cls = .bulk → s.crypto.aeaWait = [w] → w.cls ≠ .bulk → s.freeEngine .safety = none → (s.engine e.val).susp = none →
    s.engineUsable e.val = true → blkAEA ∈ s.crypto.kat → s.segmentRun o = true → s.glt.queue = [] →
    Runs (.bulkSuspend e) s (fun t => (t.engine e.val).susp = some { o with suspAt := s.now } ∧ (t.engine e.val).op = some { w with runAt := s.now } ∧ t.crypto.aeaWait = [] ∧
      (s.masksFlow = true → Only [.crypto, .que] s t) ∧
      (s.masksFlow = false → (s.engine (1 - e.val)).susp = none → t.reg Reg.AEA_MASK_STALLS = satInc Reg.AEA_MASK_STALLS.width (s.reg Reg.AEA_MASK_STALLS) ∧
        FieldsKept [Reg.AEA_MASK_STALLS] s t ∧ Only [.crypto, .que, .regs] s t))) ∧
  (∀ (s : State) (q : Fin 2) (r : Running), s.que.running.find? (fun x => x.ring == 4 + q.val && !x.started) = some r → r.headAt + 1000 * s.reg Reg.AEA_CFG_BULK_WAIT ≤ s.now →
    Runs (.cryptoBulkWaitExpiry q) s (fun t => Completed r (cryptoBlock r.entry.code) (causeStatus (s.cryptoCause r)) (s.cryptoCause r) [] t ∧ 1 ≤ s.cryptoCause r ∧ s.cryptoCause r ≤ 7 ∧
      (s.cryptoCause r = 7 → Raised 159 t) ∧ (s.cryptoCause r = 7 → cryptoBlock r.entry.code = blkAEA → t.regI Reg.AEA_ERR_REFUSED q.val = satInc Reg.AEA_ERR_REFUSED.width (s.regI Reg.AEA_ERR_REFUSED q.val)) ∧ Only [.que, .evt, .regs] s t)) ∧
  (∀ (s : State) (m : Nat), s.mayWriteField m Reg.AEA_ERR_CLR_CLR = true →
    Runs (.aeaErrClr m) s (fun t => (∀ e, e < 2 → t.regI Reg.AEA_ERR_TAG_FAIL e = 0 ∧ t.regI Reg.AEA_ERR_ABORTED e = 0 ∧ t.regI Reg.AEA_ERR_REFUSED e = 0) ∧ t.reg Reg.AEA_MASK_STALLS = 0 ∧
      FieldsKept [Reg.AEA_ERR_TAG_FAIL, Reg.AEA_ERR_ABORTED, Reg.AEA_ERR_REFUSED, Reg.AEA_MASK_STALLS] s t ∧ Only [.regs] s t))

/-- PKE holds an operation of command r. -/
def PkeBegun (r : Running) (kind : PkeKind) (slot cause : Nat) (out : List Byte → Prop) (t : State) : Prop :=
  ∃ o, t.crypto.pke = some o ∧ o.kind = kind ∧ o.slot = slot ∧ o.cause = cause ∧ o.ring = r.ring ∧ o.cmd = r.entry.seq ∧ o.dest = r.dest ∧ out o.out

/-- Tier 2. PKE on Q_4 and Q_5 (R521, R523 to R525, R540, R541): SIGN, VERIFY and ECDH start with their outcome; completion delivers output or cause 8; a signature that fails its own check
releases nothing, raises E_154 and resets PKE; the known-answer test enables PKE or sets KAT_FAIL with E_153. -/
def Obligations.PkeCommands : Prop :=
  (∀ (s : State) (q : Fin 2) (r : Running), s.running (4 + q.val) 4 = some r → r.started = false → s.pkeCause r (r.num 0 1) useSIGN 32 64 = 0 → s.pkeFree = true → s.inTurn pkeHolds r = true →
    (s.useSlot (r.num 0 1) useSIGN [2] 0).1 = 0 →
    Runs (.sign q) s (PkeBegun r .sign (r.num 0 1) 0 (fun o => ∃ k, o = ecdsaSign (ofBe (s.slotRaw (r.num 0 1)).key) (s.bytes (r.num 1 4) 32) k))) ∧
  (∀ (s : State) (q : Fin 2) (r : Running), s.running (4 + q.val) 5 = some r → r.started = false → s.cryptoRange r.entry.master (r.num 0 4) 160 = true → s.bulkLate r = false →
    s.pkeVerifies = true → s.inTurn pkeHolds r = true →
    Runs (.verify q) s (fun t => PkeBegun r .verify 0 (if (pointOf (s.bytes (r.num 0 4) 64)).isNone then 9 else
      if ecdsaVerify (s.bytes (r.num 0 4) 64) (s.bytes (r.num 0 4 + 64) 32) (s.bytes (r.num 0 4 + 96) 64) then 0 else 8) (· = []) t ∧ Only [.crypto, .que] s t)) ∧
  (∀ (s : State) (q : Fin 2) (r : Running), s.running (4 + q.val) 6 = some r → r.started = false → s.pkeCause r (r.num 0 1) useECDH 64 32 = 0 → s.pkeFree = true → s.inTurn pkeHolds r = true →
    (s.useSlot (r.num 0 1) useECDH [2] 0).1 = 0 →
    (∀ x, ecdh (ofBe (s.slotRaw (r.num 0 1)).key) (s.bytes (r.num 1 4) 64) = some x → Runs (.ecdh q) s (PkeBegun r .ecdh (r.num 0 1) 0 (· = x))) ∧
    (ecdh (ofBe (s.slotRaw (r.num 0 1)).key) (s.bytes (r.num 1 4) 64) = none → Runs (.ecdh q) s (PkeBegun r .ecdh (r.num 0 1) 9 (· = [])))) ∧
  (∀ (s : State) (b : Bool) (o : PkeOp) (r : Running), s.crypto.pke = some o → (o.kind = .sign → b = true) → (o.ring = 4 ∨ o.ring = 5) → s.runningSeq o.ring o.cmd = some r →
    s.flag Reg.JNL_SEAL_CTL_GO = false → s.tsu.helloRx = none →
    (o.cause = 0 → Runs (.pkeOpComplete b) s (fun t => t.crypto.pke = none ∧ BytesPut o.dest o.out s t ∧ Completed r blkPKE stOK 0 [] t ∧ Only [.mem, .crypto, .que, .evt, .regs] s t)) ∧
    (o.cause = 8 → Runs (.pkeOpComplete b) s (fun t => t.crypto.pke = none ∧ Completed r blkPKE stAUTH 8 [] t ∧
      t.reg Reg.PKE_ERR_VERIFY_FAIL = satInc Reg.PKE_ERR_VERIFY_FAIL.width (s.reg Reg.PKE_ERR_VERIFY_FAIL) ∧ Only [.crypto, .que, .evt, .regs] s t))) ∧
  (∀ (s : State) (o : PkeOp), s.crypto.pke = some o → o.kind = .sign →
    Runs (.pkeOpComplete false) s (fun t => t.mem = s.mem ∧ t.crypto.pke = none ∧ t.crypto.pkeKat = false ∧ blkPKE ∈ t.fences.inReset ∧ Raised 154 t ∧ Raised 191 t ∧ t.pins = s.pins)) ∧
  (∀ s : State, s.crypto.pkeKat = false → s.crypto.pke = none → blkPKE ∉ s.fences.inReset → s.flag Reg.JNL_SEAL_CTL_GO = false → s.tsu.helloRx = none →
    Runs (.pkeKat true) s (fun t => t.crypto = { s.crypto with pkeKat := true } ∧ Only [.crypto] s t) ∧
    Runs (.pkeKat false) s (fun t => t.crypto.pkeKat = true ∧ t.reg Reg.PKE_STAT_KAT_FAIL = 1 ∧ Raised 153 t ∧ Only [.crypto, .regs, .evt, .jnl] s t))

/-- Tier 2. HASH, RANDOM, RNG_RAW, CRYPTO_STATUS (R526, R527, R531, R538, R542): a hash of up to 4 at once is begun and its digest delivered; random bytes are the general DRBG's, raw bits are free, and both
go to the destination alone. -/
def Obligations.HashAndRandom : Prop :=
  (∀ (s : State) (q : Fin 2) (r : Running), s.running (4 + q.val) 3 = some r → r.started = false → r.num 4 4 ≤ 1048576 → 32 ≤ r.destLen →
    s.cryptoRange r.entry.master (r.num 0 4) (r.num 4 4) = true → s.cryptoRange r.entry.master r.dest 32 = true → s.flag Reg.HSH_STAT_KAT_FAIL = false → s.hshServes = true → s.bulkLate r = false →
    s.inTurn hshHolds r = true →
    Runs (.hash q) s (fun t => (∃ h, t.crypto.hsh = s.crypto.hsh ++ [h] ∧ h.ring = r.ring ∧ h.cmd = r.entry.seq ∧ h.dest = r.dest ∧ h.digest = sha256 (s.bytes (r.num 0 4) (r.num 4 4))) ∧
      Only [.crypto, .que] s t)) ∧
  (∀ (s : State) (q : Fin 2) (h : HshOp) (r : Running), s.crypto.hsh.find? (fun x => x.ring == 4 + q.val) = some h → s.runningSeq h.ring h.cmd = some r →
    Runs (.hshOpComplete q) s (fun t => t.crypto.hsh = s.crypto.hsh.erase h ∧ BytesPut h.dest h.digest s t ∧ Completed r blkHSH stOK 0 [] t ∧ Only [.mem, .crypto, .que, .evt, .regs] s t)) ∧
  (∀ (s : State) (q : Fin 2) (r : Running), s.running (4 + q.val) 7 = some r → 1 ≤ r.num 0 2 → r.num 0 2 ≤ 256 → r.num 0 2 ≤ r.destLen →
    s.cryptoRange r.entry.master r.dest (r.num 0 2) = true → s.rngServes = true → s.bulkLate r = false →
    Runs (.random q) s (fun t => BytesPut r.dest (s.random (r.num 0 2)).1 s t ∧ t.crypto.rng = (s.random (r.num 0 2)).2.crypto.rng ∧ t.crypto.rng.requests = s.crypto.rng.requests + 1 ∧
      Completed r blkRNG stOK 0 [] t ∧ Only [.mem, .crypto, .fresh, .que, .evt, .regs] s t)) ∧
  (∀ (s : State) (q : Fin 2) (r : Running), s.running (4 + q.val) 8 = some r →
    Runs (.cryptoStatus q) s (fun t => Completed r blkAEA stOK 0 (s.regBytes Reg.AEA_STAT_BUSY 0 ++ s.regBytes Reg.AEA_STAT_BUSY 1 ++ s.regBytes Reg.PKE_STAT_BUSY 0 ++
      s.regBytes Reg.HSH_STAT_BUSY 0 ++ s.regBytes Reg.RNG_STAT_STATE 0) t ∧ Only [.que, .evt, .regs] s t)) ∧
  (∀ (s : State) (r : Running), s.running 13 0x30 = some r → r.started = false → s.crypto.rng.raw = none → 3 ≤ r.level → 1024 ≤ r.num 0 2 → r.num 0 2 ≤ 4096 → (r.num 0 2 + 7) / 8 ≤ r.destLen →
    s.cryptoRange r.entry.master r.dest ((r.num 0 2 + 7) / 8) = true → s.flag Reg.RNG_STAT_KAT_FAIL = false →
    Runs .rngRaw s (fun t => t.crypto.rng.raw = some (r.entry.seq, r.num 0 2, r.dest) ∧ Only [.crypto, .que] s t)) ∧
  (∀ (s : State) (c n d : Nat) (r : Running), s.crypto.rng.raw = some (c, n, d) → s.runningSeq 13 c = some r →
    Runs .rngRawDone s (fun t => t.crypto.rng.raw = none ∧ BytesPut d (s.draw ((n + 7) / 8)).1 s t ∧ Completed r blkRNG stOK 0 (leBytes 4 ((n + 7) / 8)) t ∧
      Only [.mem, .crypto, .fresh, .que, .evt, .regs] s t))

/-- Nothing waits for RNG, PKE or the engines: no session, no format, no keying of the link, no HELLO, no seal, no telegram. -/
def NothingWaits (s : State) : Prop :=
  s.glt.heldOpens = [] ∧ s.jnl.formatWaits = false ∧ s.tsu.keyWaits = false ∧ s.flag Reg.JNL_SEAL_CTL_GO = false ∧ s.tsu.helloRx = none ∧ s.glt.queue = []

/-- The Locket takes a raised boot counter (R535). -/
def BootCounts (s : State) : Prop := s.pins.wpLow = false ∧ s.lkt.worn = false ∧ s.ringWorn [.ring 2 (s.ringValue 2 + 1)] = false ∧ (s.ringOf 2).isSome = true

/-- A collection that fails is counted by test, raised as E_155, and nothing but RNG, the counts, the events and the journal changes (R529). -/
def Failing (raw : BitVec 1024) (s t : State) : Prop :=
  Raised 155 t ∧ t.reg Reg.RNG_STAT_RCT_FAIL = (if rctFails raw then satInc Reg.RNG_STAT_RCT_FAIL.width (s.reg Reg.RNG_STAT_RCT_FAIL) else s.reg Reg.RNG_STAT_RCT_FAIL) ∧
  t.reg Reg.RNG_STAT_APT_FAIL = (if aptFails raw then satInc Reg.RNG_STAT_APT_FAIL.width (s.reg Reg.RNG_STAT_APT_FAIL) else s.reg Reg.RNG_STAT_APT_FAIL) ∧
  FieldsKept [Reg.RNG_STAT_APT_FAIL, Reg.RNG_STAT_RCT_FAIL, Reg.RNG_STAT_RESTARTS, Reg.JNL_LOST_COUNT] s t ∧ Only [.crypto, .regs, .evt, .jnl] s t

/-- Tier 2. The random number generator (R529 to R532, R534 to R537, R539, Table 11-6), over the raw bits of its collections. Startup bits that pass raise the boot counter by 1, instantiate the
DRBGs and lead to OK; bits that fail lead to FAILED with E_158 while a seed record reads, else to UNSEEDED with E_156; a failing collection leads from OK to RESTART, and the third in a row to
FAILED; a restart with passing bits reseeds and leads to OK; a reseed begins the count of requests anew, and the request for the new seed record is its first; the mask DRBG is reseeded after
2^20 CORE cycles; self-tests note their outcome; a key generation waits at most 1,000 ms and ends with cause 15. -/
def Obligations.RandomGenerator : Prop :=
  (∀ (s : State) (raw : BitVec 1024), s.crypto.rng.state = .startup → healthy raw = true → BootCounts s → NothingWaits s → s.key.genWaits = none →
    Runs (.rngStartupDone raw) s (fun t => t.crypto.rng.state = .ok ∧ t.crypto.rng.seedOnly = false ∧ t.crypto.rng.lastReseed = s.now ∧ t.ringValue 2 = s.ringValue 2 + 1 ∧
      t.reg Reg.RNG_RESEEDS_COUNT = s.reg Reg.RNG_RESEEDS_COUNT)) ∧
  (∀ (s : State) (raw : BitVec 1024), s.crypto.rng.state = .startup → healthy raw = false → (s.pins.wpLow = true ∨ s.seedReads = false) →
    Runs (.rngStartupDone raw) s (fun t => t.crypto.rng.state = .unseeded ∧ t.crypto.rng.failedAt = s.now ∧ Raised 156 t ∧ Failing raw s t)) ∧
  (∀ (s : State) (raw : BitVec 1024), s.crypto.rng.state = .startup → healthy raw = false → s.seedReads = true → BootCounts s → NothingWaits s →
    Runs (.rngStartupDone raw) s (fun t => t.crypto.rng.state = .failed ∧ t.crypto.rng.seedOnly = true ∧ Raised 155 t ∧ Raised 156 t ∧ Raised 158 t ∧
      t.ringValue 2 = s.ringValue 2 + 1)) ∧
  (∀ (s : State) (raw : BitVec 1024), s.crypto.rng.state = .ok → healthy raw = false →
    Runs (.healthTestFail raw) s (fun t => t.crypto.rng = { s.crypto.rng with state := .restart, consecutive := 1 } ∧ Failing raw s t)) ∧
  (∀ (s : State) (raw : BitVec 1024), healthy raw = true → Runs (.healthTestFail raw) s (fun t => t = s)) ∧
  (∀ (s : State) (raw : BitVec 1024), s.crypto.rng.state = .restart →
    (healthy raw = true → s.key.genWaits = none → Runs (.restartCollectionDone raw) s (fun t => t.crypto.rng.state = .ok ∧ t.crypto.rng.consecutive = 0 ∧ t.crypto.rng.lastReseed = s.now ∧
      t.reg Reg.RNG_STAT_RESTARTS = satInc Reg.RNG_STAT_RESTARTS.width (s.reg Reg.RNG_STAT_RESTARTS) ∧
      t.reg Reg.RNG_RESEEDS_COUNT = low Reg.RNG_RESEEDS_COUNT.width (s.reg Reg.RNG_RESEEDS_COUNT + 1))) ∧
    (healthy raw = false → s.crypto.rng.consecutive < 2 → Runs (.restartCollectionDone raw) s (fun t =>
      t.crypto.rng = { s.crypto.rng with consecutive := s.crypto.rng.consecutive + 1 } ∧ Failing raw s t)) ∧
    (healthy raw = false → 2 ≤ s.crypto.rng.consecutive → Runs (.restartCollectionDone raw) s (fun t => t.crypto.rng.state = .failed ∧ Raised 156 t ∧ Failing raw s t))) ∧
  (∀ (s : State) (raw : BitVec 1024), s.crypto.rng.failedAt + 990000 ≤ s.now →
    (s.crypto.rng.state = .failed → healthy raw = true → NothingWaits s → s.key.genWaits = none → Runs (.rngRestart raw) s (fun t => t.crypto.rng.state = .ok ∧ Raised 157 t ∧
      t.reg Reg.RNG_STAT_RESTARTS = satInc Reg.RNG_STAT_RESTARTS.width (s.reg Reg.RNG_STAT_RESTARTS) ∧
      t.reg Reg.RNG_RESEEDS_COUNT = low Reg.RNG_RESEEDS_COUNT.width (s.reg Reg.RNG_RESEEDS_COUNT + 1))) ∧
    (s.crypto.rng.state = .unseeded → healthy raw = true → BootCounts s → NothingWaits s → s.key.genWaits = none → Runs (.rngRestart raw) s (fun t => t.crypto.rng.state = .ok ∧ Raised 157 t ∧
      t.ringValue 2 = s.ringValue 2 + 1 ∧ t.reg Reg.RNG_RESEEDS_COUNT = s.reg Reg.RNG_RESEEDS_COUNT)) ∧
    ((s.crypto.rng.state = .failed ∨ s.crypto.rng.state = .unseeded) → healthy raw = false → Runs (.rngRestart raw) s (fun t =>
      t.crypto.rng = { s.crypto.rng with failedAt := s.now } ∧ Failing raw s t))) ∧
  (∀ s : State, s.crypto.rng.state = .ok → 65536 ≤ s.crypto.rng.requests →
    Runs .reseed s (fun t => t.crypto.rng.requests = (if s.pins.wpLow then 0 else 1) ∧ t.crypto.rng.lastReseed = s.now ∧ t.crypto.rng.seedOnly = false ∧
      t.reg Reg.RNG_RESEEDS_COUNT = low Reg.RNG_RESEEDS_COUNT.width (s.reg Reg.RNG_RESEEDS_COUNT + 1))) ∧
  (∀ s : State, s.rngServes = true → 2 ^ 20 ≤ (s.now - s.crypto.rng.maskAt) * s.coreMHz →
    Runs .maskReseed s (fun t => t.crypto.rng.maskReseeds = s.crypto.rng.maskReseeds + 1 ∧ t.crypto.rng.maskAt = s.now ∧ t.crypto.rng.mask = s.crypto.rng.mask.map (fun m => m.reseed (s.random 48).1) ∧
      t.crypto.rng.requests = s.crypto.rng.requests + 1 ∧ Only [.crypto, .fresh] s t)) ∧
  (∀ (s : State) (h : Bool), blkHSH ∉ s.crypto.kat → blkHSH ∉ s.fences.inReset → NothingWaits s →
    Runs (.selfTestDone true true h true) s (fun t => blkHSH ∈ t.crypto.kat ∧ (h = false → t.reg Reg.HSH_STAT_KAT_FAIL = 1 ∧ Raised 153 t) ∧
      (h = true → t.reg Reg.HSH_STAT_KAT_FAIL = s.reg Reg.HSH_STAT_KAT_FAIL) ∧ Only [.crypto, .que, .regs, .evt, .jnl] s t)) ∧
  (∀ (s : State) (x : Nat), s.key.genWaits = some x → x + 1000000 ≤ s.now →
    Runs .keygenTimeout s (fun t => t.key = { s.key with genWaits := none, genEnd := some (stPOLICY, 15) } ∧ Only [.key] s t))

/-! ## Locket (chapter 12) -/

/-- The parts that an accepted Locket write may change: the store, its shadow, the events and, in a pair, the mirror item that it sends (R568, R781). -/
def lktParts : List Part := [.lkt, .mem, .tsu, .que, .evt, .regs]

/-- Tier 2. Writes of the Locket (R560, R568, R571 to R573, R597, R69): a master's window write that passes its checks puts exactly its bytes into the shadow and waits for acceptance, one
that the regions forbid is a policy error, one under WP_N is too and is counted; LOCKET_ACCEPT takes a write that hold-up covers off the list and its writer proceeds, DAMAGED clearing where it wrote (R588, R594), and one without room is
refused when WP_N goes low. RING_UPDATE takes a greater value alone. -/
def Obligations.LocketWrites : Prop :=
  (∀ (s : State) (m a width v : Nat), (m = 1 ∨ m = 2 ∨ m = 3) → naturally a width = true → lktBase ≤ a → a < lktBase + 0x8000 → v < 2 ^ width →
    (∀ i, i < width / 8 → s.mayWriteLkt m (a - lktBase + i) = true) → s.isStandby = false → s.fieldBusy = false →
    (s.pins.wpLow = false → s.lkt.worn = false → s.lktRoom (s.runItems (a - lktBase) (leBytes (width / 8) v)) = true →
      s.partnerRoom (s.runItems (a - lktBase) (leBytes (width / 8) v)) = true →
      Runs (.locketWindowWrite m a width v) s (fun t => t.bytes a (width / 8) = leBytes (width / 8) v ∧ (∀ b, b < a ∨ a + width / 8 ≤ b → t.byte b = s.byte b) ∧ Submitted (.bus m) t ∧
        Only lktParts s t)) ∧
    (s.pins.wpLow = true → Runs (.locketWindowWrite m a width v) s (fun t => FaultRecorded 1 m a true ((s.raise 167).bump Reg.LKT_ERR_REFUSED_WP) t ∧
      t.reg Reg.LKT_ERR_REFUSED_WP = satInc Reg.LKT_ERR_REFUSED_WP.width (s.reg Reg.LKT_ERR_REFUSED_WP) ∧ Raised 167 t ∧ t.mem = s.mem ∧ t.lkt = s.lkt))) ∧
  (∀ (s : State) (m a width v i : Nat), (m = 1 ∨ m = 2 ∨ m = 3) → a < 2 ^ 32 → i < width / 8 → s.mayWriteLkt m (a - lktBase + i) = false →
    Runs (.locketWindowWrite m a width v) s (FaultRecorded 1 m a true s)) ∧
  (∀ (s : State) (x : LktWrite) (q : Nat) (r : Running), s.lkt.writes = [x] → x.writer = .q6 q → x.state = .waiting → x.placed = true → s.pins.holdupReady = true →
    s.mirrorDone x.mseq = true → s.pairDegraded = false → x.lone = false → s.runningSeq 6 q = some r →
    Runs .locketAccept s (fun t => t.lkt = { (s.healed x.items).lkt with writes := [] } ∧ Completed r blkLKT stOK 0 [] t ∧ Only [.lkt, .que, .evt, .regs] s t)) ∧
  (∀ (s : State) (x : LktWrite) (m : Nat), s.lkt.writes = [x] → x.writer = .bus m → m ≤ 7 → (m = 3 → s.hif.waits = []) → x.firstGroup < 0x1000 → x.state = .waiting →
    x.placed = false → s.pins.wpLow = true →
    Runs .locketAccept s (fun t => FaultRecorded 1 m (lktBase + 8 * x.firstGroup) true { (s.raise 167).bump Reg.LKT_ERR_REFUSED_WP with lkt := { s.lkt with writes := [] } } t ∧
      t.lkt.writes = [] ∧ t.mem = s.mem)) ∧
  (∀ s : State, s.lkt.writes = [] → Runs .locketAccept s (fun t => t = s)) ∧
  (∀ (s : State) (x : Ring), s.ringOf (s.reg Reg.LKT_RING_CTL_RING) = some x → 8 ≤ x.num → x.worn = false → x.damaged = false → s.ringHurt x.num = false →
    (x.newest < s.lkt.ringSetLo + 2 ^ 32 * s.lkt.ringSetHi → s.pins.wpLow = false → s.lkt.worn = false →
      s.lktRoom [.ring x.num (s.lkt.ringSetLo + 2 ^ 32 * s.lkt.ringSetHi)] = true → s.partnerRoom [.ring x.num (s.lkt.ringSetLo + 2 ^ 32 * s.lkt.ringSetHi)] = true →
      Runs (.ringUpdate 1) s (fun t => t.ringValue x.num = s.lkt.ringSetLo + 2 ^ 32 * s.lkt.ringSetHi ∧ (∀ n, n ≠ x.num → t.ringValue n = s.ringValue n) ∧ t.reg Reg.LKT_RING_CTL_GO = 1 ∧
        Submitted .ringCtl t ∧ t.mem = s.mem ∧ Only lktParts s t)) ∧
    (s.lkt.ringSetLo + 2 ^ 32 * s.lkt.ringSetHi ≤ x.newest →
      Runs (.ringUpdate 1) s (fun t => t.reg Reg.LKT_RING_CTL_STATUS = stPOLICY ∧ FieldsKept [Reg.LKT_RING_CTL_STATUS] s t ∧ Only [.regs] s t)))

/-- Tier 2. Commits, reclaim, repair (R574, R581 to R584, R589, R93): a group's record is programmed to stream A and then to stream B; only then has it left the backlog, and the sequence number
goes up; a record that fails verification is programmed again. With the supply gone and hold-up over nothing is committed. Reclaim runs below 512 free slots, never under WP_N and never on hold-up, and keeps
every other stream; with fewer than two usable sectors the store is worn. Repair leaves the newest record of a group in both streams. -/
def Obligations.LocketCommits : Prop :=
  (∀ (s : State) (g : Nat) (l : List Backlog), s.lkt.backlog = .group g :: l → fieldGroup g = false → s.pins.vsup = true →
    (s.lkt.done = 0 → Runs (.commitRecord true) s (fun t =>
      t.lkt.mainA = s.lkt.mainA.append { index := g, kind := 0, last := false, seq := s.lkt.nextSeq, data := s.group g, ecc := eccCheck (s.group g), valid := true } ∧ t.lkt.done = 1 ∧
      t.lkt.backlog = s.lkt.backlog ∧ t.lkt.mainB = s.lkt.mainB ∧ t.lkt.nextSeq = s.lkt.nextSeq ∧ Only [.lkt] s t)) ∧
    (∀ d, s.lkt.done = 1 → s.lkt.current = [(g, d)] → Runs (.commitRecord true) s (fun t =>
      t.lkt.mainB = s.lkt.mainB.append { index := g, kind := 0, last := false, seq := s.lkt.nextSeq, data := d, ecc := eccCheck d, valid := true } ∧ t.lkt.done = 0 ∧
      t.lkt.backlog = l ∧ t.lkt.mainA = s.lkt.mainA ∧ t.lkt.nextSeq = s.lkt.nextSeq + 1 ∧ Only [.lkt] s t)) ∧
    Runs (.commitRecord false) s (fun t => t.lkt.backlog = s.lkt.backlog ∧ t.lkt.done = s.lkt.done ∧ t.lkt.nextSeq = s.lkt.nextSeq ∧ Only [.lkt] s t)) ∧
  (∀ (s : State) (ok : Bool), s.pins.vsup = false → s.pwr.holdupOut = true → (s.hft.mode ≠ 2 ∨ s.aonLive = true) → Runs (.commitRecord ok) s (fun t => t = s)) ∧
  (∀ (s : State) (q : Nat) (r : Running) (p : Nat × Nat), s.lkt.backlog = [.index q] → s.lkt.done = 1 → s.lkt.current = [p] → s.lkt.flushed = [] → s.lkt.flushLone = false →
    s.pairDegraded = false → s.tsu.items = [] → s.pins.vsup = true → s.runningSeq 6 q = some r →
    Runs (.commitRecord true) s (fun t => Completed r blkLKT stOK 0 [] t ∧ t.lkt.backlog = [] ∧ Only [.lkt, .que, .evt, .regs] s t)) ∧
  (∀ (s : State) (k : Fin 4) (ok : Bool),
    ((s.lkt.stream k).free < 512 → s.pins.wpLow = false → s.pins.vsup = true →
      Runs (.reclaim k ok) s (fun t => t.lkt.stream k = (s.lkt.stream k).reclaim ok ∧ (∀ j, j < 4 → j ≠ k.val → t.lkt.stream j = s.lkt.stream j) ∧ t.lkt.backlog = s.lkt.backlog ∧
        (((s.lkt.stream k).reclaim ok).usable < 2 → t.lkt.worn = true ∧ (s.lkt.worn = false → Raised 165 t)) ∧
        (2 ≤ ((s.lkt.stream k).reclaim ok).usable → t.lkt.worn = s.lkt.worn) ∧ Only [.lkt, .evt] s t)) ∧
    ((512 ≤ (s.lkt.stream k).free ∨ s.pins.wpLow = true ∨ s.pins.vsup = false) → Runs (.reclaim k ok) s (fun t => t = s))) ∧
  (∀ (s : State) (g : Nat), s.lkt.repairs = [g] → fieldGroup g = false →
    (s.pins.wpLow = false → s.pins.vsup = true → Runs .mountRepair s (fun t => t.lkt.repairs = [] ∧
      (t.lkt.repairCount = if hasCopy s.lkt.mainA.recs g (max (bestSeq s.lkt.mainA.recs g) (bestSeq s.lkt.mainB.recs g)) (s.group g) &&
        hasCopy s.lkt.mainB.recs g (max (bestSeq s.lkt.mainA.recs g) (bestSeq s.lkt.mainB.recs g)) (s.group g) then s.lkt.repairCount else satInc 12 s.lkt.repairCount) ∧
      bestSeq t.lkt.mainA.recs g = max (bestSeq s.lkt.mainA.recs g) (bestSeq s.lkt.mainB.recs g) ∧
      bestSeq t.lkt.mainB.recs g = max (bestSeq s.lkt.mainA.recs g) (bestSeq s.lkt.mainB.recs g) ∧ Only [.lkt] s t)) ∧
    ((s.pins.wpLow = true ∨ s.pins.vsup = false) → Runs .mountRepair s (fun t => t = s)))

/-- A password opens region k to a master: not while its unlocks are refused, and never a region whose stored hash is zero (R563, R564, R566). -/
def Opens (s : State) (m k : Nat) (w : Bool) (pw : List Byte) : Prop :=
  s.unlockRefused m = false ∧ ¬ (s.storedHash k w).all (· == 0) = true ∧ pwHash s.devnum k w pw = s.storedHash k w

/-- Master m has the grant of region k from now on, and every other grant stands as before. -/
def Granted (m k : Nat) (w : Bool) (s t : State) : Prop :=
  t.hasGrant m k w = true ∧ (∀ m' k' w', (m', k', w') ≠ (m, k, w) → t.hasGrant m' k' w' = s.hasGrant m' k' w') ∧
  ∀ g ∈ t.lkt.grants, g.master = m → g.region = k → g.write = w → g.since = s.now

/-- A failed unlock: no grant changes, it is counted and raises E_163 (R566). -/
def UnlockFailed (s t : State) : Prop :=
  t.lkt.grants = s.lkt.grants ∧ Raised 163 t ∧ t.reg Reg.LKT_ERR_UNLOCK_FAIL = satInc Reg.LKT_ERR_UNLOCK_FAIL.width (s.reg Reg.LKT_ERR_UNLOCK_FAIL) ∧ t.mem = s.mem

/-- Tier 2. Unlocks and the Q_6 commands (R563 to R566, R569, R588, R594, R604, R605, R868, Tables 12-10, 12-11): the password gives its master the grant of its region, a wrong one or a refused
one does not and is counted; relocking, and 30 minutes, end grants; LKT_READ copies readable bytes to its destination and refuses damaged ones; LKT_WRITE stores its bytes in one page;
LKT_FLUSH puts its INDEX record behind every entry; LKT_STATUS and LKT_RING_READ answer; LKT_ERR_CLR clears its counters. -/
def Obligations.LocketCommands : Prop :=
  (∀ (s : State) (m k : Nat) (w : Bool), s.mayWriteField m Reg.LKT_UNLOCK_GO = true → k = s.regB Reg.LKT_UNLOCK_REGION 0 m → w = (s.regB Reg.LKT_UNLOCK_KIND 0 m == 1) →
    (Opens s m k w (storeGet [] s.lkt.pw m) → Runs (.lktUnlockGo m) s (fun t => Granted m k w s t ∧ FieldsKept [Reg.HSH_BLOCKS_BLOCKS] s t ∧ Only [.lkt, .regs] s t)) ∧
    (¬ Opens s m k w (storeGet [] s.lkt.pw m) → Runs (.lktUnlockGo m) s (fun t => UnlockFailed s t ∧ Only [.lkt, .evt, .regs, .jnl] s t)) ∧
    Runs (.lktUnlockRelock m) s (fun t => t.hasGrant m k w = false ∧ (∀ m' k' w', (m', k', w') ≠ (m, k, w) → t.hasGrant m' k' w' = s.hasGrant m' k' w') ∧ Only [.lkt] s t)) ∧
  (∀ (s : State) (r : Running), s.running 6 3 = some r → r.num 0 1 < 8 →
    (Opens s r.entry.master (r.num 0 1) (r.num 1 1 == 1) (r.sub 2 16) →
      Runs .lktUnlock s (fun t => Granted r.entry.master (r.num 0 1) (r.num 1 1 == 1) s t ∧ Completed r blkLKT stOK 0 [1] t ∧ Only [.lkt, .que, .evt, .regs] s t)) ∧
    (¬ Opens s r.entry.master (r.num 0 1) (r.num 1 1 == 1) (r.sub 2 16) →
      Runs .lktUnlock s (fun t => UnlockFailed s t ∧ (if s.unlockRefused r.entry.master = true then Completed r blkLKT stLOCKOUT 3 [] t else Completed r blkLKT stAUTH 4 [] t) ∧
        Only [.lkt, .que, .evt, .regs, .jnl] s t))) ∧
  (∀ (s : State) (r : Running), s.running 6 4 = some r →
    Runs .lktRelock s (fun t => t.hasGrant r.entry.master (r.num 0 1) (r.num 1 1 == 1) = false ∧
      (∀ m k w, (m, k, w) ≠ (r.entry.master, r.num 0 1, (r.num 1 1 == 1)) → t.hasGrant m k w = s.hasGrant m k w) ∧ Completed r blkLKT stOK 0 [] t ∧ Only [.lkt, .que, .evt, .regs] s t)) ∧
  (∀ s : State, Runs .locketGrantExpiry s (fun t => (∀ g, g ∈ t.lkt.grants ↔ g ∈ s.lkt.grants ∧ s.now < g.since + 1800000000) ∧ Only [.lkt] s t)) ∧
  (∀ (s : State) (r : Running), s.running 6 1 = some r → r.num 0 4 < 0x8000 → 0 < r.num 4 4 → r.num 4 4 ≤ 256 → s.rangeOk r.entry.master r.dest (r.num 4 4) = true →
    (∀ i, i < r.num 4 4 → s.mayReadLkt r.entry.master ((r.num 0 4 + i) % 0x8000) = true) → s.fieldBusy = false →
    ((∀ i, i < r.num 4 4 → s.damagedRange ((r.num 0 4 + i) % 0x8000) 1 = false) →
      Runs .lktRead s (fun t => (∀ i, i < r.num 4 4 → t.byte (r.dest + i) = s.byte (lktBase + (r.num 0 4 + i) % 0x8000)) ∧
        (∀ b, b < r.dest ∨ r.dest + r.num 4 4 ≤ b → t.byte b = s.byte b) ∧ Completed r blkLKT stOK 0 (leBytes 4 (r.num 4 4)) t ∧ Only [.mem, .que, .evt, .regs] s t)) ∧
    (∀ i, i < r.num 4 4 → s.damagedRange ((r.num 0 4 + i) % 0x8000) 1 = true →
      Runs .lktRead s (fun t => Completed r blkLKT stNV 6 [] t ∧ Only [.que, .evt, .regs] s t))) ∧
  (∀ (s : State) (r : Running), s.running 6 2 = some r → r.started = false → r.num 0 4 < 0x8000 → 0 < r.num 8 4 → r.num 8 4 ≤ 64 →
    s.rangeOk r.entry.master (r.num 4 4) (r.num 8 4) = true →
    (∀ i, i < r.num 8 4 → s.mayWriteLkt r.entry.master (r.num 0 4 / 64 * 64 + (r.num 0 4 + i) % 64) = true) → s.fieldBusy = false → s.pins.wpLow = false → s.lkt.worn = false →
    s.lktRoom (s.byteItems (pageWrite (r.num 0 4) (s.bytes (r.num 4 4) (r.num 8 4)))) = true →
    s.partnerRoom (s.byteItems (pageWrite (r.num 0 4) (s.bytes (r.num 4 4) (r.num 8 4)))) = true →
    Runs .lktWrite s (fun t => (∀ i, i < r.num 8 4 → t.byte (lktBase + r.num 0 4 / 64 * 64 + (r.num 0 4 + i) % 64) = s.byte (r.num 4 4 + i)) ∧
      (∀ b, (∀ i, i < r.num 8 4 → b ≠ lktBase + r.num 0 4 / 64 * 64 + (r.num 0 4 + i) % 64) → t.byte b = s.byte b) ∧ Submitted (.q6 r.entry.seq) t ∧ Only lktParts s t)) ∧
  (∀ (s : State) (r : Running), s.running 6 5 = some r → r.started = false → Backlog.index r.entry.seq ∉ s.lkt.backlog →
    Runs .lktFlush s (fun t => t.lkt = { s.lkt with backlog := s.lkt.backlog ++ [.index r.entry.seq] } ∧ Only [.lkt, .que] s t)) ∧
  (∀ (s : State) (r : Running), s.running 6 6 = some r →
    Runs .lktStatus s (fun t => Completed r blkLKT stOK 0 (s.regBytes Reg.LKT_STAT_MOUNTED 0 ++ s.regBytes Reg.LKT_MOUNT_REPAIRS 0 ++ s.regBytes Reg.LKT_WEAR_MAX_ERASE 0) t ∧
      Only [.que, .evt, .regs] s t)) ∧
  (∀ (s : State) (r : Running) (x : Ring), s.running 6 7 = some r → s.ringOf (r.num 0 1) = some x →
    ((x.damaged = false ∧ s.ringHurt x.num = false) →
      Runs .lktRingRead s (fun t => Completed r blkLKT stOK 0 (leBytes 8 x.newest ++ leBytes 2 (128 * x.pages) ++ leBytes 4 x.passes) t ∧ Only [.que, .evt, .regs] s t)) ∧
    (x.damaged = true → Runs .lktRingRead s (fun t => Completed r blkLKT stNV 6 [] t ∧ Only [.que, .evt, .regs] s t))) ∧
  (∀ (s : State) (m : Nat), s.mayWriteField m Reg.LKT_ERR_CLR_CLR = true →
    Runs (.lktErrClr m) s (fun t => t.reg Reg.LKT_ERR_CORRECTED = 0 ∧ t.reg Reg.LKT_ERR_UNLOCK_FAIL = 0 ∧ t.reg Reg.LKT_ERR_STALLS = 0 ∧ t.reg Reg.LKT_ERR_REFUSED_WP = 0 ∧
      FieldsKept [Reg.LKT_ERR_CORRECTED, Reg.LKT_ERR_UNLOCK_FAIL, Reg.LKT_ERR_STALLS, Reg.LKT_ERR_REFUSED_WP] s t ∧ Only [.regs] s t))

/-! ## Journal (chapter 13) -/

/-- JNL assigns records now: it is mounted with its own NAND, HSH has run its test (R539), it has a slot left, and no SEAL_HEAD, LOST record or seal is due before the next record of a ring (R617, R627, R636, R641). -/
def Assigns (s : State) : Prop :=
  s.isStandby = false ∧ s.jnl.mounted = true ∧ s.jnl.foreign_ = false ∧ s.jnl.noNand = false ∧ s.crypto.kat.contains blkHSH = true ∧ s.jnl.used < s.jnlC ∧ s.jnl.next % 1024 ≠ 1023

/-- One record of a type and payload has been assigned the next SEQ and is chained to the one before it (R613, R615, R617). -/
def Assigned (typ : Nat) (payload : List Byte) (s t : State) : Prop :=
  t.jnl.next = s.jnl.next + 1 ∧ ∃ r ∈ t.jnl.recs, r.seq = s.jnl.next ∧ r.typ = typ ∧ r.payload = fit 64 payload ∧ r.slot = s.jnl.slotNext ∧
    r.chain = sha256 (s.jnl.chain ++ r.head) ∧ t.jnl.chain = r.chain ∧ (typ ≠ 7 → s.jnl.lastTime ≤ r.time ∧ s.timeForm ≤ r.time)

/-- The program of the oldest open record's page has begun (R622): it takes what stands in that page, and what stands in a later one stays open. -/
def PageProgrammed (x : JRec) (s t : State) : Prop :=
  t.jnl.prog = s.jnl.open_.filter (fun r => r.slot / 32 == x.slot / 32) ∧ t.jnl.open_ = s.jnl.open_.filter (fun r => !(r.slot / 32 == x.slot / 32))

/-- JNL has no journal of its own to write (R639, R641): what waited for it ends with NV_FAIL or is lost, E_175, and nothing that the NAND holds changes. -/
def JournalUnused (s t : State) : Prop :=
  t.jnl.mounted = true ∧ t.jnl.q46 = [] ∧ t.jnl.q7 = [] ∧ t.jnl.sealReq = [] ∧ t.jnl.nand = s.jnl.nand ∧ t.jnl.next = s.jnl.next ∧ Raised 175 t ∧
  (∀ n c r, s.jnl.q7 = [n] → n.cmd = some c → s.jnl.sealReq = [] → s.jnl.recWaits = [] → s.runningSeq 7 c = some r → Completed r blkJNL stNV 5 [] t) ∧
  Only [.jnl, .que, .evt, .regs] s t

/-- No record of a command waits for its program, and no batch is being read. -/
def NoneOpen (s : State) : Prop := s.jnl.prog = [] ∧ s.jnl.open_ = [] ∧ s.jnl.recWaits = [] ∧ s.jnl.flushes = [] ∧ s.jnl.reading = none

/-- The SEQ of the FORMAT record of R642: past every SEQ assigned or accepted, and past the high-water ring where one is named. -/
def formatSeq (s : State) : Nat := max (max s.jnl.next s.jnl.acceptedTop) (if s.reg Reg.JNL_HWM_RING = 0 then 0 else s.hwm + 1)

/-- Tier 2. Records (R615 to R619, R622, R623, R627, R629, R633 to R637, R639 to R642): JOURNAL_ASSIGN chains the oldest waiting record; before the last SEQ of each 1,024 comes a SEAL_HEAD, and
after losses a LOST record; a STANDBY assigns none. The flush time programs what is open; a program that passes accepts its records in order, one that fails retires a block and keeps them. A
block is erased only when all it holds is acknowledged. SEAL_GO hands PKE the oldest SEAL_HEAD. A blank NAND is formatted at mount, one that is absent or behind its ring is not used, and
JOURNAL_FORMAT needs its named write, without which it is a policy error. -/
def Obligations.JournalRecords : Prop :=
  (∀ (s : State) (n : NewRec) (l : List NewRec), Assigns s → s.reg Reg.JNL_LOST_COUNT = 0 → s.jnl.sealReq = [] → s.jnl.sigReady = [] → s.jnl.q46 = n :: l →
    (bulkType n.typ = false ∨ s.jnl.used < s.jnlN) →
    Runs .journalAssign s (fun t => Assigned n.typ n.payload s t ∧ t.jnl.q46 = l ∧ t.jnl.nand = s.jnl.nand ∧ Only [.jnl, .tsu, .que, .evt, .regs] s t)) ∧
  (∀ s : State, s.isStandby = false → s.jnl.mounted = true → s.jnl.foreign_ = false → s.jnl.noNand = false → s.crypto.kat.contains blkHSH = true → s.jnl.used < s.jnlC →
    s.jnl.next % 1024 = 1023 →
    Runs .journalAssign s (fun t => Assigned 3 (s.sealHead (ofBool (!s.jnl.sealReq.isEmpty))).payload s t ∧ t.jnl.prevHead = s.jnl.next ∧ t.jnl.sealReq = [] ∧ t.jnl.q46 = s.jnl.q46)) ∧
  (∀ s : State, Assigns s → 0 < s.reg Reg.JNL_LOST_COUNT →
    Runs .journalAssign s (fun t => Assigned 6 (leBytes 4 (s.reg Reg.JNL_LOST_COUNT) ++ leBytes 6 s.jnl.lostFirst ++ leBytes 6 s.jnl.lostLast) s t ∧ t.reg Reg.JNL_LOST_COUNT = 0 ∧
      t.jnl.q46 = s.jnl.q46)) ∧
  (∀ (s : State) (n : NewRec) (l : List NewRec), s.isStandby = true → s.tsu.partnerLost = false → s.jnl.q46 = n :: l →
    Runs .journalAssign s (fun t => t.jnl = { s.jnl with q46 := l } ∧ Only [.jnl, .tsu, .regs, .evt, .que] s t)) ∧
  (∀ (s : State) (x : JRec) (l : List JRec), s.jnl.open_ = x :: l → s.jnl.prog = [] → x.at_ + 1000 * s.reg Reg.JNL_CFG_FLUSH_MS ≤ s.now →
    Runs .journalFlushTimer s (fun t => PageProgrammed x s t ∧
      (t.jnl.open_ = [] → t.jnl.slotNext % 4 = 0 ∧ s.jnl.slotNext ≤ t.jnl.slotNext ∧ t.jnl.slotNext < s.jnl.slotNext + 4) ∧ (t.jnl.open_ ≠ [] → t.jnl.slotNext = s.jnl.slotNext) ∧
      t.jnl.nand = s.jnl.nand ∧ t.jnl.next = s.jnl.next ∧ Only [.jnl, .tsu, .que, .evt, .regs] s t)) ∧
  (∀ s : State, (s.jnl.open_ = [] ∨ s.now < s.jnl.openSince + 1000 * s.reg Reg.JNL_CFG_FLUSH_MS) → Runs .journalFlushTimer s (fun t => t = s)) ∧
  (∀ s : State, s.jnl.prog ≠ [] → s.mirrorDone s.jnl.progMseq = true → (∀ r ∈ s.jnl.open_, r.slot % 32 ≠ 31) → (∀ r ∈ s.jnl.open_, r.typ ≠ 3) → s.jnl.flushes = [] → s.pwr.querying = false →
    s.tsu.jnlMacks = [] →
    Runs (.programComplete true) s (fun t => t.jnl.nand = s.jnl.nand ++ s.jnl.prog ∧ t.jnl.prog = [] ∧ t.jnl.open_ = s.jnl.open_ ∧ t.jnl.next = s.jnl.next ∧
      t.jnl.heads = s.jnl.heads ++ (s.jnl.prog.filter (fun r => r.typ == 3)).map (fun r => ⟨r.seq, r.chain⟩) ∧ ((∃ r ∈ s.jnl.prog, r.typ = 3) → Raised 171 t) ∧
      Only [.jnl, .que, .evt, .regs, .tsu] s t)) ∧
  (∀ (s : State) (x : JRec) (c : Nat) (r : Running), s.jnl.prog = [x] → x.cmd = some c → s.runningSeq 7 c = some r → s.mirrorDone s.jnl.progMseq = true → s.jnl.open_ = [] →
    s.tsu.jnlMacks = [] → s.jnl.recWaits = [] → s.jnl.flushes = [] → s.jnl.progLone = false → s.pairDegraded = false →
    Runs (.programComplete true) s (fun t => Completed r blkJNL stOK 0 (leBytes 6 x.seq) t)) ∧
  (∀ s : State, s.jnl.prog ≠ [] →
    Runs (.programComplete false) s (fun t => t.jnl = { s.jnl with badBlocks := s.jnl.badBlocks + 1 } ∧ Raised 174 t ∧
      t.reg Reg.JNL_ERR_PROG_FAIL = satInc Reg.JNL_ERR_PROG_FAIL.width (s.reg Reg.JNL_ERR_PROG_FAIL) ∧ FieldsKept [Reg.JNL_ERR_PROG_FAIL] s t ∧ Only [.jnl, .evt, .regs] s t)) ∧
  (∀ (s : State) (x : JRec) (l : List JRec) (ok : Bool), s.jnl.nand = x :: l →
    ((∀ y ∈ s.jnl.nand, y.slot / 2048 = x.slot / 2048 → y.seq < s.jnl.ackNext) → (∃ y ∈ s.jnl.recs, y.slot / 2048 ≠ x.slot / 2048) →
      Runs (.nandEraseComplete ok) s (fun t => (∀ y, y ∈ t.jnl.nand ↔ y ∈ s.jnl.nand ∧ y.slot / 2048 ≠ x.slot / 2048) ∧
        t.jnl.badBlocks = s.jnl.badBlocks + (if ok then 0 else 1) ∧ (ok = false → Raised 174 t) ∧ t.jnl.next = s.jnl.next ∧ Only [.jnl, .evt, .regs] s t)) ∧
    ((∃ y ∈ s.jnl.nand, y.slot / 2048 = x.slot / 2048 ∧ s.jnl.ackNext ≤ y.seq) → Runs (.nandEraseComplete ok) s (fun t => t = s))) ∧
  (∀ (s : State) (h : SealHead) (l : List SealHead), s.jnl.heads = h :: l → s.jnl.signing = none → s.pkeFree = true → (s.useSlot 254 useSIGN [2] 4).1 = 0 →
    Runs (.sealGo 1) s (fun t => t.reg Reg.JNL_SEAL_CTL_GO = 1 ∧ t.jnl.signing = some h ∧
      (∃ op k, t.crypto.pke = some op ∧ op.ring = ringJnl ∧ op.kind = .sign ∧ op.slot = 254 ∧ op.out = ecdsaSign (ofBe (s.slotRaw 254).key) (sha256 (s.sealMessage h)) k) ∧
      (t.slotRaw 254).count = (s.slotRaw 254).count + 1 ∧ t.jnl.next = s.jnl.next ∧ t.jnl.nand = s.jnl.nand)) ∧
  (∀ s : State, s.jnl.heads = [] → Runs (.sealGo 1) s (fun t => t = s)) ∧
  (∀ (s : State) (m : Nat), m ≠ 1 → m ≤ 7 → Runs (.sealGo m) s (FaultRecorded 1 m (Reg.JNL_SEAL_CTL_GO.addrAt 0) true s)) ∧
  (∀ s : State, s.jnl.mounted = false →
    Runs (.journalMount false) s (fun t => t.jnl.noNand = true ∧ JournalUnused s t) ∧
    (s.crypto.kat.contains blkHSH = true → s.rngServes = true → s.reg Reg.JNL_HWM_RING = 0 → s.jnl.nand = [] → s.reg Reg.JNL_LOST_COUNT = 0 → s.jnl.sealReq = [] → NoneOpen s →
      Runs (.journalMount true) s (fun t => t.jnl.mounted = true ∧ t.jnl.next = 2 ∧ t.jnl.journalId = (s.random 8).1 ∧ Raised 175 t ∧
        ∃ r ∈ t.jnl.recs, r.seq = 0 ∧ r.typ = 2 ∧ r.chain = sha256 (genesis s.devnum (s.random 8).1 0 ++ r.head))) ∧
    (s.crypto.kat.contains blkHSH = false ∨ (s.jnl.nand = [] ∧ s.rngServes = false) → Runs (.journalMount true) s (fun t => t = s)) ∧
    (s.crypto.kat.contains blkHSH = true → s.reg Reg.JNL_HWM_RING ≠ 0 → s.jnl.nand ≠ [] → s.jnl.acceptedTop ≤ s.hwm → Runs (.journalMount true) s (fun t => t.jnl.foreign_ = true ∧ JournalUnused s t))) ∧
  (∀ (s : State) (ok : Bool), s.jnl.mounted = true → Runs (.journalMount ok) s (fun t => t = s)) ∧
  (∀ (s : State) (w : AuthWrite), s.namedWrite 1 Reg.JNL_ADMIN_KEY = some w →
    (w.value &&& w.mask = 0xF0 → s.jnl.noNand = false →
      (s.rngServes = true → s.crypto.kat.contains blkHSH = true → Runs (.journalFormat 1) s (fun t => t.jnl.nand = [] ∧ t.jnl.next = formatSeq s + 1 ∧ t.jnl.foreign_ = false ∧
        t.jnl.formatWaits = false ∧ ∃ r ∈ t.jnl.recs, r.typ = 2 ∧ r.seq = formatSeq s)) ∧
      (s.rngServes = false → Runs (.journalFormat 1) s (fun t => t.jnl = { s.jnl with formatWaits := true }))) ∧
    (w.value &&& w.mask ≠ 0xF0 → Runs (.journalFormat 1) s (fun t => FaultRecorded 1 1 (Reg.JNL_ADMIN_KEY.addrAt 0) true s t ∧ t.jnl = s.jnl))) ∧
  (∀ (s : State) (m : Nat), m ≤ 7 → m ≠ 1 ∨ s.auth = none → Runs (.journalFormat m) s (fun t => FaultRecorded 1 m (Reg.JNL_ADMIN_KEY.addrAt 0) true s t ∧ t.jnl = s.jnl))

/-- Tier 2. The journal's commands (R621 to R623, R627, R635, R641, R643 to R648, Tables 13-7 to 13-9): APPEND of a type its master may append waits for its record, another is refused; SEAL asks
for a SEAL_HEAD, or within a second of the last one gives that one's SEQ or waits with it; FLUSH begins the program; EXPORT and DRIVER_READ begin their reads, NAND_READ_COMPLETE hands AEA
the batch to seal, and its end writes the batch; EXPORT_ACK moves
ACK_NEXT past the batch and appends its record; JNL_STATUS answers in every state. -/
def Obligations.JournalCommands : Prop :=
  (∀ (s : State) (r : Running), s.running 7 1 = some r → r.started = false →
    (appendType r.entry.master r.level (r.num 0 2) = true → r.num 6 4 = 64 → s.rangeOk r.entry.master (r.num 2 4) 64 = true → s.jnl.foreign_ = false → s.jnl.noNand = false →
      Runs .append s (fun t => (∃ n, t.jnl.q7 = s.jnl.q7 ++ [n] ∧ n.typ = r.num 0 2 ∧ n.master = r.entry.master ∧ n.payload = s.bytes (r.num 2 4) 64 ∧ n.cmd = some r.entry.seq) ∧
        Only [.jnl, .que] s t)) ∧
    (appendType r.entry.master r.level (r.num 0 2) = false → Runs .append s (fun t => Completed r blkJNL stPOLICY 1 [] t ∧ Only [.que, .evt, .regs] s t))) ∧
  (∀ (s : State) (r : Running), s.running 7 2 = some r → r.started = false → s.jnl.foreign_ = false → s.jnl.noNand = false →
    ((∀ x, s.jnl.lastSealAt = some x → x + 1000000 ≤ s.now) →
      Runs .seal s (fun t => t.jnl = { s.jnl with sealReq := s.jnl.sealReq ++ [r.entry.seq], lastSealAt := some s.now } ∧ Only [.jnl, .que] s t)) ∧
    (∀ x, s.jnl.lastSealAt = some x → s.now < x + 1000000 →
      (s.jnl.sealReq = [] → Runs .seal s (fun t => Completed r blkJNL stOK 0 (leBytes 6 s.jnl.lastSealSeq) t ∧ Only [.que, .evt, .regs] s t)) ∧
      (s.jnl.sealReq ≠ [] → Runs .seal s (fun t => t.jnl = { s.jnl with sealReq := s.jnl.sealReq ++ [r.entry.seq] } ∧ Only [.jnl, .que] s t)))) ∧
  (∀ (s : State) (r : Running), s.running 7 3 = some r → r.started = false → s.jnl.foreign_ = false → s.jnl.noNand = false → s.jnl.prog = [] → s.jnl.flushes = [] →
    s.runningSeq 7 r.entry.seq = some r →
    (s.jnl.open_ = [] → s.jnl.progLone = false → s.pairDegraded = false → Runs .flush s (fun t => Completed r blkJNL stOK 0 [] t ∧ t.jnl = s.jnl ∧ Only [.que, .evt, .regs] s t)) ∧
    (∀ x l, s.jnl.open_ = x :: l → x.seq < s.jnl.next → Runs .flush s (fun t => PageProgrammed x s t ∧ t.jnl.flushes = [(r.entry.seq, s.jnl.next)] ∧
      Only [.jnl, .tsu, .que, .evt, .regs] s t))) ∧
  (∀ (s : State) (r : Running) (x : JRec) (l : List JRec), s.running 8 1 = some r → r.started = false → s.jnl.reading = none → s.jnl.nand = x :: l → 0 < r.num 6 1 → r.num 6 1 ≤ 128 →
    x.seq ≤ r.num 0 6 → r.num 0 6 < s.jnl.acceptedTop → s.rangeOk r.entry.master r.dest (80 + 128 * ((s.jnl.fromSeq (r.num 0 6)).take (r.num 6 1)).length) = true →
    80 + 128 * ((s.jnl.fromSeq (r.num 0 6)).take (r.num 6 1)).length ≤ r.destLen → s.jnl.foreign_ = false → s.jnl.noNand = false →
    Runs .exportBatch s (fun t => (∃ rd, t.jnl.reading = some rd ∧ rd.cmd = r.entry.seq ∧ rd.driver = false ∧ rd.first = r.num 0 6 ∧
      rd.recs = (s.jnl.fromSeq (r.num 0 6)).take (r.num 6 1)) ∧ Only [.jnl, .que] s t)) ∧
  (∀ (s : State) (r : Running), s.running 8 3 = some r → r.started = false → s.jnl.reading = none →
    (∀ d, r.driver = some d → s.rangeOk r.entry.master r.dest (80 + 128 * 128) = true → 80 + 128 * 128 ≤ r.destLen → s.jnl.foreign_ = false → s.jnl.noNand = false →
      Runs .driverRead s (fun t => (∃ rd, t.jnl.reading = some rd ∧ rd.cmd = r.entry.seq ∧ rd.driver = true ∧ rd.recs.length ≤ 128 ∧
        ∀ x ∈ rd.recs, x ∈ s.jnl.nand ∧ r.num 0 6 ≤ x.seq ∧ x.payload.take 16 = s.crdRef d ∧ x.typ ∈ [0x20, 0x21, 0x22, 0x30, 0x31, 0x32, 0x33]) ∧ Only [.jnl, .que] s t)) ∧
    (r.driver = none → Runs .driverRead s (fun t => Completed r blkJNL stPOLICY 1 [] t ∧ Only [.que, .evt, .regs] s t))) ∧
  (∀ (s : State) (errs : List (Nat × Nat × Byte)) (rd : Reading) (r : Running) (n e : Nat), s.jnl.reading = some rd → rd.sealing = false → s.runningSeq 8 rd.cmd = some r →
    s.enginesFailed = false → n = s.reg Reg.JNL_CFG_EXP_SLOT → s.slotCause n useSEAL [0, 1] 4 = 0 → (s.slot n).count < (s.slot n).ceiling → (s.slot n).deviceNonce = true →
    s.nonceRefused = false → s.key.invocNext < s.key.invocTop → s.crypto.aeaWait = [] → s.freeEngine .record = some e →
    Runs (.nandReadComplete errs) s (fun t =>
      let d := s.decodeRecs errs 0 rd.recs
      let nonce := leBytes 4 (s.reg Reg.KEY_NONCE_CFG_DEVICE) ++ leBytes 8 s.key.invocNext
      let head := s.batchHead (ofBool rd.driver + 2 * ofBool (d.2.1 != 0)) rd.recs.length rd.first nonce d.2.1
      let c := gcmSeal (s.slot n).key nonce head d.1.flatten
      (∃ o, (t.engine e).op = some o ∧ o.cls = .record ∧ o.slot = n ∧ o.ring = 8 ∧ o.cmd = rd.cmd ∧ o.dest = r.dest ∧ o.out = some (head ++ c.1 ++ c.2)) ∧
      t.jnl.reading = some { rd with sealing := true } ∧ t.jnl.nand = s.jnl.nand ∧ t.jnl.ackNext = s.jnl.ackNext ∧ t.jnl.batches = s.jnl.batches ∧ t.mem = s.mem ∧
      t.key.invocNext = s.key.invocNext + 1)) ∧
  (∀ (s : State) (e : Fin 2) (o : AeaOp) (rd : Reading) (r : Running) (out : List Byte), (s.engine e.val).op = some o → o.ring = 8 → s.masksFlow = true → s.jnl.reading = some rd →
    s.runningSeq 8 o.cmd = some r → o.out = some out →
    Runs (.aeadOpComplete e) s (fun t => BytesPut o.dest out s t ∧ t.jnl.reading = none ∧ t.jnl.nand = s.jnl.nand ∧ t.jnl.ackNext = s.jnl.ackNext ∧
      (rd.driver = false → ∃ b ∈ t.jnl.batches, b.first = rd.first ∧ b.count = rd.recs.length ∧ b.tag = out.drop (out.length - 16)) ∧
      (rd.driver = true → t.jnl.batches = s.jnl.batches) ∧
      Completed r blkJNL stOK 0 (leBytes 6 rd.first ++ leBytes 1 rd.recs.length ++ (if rd.driver then leBytes 6 rd.next else [])) t ∧
      Only [.mem, .jnl, .crypto, .que, .evt, .regs] s t)) ∧
  (∀ (s : State) (r : Running), s.running 8 2 = some r → r.started = false → s.reg Reg.JNL_CFG_RCPT = 0 → s.jnl.foreign_ = false → s.jnl.noNand = false →
    (∀ b, s.jnl.batches = [b] → s.jnl.next % 1024 ≠ 1023 → s.reg Reg.JNL_LOST_COUNT = 0 → s.jnl.sealReq = [] → b.tag = r.sub 0 16 → b.first ≤ s.jnl.ackNext → s.jnl.ackNext < b.first + b.count →
      Runs .exportAck s (fun t => t.jnl.ackNext = b.first + b.count ∧
        Assigned 5 (leBytes 6 (b.first + b.count) ++ leBytes 6 b.first ++ leBytes 1 r.entry.master ++ leBytes 1 r.level ++ leBytes 1 0xFF ++ b.tag) s t ∧
        Only [.jnl, .tsu, .que, .evt, .regs] s t)) ∧
    ((∀ b ∈ s.jnl.batches, b.tag ≠ r.sub 0 16) → Runs .exportAck s (fun t => Completed r blkJNL stPOLICY 3 [] t ∧ Only [.que, .evt, .regs] s t))) ∧
  (∀ (s : State) (r : Running), s.running 8 4 = some r →
    Runs .jnlStatus s (fun t => Completed r blkJNL stOK 0 (s.regBytes Reg.JNL_STAT_STATE 0 ++ s.regBytes Reg.JNL_CAP_BLOCKS 0 ++ s.regBytes Reg.JNL_USED_SLOTS 0 ++
      leBytes 6 s.jnl.ackNext ++ leBytes 6 s.jnl.next) t ∧ Only [.que, .evt, .regs] s t)) ∧
  (∀ (s : State) (m : Nat), s.mayWriteField m Reg.JNL_ERR_CLR_CLR = true →
    Runs (.jnlErrClr m) s (fun t => t.reg Reg.JNL_ERR_RS_CORR = 0 ∧ t.reg Reg.JNL_ERR_DAMAGED = 0 ∧ t.reg Reg.JNL_ERR_PROG_FAIL = 0 ∧ t.reg Reg.JNL_ERR_ERASE_FAIL = 0 ∧
      FieldsKept [Reg.JNL_ERR_RS_CORR, Reg.JNL_ERR_DAMAGED, Reg.JNL_ERR_PROG_FAIL, Reg.JNL_ERR_ERASE_FAIL] s t ∧ Only [.regs] s t))

/-! ## Enforcement tag (chapter 14) -/

/-- The tag has answered the block taken in state s with the response `data` in one block: PCB with the toggled block number, the response, CRC_A. (Said where the response fits the reader's
frame and no S(WTX) waits.) -/
def Sent (data : List Byte) (s t : State) : Prop :=
  data.length + 3 ≤ s.hft.fsd → s.hft.wtx = false →
    t.hft.sent = [(BitVec.ofNat 8 (2 + ofBool (!s.hft.bn)) :: data) ++ crcA (BitVec.ofNat 8 (2 + ofBool (!s.hft.bn)) :: data)]

/-- A plain response with a status word. -/
def Replied (data : List Byte) (sw : Nat) (s t : State) : Prop := Sent (data ++ swBytes sw) s t

/-- A protected response with a status word (R677): encrypted under the session key with its SSC, which rises. -/
def Protected (data : List Byte) (sw : Nat) (s t : State) : Prop :=
  Sent ((ccmSeal s.hft.key 8 (smNonce 2 s.hft.ssc) (swBytes sw) data).1 ++ (ccmSeal s.hft.key 8 (smNonce 2 s.hft.ssc) (swBytes sw) data).2 ++ swBytes sw) s t ∧
  t.hft.ssc = s.hft.ssc + 1

/-- A frame is a final I-block that the tag takes, with APDU a of an instruction. -/
def Taken (f : List Byte) (ins : Nat) (s : State) (a : Apdu) : Prop := (∃ u, s.tagTake f = some (a, u)) ∧ a.ins = ins ∧ (a.cla = 0 ∨ a.cla = 0x0C)

/-- An open command in the OPEN state with the given P1 and length. -/
def OpenForm (a : Apdu) (s : State) (p1 len : Nat) : Prop := a.cla = 0 ∧ s.hft.st = .open_ ∧ a.p1 = p1 ∧ a.p2 = 0 ∧ a.ok = true ∧ a.data.length = len

/-- A command of the SECURED state that opens to plaintext p (R676 to R678). -/
def Opened (a : Apdu) (s : State) (p : List Byte) : Prop :=
  s.hft.st = .secured ∧ a.cla = 0x0C ∧ a.ok = true ∧ s.hft.ssc < 2 ^ 32 ∧ 8 ≤ a.data.length ∧
  ccmOpen s.hft.key 8 (smNonce 1 s.hft.ssc) [BitVec.ofNat 8 a.cla, BitVec.ofNat 8 a.ins, BitVec.ofNat 8 a.p1, BitVec.ofNat 8 a.p2] (a.data.take (a.data.length - 8))
    (a.data.drop (a.data.length - 8)) = some p

/-- Tier 2. Presence, activation and blocks (R653, R654, R659, R660, R662, R663, R680, R693, Tables 14-2, 14-3, ISO/IEC 14443: PRESUMED, assumption 66): field entry draws the UID and raises E_176, field exit leaves
IDLE; REQA, WUPA, anticollision and select walk IDLE to its UID; RATS makes it ACTIVE; S(DESELECT) and HLTA return it; R(ACK), R(NAK), chaining and S(WTX) move blocks without executing
anything; a bad CRC_A is counted and an unknown APDU answered with its status word. -/
def Obligations.TagFrames : Prop :=
  (∀ s : State, s.hft.field = false → s.mainUp = true → s.pwr.phase = .run →
    Runs .fieldEntry s (fun t => t.hft.field = true ∧ t.hft.mode = 0 ∧ t.hft.st = .idle ∧ t.hft.uid = 0x08 :: (s.draw 3).1 ∧ t.hft.key = [] ∧ Raised 176 t ∧
      t.reg Reg.HFT_COUNT_ENTRIES = low Reg.HFT_COUNT_ENTRIES.width (s.reg Reg.HFT_COUNT_ENTRIES + 1) ∧ (∃ d, t.pwr = { s.pwr with disturbed := d }) ∧ Only [.hft, .regs, .evt, .fresh, .pwr] s t)) ∧
  (∀ s : State, s.hft.field = true → s.hft.stalls = [] → s.pins.vio = true →
    Runs .fieldExit s (fun t => t.hft.field = false ∧ t.hft.st = .idle ∧ t.hft.key = [] ∧ t.hft.fails = 0 ∧ (∀ w ∈ t.lkt.writes, w.writer ≠ .field) ∧
      (∀ r, s.que.running = [r] → r.ring = 11 → r.entry.code = 3 → r.started = true → Completed r blkHFT stOK 0 [] t) ∧ Only [.hft, .lkt, .que, .evt, .regs] s t)) ∧
  (∀ s : State, s.hft.field = true → Runs .fieldEntry s (fun t => t = s)) ∧
  (∀ s : State, s.hft.field = false → Runs .fieldExit s (fun t => t = s)) ∧
  (∀ (s : State) (b : Bool), Runs (.fdNChange b) s (fun t => t.pins = { s.pins with fdN := some (!b) } ∧ Only [.pins] s t)) ∧
  (∀ s : State, s.tagOn = true → s.hft.st = .idle →
    Runs .reqa s (fun t => t.hft = { s.hft with part3 := 1, sent := [[0x04, 0x00]] } ∧ Only [.hft] s t) ∧
    Runs .wupa s (fun t => t.hft = { s.hft with part3 := 1, sent := [[0x04, 0x00]] } ∧ Only [.hft] s t) ∧
    (s.hft.part3 = 1 → ∀ (n : Fin 40) (u : BitVec 40), low n.val s.uidBits = low n.val u.toNat →
      Runs (.anticollision n u) s (fun t => t.hft.sent = [leBytes ((40 - n.val + 7) / 8) (s.uidBits / 2 ^ n.val)] ∧ t.hft.part3 = 1 ∧ Only [.hft] s t)) ∧
    (s.hft.part3 = 1 → ∀ f, openTagFrame f = some ([0x93, 0x70] ++ leBytes 5 s.uidBits) →
      Runs (.cascadeSelect f) s (fun t => t.hft = { s.hft with part3 := 2, sent := [(0x20 : Byte) :: crcA [0x20]] } ∧ Only [.hft] s t)) ∧
    (s.hft.part3 = 2 → ∀ (f : List Byte) (p : Byte), openTagFrame f = some [0xE0, p] →
      Runs (.rats f) s (fun t => t.hft.st = .active ∧ t.hft.sent = [[0x05, 0x78, 0x00, 0x70, 0x00] ++ crcA [0x05, 0x78, 0x00, 0x70, 0x00]] ∧ (8 ≤ p.toNat / 16 → t.hft.fsd = 256) ∧
        (p.toNat / 16 = 5 → t.hft.fsd = 64) ∧ Only [.hft] s t))) ∧
  (∀ (s : State) (f : List Byte), s.tagOn = true → s.hft.st = .active → s.hft.fresh = true → openTagFrame f = some [0xD0, 0x11, 0x00] →
    Runs (.pps f) s (fun t => t.hft = { s.hft with fresh := false, sent := [(0xD0 : Byte) :: crcA [0xD0]] } ∧ Only [.hft] s t)) ∧
  (∀ s : State, s.tagOn = true → s.hft.stalls = [] →
    Runs .hlta s (fun t => t.hft.st = .idle ∧ t.hft.sent = [] ∧ t.hft.key = [] ∧ t.hft.uid = s.hft.uid ∧ Only [.hft] s t) ∧
    (s.hft.st ≠ .idle → Runs .deselect s (fun t => t.hft.st = .idle ∧ t.hft.sent = [(0xC2 : Byte) :: crcA [0xC2]] ∧ t.hft.key = [] ∧ Only [.hft] s t)) ∧
    Runs .crcAFail s (fun t => t.hft = { s.hft with sent := [] } ∧ t.reg Reg.HFT_ERR_CRC = satInc Reg.HFT_ERR_CRC.width (s.reg Reg.HFT_ERR_CRC) ∧ FieldsKept [Reg.HFT_ERR_CRC] s t ∧
      Only [.hft, .regs] s t)) ∧
  (∀ s : State, s.tagOn = true → s.hft.st ≠ .idle →
    (s.hft.last ≠ [] → Runs .rNak s (fun t => t.hft = { s.hft with sent := [s.hft.last] } ∧ Only [.hft] s t) ∧
      Runs (.rAck s.hft.bn) s (fun t => t.hft = { s.hft with sent := [s.hft.last] } ∧ Only [.hft] s t)) ∧
    (s.hft.rest ≠ [] → s.hft.wtx = false → Runs (.rAck (!s.hft.bn)) s (fun t => t.hft.bn = !s.hft.bn ∧ t.hft.rest = s.hft.rest.drop (s.hft.fsd - 3) ∧ t.hft.sent = [t.hft.last] ∧
      (t.hft.last.drop 1).take (t.hft.last.length - 3) = s.hft.rest.take (s.hft.fsd - 3) ∧ Only [.hft] s t)) ∧
    (s.hft.waits = .none → ∀ (f : List Byte) (pcb : Byte) (inf : List Byte), openTagFrame f = some (pcb :: inf) → (pcb = 0x12 ∨ pcb = 0x13) →
      Runs (.chainedIBlock f) s (fun t => t.hft.chain = s.hft.chain ++ inf ∧ t.hft.st = s.hft.st ∧ t.hft.rest = s.hft.rest ∧
        t.hft.sent = [BitVec.ofNat 8 (0xA2 + ofBool (!s.hft.bn)) :: crcA [BitVec.ofNat 8 (0xA2 + ofBool (!s.hft.bn))]] ∧ Only [.hft] s t))) ∧
  (∀ s : State, s.hft.wtx = true → s.hft.waits ≠ .none → Runs .sWtxResponse s (fun t => t.hft = { s.hft with wtx := false, sent := [] } ∧ Only [.hft] s t)) ∧
  (∀ s : State, s.hft.wtx = true → s.hft.waits = .none → s.hft.rest ≠ [] →
    Runs .sWtxResponse s (fun t => t.hft.wtx = false ∧ t.hft.rest = s.hft.rest.drop (s.hft.fsd - 3) ∧ t.hft.sent = [t.hft.last] ∧ Only [.hft] s t)) ∧
  (∀ (s : State) (f : List Byte) (a : Apdu), (∃ u, s.tagTake f = some (a, u)) →
    (a.cla ≠ 0 → a.cla ≠ 0x0C → Runs (.unknownApdu f) s (fun t => Replied [] 0x6E00 s t ∧ t.hft.st = s.hft.st ∧ Only [.hft] s t)) ∧
    (a.cla = 0 → (∀ p ∈ tagCommands, p.1 ≠ a.ins) → Runs (.unknownApdu f) s (fun t => Replied [] 0x6D00 s t ∧ t.hft.st = s.hft.st ∧ Only [.hft] s t)))

/-- Firmware has appended a record of a type to Q_7, where it waits for its SEQ; JNL takes none while it has no journal of its own (R641). The payloads of the types of firmware are the
model's choice (assumption 68). -/
def FirmwareAppended (typ : Nat) (payload : List Byte) (s t : State) : Prop :=
  t.jnl = if s.jnl.foreign_ || s.jnl.noNand then s.jnl else { s.jnl with q7 := s.jnl.q7 ++ [{ typ := typ, master := 1, block := 0x1F, payload := fit 64 payload }] }

/-- What an entry into SECURED sets (R669, R673, R679), with E_177 and, in RUN, its record 0x4010 (R695). -/
def Secured (method : Nat) (key : List Byte) (write : Bool) (subject : Nat) (s t : State) : Prop :=
  t.hft.st = .secured ∧ t.hft.method = method ∧ t.hft.key = key ∧ t.hft.ssc = 0 ∧ t.hft.mayWrite = write ∧ (s.hft.mode = 0 → Raised 177 t) ∧
  (s.hft.mode = 0 → FirmwareAppended 0x4010 (leBytes 1 method ++ leBytes 8 subject ++ leBytes 1 (ofBool (write && method == 1)) ++ s.hft.uid) s t) ∧ (s.hft.mode ≠ 0 → t.jnl = s.jnl)

/-- Tier 2. The tag's commands (R665 to R681, R685 to R692, R698, Tables 14-3 to 14-10): SELECT opens; GET_INFO, GET_CHALLENGE and PUT_CERT work in OPEN; ENF_AUTH with ENF_CONFIRM, and WS_AUTH,
secure the tag under the key they derive, and a wrong tag counts as a failure; protected commands read and write Field Memory within their range, read the status and the Hallmark, collect an
authority command, and close; stalled accesses end with FIELD_BUSY after their time; Q_11's commands answer. -/
def Obligations.TagCommands : Prop :=
  (∀ (s : State) (f : List Byte) (a : Apdu), Taken f 0xA4 s a → a.cla = 0 → a.p1 = 4 → a.p2 = 0x0C → a.ok = true →
    a.data = [0xF0, 0x53, 0x58, 0x44, 0x56, 0x37, 0x32, 0x34, 0x30] →
    Runs (.select f) s (fun t => t.hft.st = .open_ ∧ t.hft.key = [] ∧ t.hft.nT = none ∧ Replied [] 0x9000 s t ∧ Only [.hft] s t)) ∧
  (∀ (s : State) (f : List Byte) (a : Apdu), Taken f 0x30 s a → OpenForm a s 0 0 →
    Runs (.getInfo f) s (fun t => Replied ([Config.tagVersion] ++ leBytes 1 s.hft.mode ++
      leBytes 1 (s.reg Reg.HFT_TAG_CFG_WS_EN + 2 * s.reg Reg.HFT_TAG_CFG_WS_TOKEN + 4 * ofBool s.enfAvailable) ++ [127]) 0x9000 s t ∧ t.hft.st = .open_ ∧ Only [.hft] s t)) ∧
  (∀ (s : State) (f : List Byte) (a : Apdu), Taken f 0x84 s a → OpenForm a s 0 0 → a.le = 16 →
    Runs (.getChallenge f) s (fun t => t.hft.nT = some (s.draw 16).1 ∧ Replied (s.draw 16).1 0x9000 s t ∧ t.hft.st = .open_ ∧ Only [.hft, .fresh] s t)) ∧
  (∀ (s : State) (f : List Byte) (a : Apdu), Taken f 0x32 s a → OpenForm a s 1 152 → certIssuer a.data = 0 → s.areaDamaged 0 = false → (certRole a.data = 1 ∨ certRole a.data = 2) →
    slice a.data 0 1 = [1] → s.certInTime a.data = true → s.pkeVerifies = true →
    (ecdsaVerify s.authorityKey (sha256 (a.data.take 88)) (a.data.drop 88) = true →
      Runs (.putCert f) s (fun t => t.hft.certs = [a.data] ∧ Replied [] 0x9000 s t ∧ t.hft.st = .open_ ∧ Only [.hft, .regs] s t)) ∧
    (ecdsaVerify s.authorityKey (sha256 (a.data.take 88)) (a.data.drop 88) = false →
      Runs (.putCert f) s (fun t => t.hft.certs = [] ∧ Replied [] 0x6300 s t ∧ t.hft.st = .open_ ∧ Only [.hft, .regs] s t))) ∧
  (∀ (s : State) (f : List Byte) (a : Apdu), Taken f 0x34 s a → OpenForm a s 0 128 →
    (s.hft.fails < 3 → s.enfAvailable = true → s.readerCert ≠ none → s.hft.nT ≠ none → s.hft.mode = 0 →
      Runs (.enfAuth f) s (fun t => t.hft.enf = some { eR := a.data.take 64, sig := a.data.drop 64, since := s.now } ∧ t.hft.waits = .enf ∧ t.hft.sent = [] ∧ Only [.hft] s t)) ∧
    (3 ≤ s.hft.fails → Runs (.enfAuth f) s (fun t => Replied [] 0x6983 s t ∧ Only [.hft] s t))) ∧
  (∀ (s : State) (e : Enf) (c nT : List Byte), s.hft.enf = some e → s.readerCert = some c → s.hft.nT = some nT → s.hft.waits = .enf → s.hft.mode = 0 → s.pkeFree = true →
    s.crypto.rng.state = .ok → s.enfAvailable = true → certKey c ≠ [] →
    (ecdsaVerify (certKey c) (sha256 ([0x48, 0x46, 0x52, 0x44] ++ nT ++ s.hft.uid ++ e.eR)) e.sig = true → pointOf e.eR ≠ none →
      s.slotCause 253 useECDH [2] 0 = 0 → (s.slot 253).count < (s.slot 253).ceiling → s.slotCause 254 useSIGN [2] 0 = 0 → (s.slot 254).count < (s.slot 254).ceiling →
      Runs .enfAuthDone s (fun t => (∃ k, 0 < k ∧ k < pN ∧ t.hft.enf =
          some { e with done := true, eT := publicKey k, k2 := enfKey 0x32 ((ecdh k e.eR).getD [] ++ (ecdh (ofBe (s.slot 253).key) e.eR).getD []) nT s.hft.uid }) ∧ t.hft.waits = .none ∧ t.hft.st = s.hft.st ∧ t.hft.fails = s.hft.fails ∧ (t.slotRaw 253).count = (s.slot 253).count + 1 ∧ (t.slotRaw 254).count = (s.slot 254).count + 1)) ∧
    (ecdsaVerify (certKey c) (sha256 ([0x48, 0x46, 0x52, 0x44] ++ nT ++ s.hft.uid ++ e.eR)) e.sig = false →
      Runs .enfAuthDone s (fun t => t.hft.fails = s.hft.fails + 1 ∧ t.hft.waits = .none ∧ Raised 178 t ∧ t.hft.st = s.hft.st ∧ t.key = s.key))) ∧
  (∀ (s : State) (f : List Byte) (a : Apdu) (e : Enf) (c : List Byte), Taken f 0x38 s a → OpenForm a s 0 8 → s.hft.fails < 3 → s.enfAvailable = true → s.hft.enf = some e →
    s.readerCert = some c → e.done = true →
    ((ccmSeal e.k2 8 (4 :: List.replicate 12 0) ((0x52 : Byte) :: (e.eR ++ e.eT)) []).2 = a.data →
      Runs (.enfConfirm f) s (fun t => Secured 1 e.k2 (bit (ofLe (slice c 2 1)) 0) (certSubject c) s t ∧ Replied (ccmSeal e.k2 8 (5 :: List.replicate 12 0) ((0x54 : Byte) :: (e.eT ++ e.eR)) []).2 0x9000 s t ∧
        Only [.hft, .evt, .jnl] s t)) ∧
    ((ccmSeal e.k2 8 (4 :: List.replicate 12 0) ((0x52 : Byte) :: (e.eR ++ e.eT)) []).2 ≠ a.data →
      Runs (.enfConfirm f) s (fun t => t.hft.st = .open_ ∧ t.hft.enf = none ∧ t.hft.fails = s.hft.fails + 1 ∧ Replied [] 0x6300 s t))) ∧
  (∀ (s : State) (f : List Byte) (a : Apdu) (nT : List Byte), Taken f 0x3A s a → OpenForm a s 0 24 → s.hft.fails < 3 → s.wsAvailable = true → s.hft.nT = some nT →
    ((ccmSeal s.kWs 8 ((6 : Byte) :: nT.take 12) ([0x57, 0x52] ++ nT ++ a.data.take 16 ++ s.hft.uid) []).2 = a.data.drop 16 →
      Runs (.wsAuth f) s (fun t => Secured 2 (aesEncrypt s.kWs (nT.take 8 ++ (a.data.take 16).take 8)) true 0 s t ∧
        Replied (ccmSeal s.kWs 8 ((7 : Byte) :: (a.data.take 16).take 12) ([0x57, 0x54] ++ a.data.take 16 ++ nT ++ s.hft.uid) []).2 0x9000 s t ∧ Only [.hft, .evt, .jnl] s t)) ∧
    ((ccmSeal s.kWs 8 ((6 : Byte) :: nT.take 12) ([0x57, 0x52] ++ nT ++ a.data.take 16 ++ s.hft.uid) []).2 ≠ a.data.drop 16 →
      Runs (.wsAuth f) s (fun t => t.hft.st = .open_ ∧ t.hft.fails = s.hft.fails + 1 ∧ Replied [] 0x6300 s t))) ∧
  (∀ (s : State) (f : List Byte) (a : Apdu), Taken f 0xB0 s a → Opened a s [] → 0 < a.le → a.le ≤ 224 →
    (a.offset + a.le ≤ 0x1FC0 → s.fieldDamaged a.offset a.le = false →
      Runs (.fmRead f) s (fun t => Protected (s.fieldBytes a.offset a.le) 0x9000 s t ∧ t.hft.st = .secured ∧ Only [.hft] s t)) ∧
    (0x1FC0 < a.offset + a.le → Runs (.fmRead f) s (fun t => Protected [] 0x6B00 s t ∧ Only [.hft] s t))) ∧
  (∀ (s : State) (f : List Byte) (a : Apdu) (p : List Byte) (k : Option Nat), Taken f 0xD6 s a → Opened a s p → 0 < p.length → p.length ≤ 128 → s.hft.noWrite = false →
    s.isStandby = false →
    (s.tagRange.1 ≤ a.offset → a.offset + p.length ≤ s.tagRange.2 → (s.hft.method = 2 ∨ s.hft.mayWrite = true) → s.hft.mode = 0 → s.regI Reg.CLASP_OWNER 31 ≠ 3 → s.pins.wpLow = false →
      s.lkt.worn = false → s.lktRoom (s.runItems (0x6000 + a.offset) p) = true → s.linkMirrors = false → s.pins.holdupReady = true → (∀ w ∈ s.lkt.writes, w.writer ≠ .field) →
      s.pairDegraded = false →
      Runs (.fmWrite f k) s (fun t => t.lktBytes (0x6000 + a.offset) p.length = p ∧
        (∀ b, (b < lktBase + 0x6000 + a.offset ∨ lktBase + 0x6000 + a.offset + p.length ≤ b) → t.byte b = s.byte b) ∧ Protected [0, 0, 0, 0] 0x9000 s t ∧
        t.reg Reg.HFT_COUNT_WRITES = low Reg.HFT_COUNT_WRITES.width (s.reg Reg.HFT_COUNT_WRITES + 1) ∧
        FirmwareAppended 0x4011 (leBytes 2 a.offset ++ leBytes 2 p.length ++ leBytes 4 0 ++ leBytes 1 0) s t ∧ Only [.hft, .lkt, .mem, .regs, .jnl] s t)) ∧
    ((a.offset < s.tagRange.1 ∨ s.tagRange.2 < a.offset + p.length) → Runs (.fmWrite f k) s (fun t => Protected [] 0x6B00 s t ∧ Only [.hft] s t))) ∧
  (∀ (s : State) (f : List Byte) (a : Apdu), Taken f 0x3C s a → Opened a s [] → a.p1 = 0 → a.p2 = 0 →
    Runs (.getStatus f) s (fun t => Protected (leBytes 4 s.fieldLastSeq ++
      leBytes 1 (ofBool s.pins.wpLow + 2 * ofBool (s.regI Reg.CLASP_OWNER 31 == 3) + 4 * ofBool s.pairDegraded) ++
      leBytes 2 (min (s.lkt.fieldA.free + (if s.lkt.fieldA.reserve.retired then 0 else sectorSlots - s.lkt.fieldA.reserve.slots.length)) 0xFFFF)) 0x9000 s t ∧ Only [.hft] s t)) ∧
  (∀ (s : State) (f : List Byte) (a : Apdu), Taken f 0x36 s a → Opened a s [] → s.hft.method = 1 → 0 < a.le → a.le ≤ 224 →
    Runs (.getHallmark f) s (fun t => Protected ((s.key.certificate.drop a.offset).take a.le) 0x9000 s t ∧ Only [.hft] s t)) ∧
  (∀ (s : State) (f : List Byte) (a : Apdu) (p : List Byte), Taken f 0x42 s a → Opened a s p → a.p1 = 0 → p ≠ [] → p.length ≤ 200 → s.hft.mode = 0 → s.isStandby = false →
    (a.p2 = 0 → Runs (.authCmd f) s (fun t => t.hft.parts = p ∧ Protected [] 0x9000 s t ∧ t.auth = s.auth ∧ Only [.hft] s t)) ∧
    (a.p2 = 1 → s.auth = none → (s.authCheck p).1.1 = stOK →
      Runs (.authCmd f) s (fun t => (∃ w, t.auth = some w ∧ w.source = .hf ∧ w.phase = .counter ∧ w.left = authWrites p ∧ w.ctr = ofLe (slice p 12 4)) ∧ Submitted .anchor t ∧
        t.hft.waits = .auth ∧ t.hft.parts = []))) ∧
  (∀ (s : State) (f : List Byte) (a : Apdu), Taken f 0x3E s a → Opened a s [] → a.p1 = 0 → a.p2 = 0 →
    Runs (.close f) s (fun t => t.hft.st = .open_ ∧ t.hft.key = [] ∧
      Sent ((ccmSeal s.hft.key 8 (smNonce 2 s.hft.ssc) (swBytes 0x9000) []).1 ++ (ccmSeal s.hft.key 8 (smNonce 2 s.hft.ssc) (swBytes 0x9000) []).2 ++ swBytes 0x9000) s t ∧ Only [.hft] s t)) ∧
  (∀ (s : State) (x : Stall) (l : List Stall) (r : Running), s.hft.stalls = x :: l → x.since + 4900 ≤ s.now → s.hft.mode = 0 → x.width = 0 → s.runningSeq 6 x.addr = some r →
    Runs .fieldBusyTimeout s (fun t => t.hft = { s.hft with stalls := l } ∧ Completed r blkLKT stFIELDBUSY 0 [] t ∧ Raised 179 t ∧
      t.reg Reg.HFT_ERR_FIELD_BUSY = satInc Reg.HFT_ERR_FIELD_BUSY.width (s.reg Reg.HFT_ERR_FIELD_BUSY) ∧ Only [.hft, .que, .evt, .regs] s t)) ∧
  (∀ s : State, (s.hft.stalls = [] ∨ ∃ x l, s.hft.stalls = x :: l ∧ s.now < x.since + 4900) → Runs .fieldBusyTimeout s (fun t => t = s)) ∧
  (∀ (s : State) (r : Running), s.running 11 1 = some r →
    Runs .hfStatus s (fun t => Completed r blkHFT stOK 0 (s.regBytes Reg.HFT_STAT_FIELD 0 ++ s.regBytes Reg.HFT_COUNT_ENTRIES 0 ++ s.regBytes Reg.HFT_LAST_SEQ 0) t ∧
      Only [.que, .evt, .regs] s t)) ∧
  (∀ (s : State) (r : Running), s.running 11 2 = some r → s.hft.stalls = [] → (s.hft.st ≠ .secured ∨ s.hft.waits = .none) →
    Runs .hfClose s (fun t => t.hft.st ≠ .secured ∧ (s.hft.st ≠ .secured → t.hft = s.hft) ∧ Completed r blkHFT stOK 0 [] t ∧ Only [.hft, .que, .evt, .regs] s t)) ∧
  (∀ (s : State) (r : Running), s.running 11 3 = some r → r.started = false → s.runningSeq 11 r.entry.seq = some r →
    (s.hft.field = false → Runs .hfWaitExit s (fun t => Completed r blkHFT stOK 0 [] t ∧ Only [.que, .evt, .regs] s t)) ∧
    (s.hft.field = true → Runs .hfWaitExit s (fun t => (∃ x, t.runningSeq 11 r.entry.seq = some x ∧ x.started = true ∧ x.entry = r.entry) ∧ Only [.que] s t))) ∧
  (∀ (s : State) (m : Nat), s.mayWriteField m Reg.HFT_ERR_CLR_CLR = true →
    Runs (.hftErrClr m) s (fun t => t.reg Reg.HFT_ERR_CRC = 0 ∧ t.reg Reg.HFT_ERR_SM_FAIL = 0 ∧ t.reg Reg.HFT_ERR_AUTH_FAIL = 0 ∧ t.reg Reg.HFT_ERR_FIELD_BUSY = 0 ∧
      FieldsKept [Reg.HFT_ERR_CRC, Reg.HFT_ERR_SM_FAIL, Reg.HFT_ERR_AUTH_FAIL, Reg.HFT_ERR_FIELD_BUSY] s t ∧ Only [.regs] s t))

/-! ## Host interface, queues, mailboxes, Clasps (chapter 15) -/

/-- A frame with an opcode has been seen and has ended with a status (R707): it is counted, HIF_STAT names it, and the host has read the bytes `out`. -/
def Framed (op status : Nat) (out : List Byte) (s t : State) : Prop :=
  t.reg Reg.HIF_FRAMES_FRAMES = low Reg.HIF_FRAMES_FRAMES.width (s.reg Reg.HIF_FRAMES_FRAMES + 1) ∧ t.reg Reg.HIF_STAT_LAST_OP = op ∧ t.reg Reg.HIF_STAT_LAST_STATUS = status ∧
  t.hif.out = out

/-- The host's frame with an opcode is served now (R704, R708, Table 15-1). -/
def Served (op : Nat) (s : State) : Prop := s.hifTakes = true ∧ s.opTaken op = true

/-- Tier 2. Frames (R704, R707 to R713, R718, R723, Tables 15-1 to 15-4): REG_READ and REG_WRITE carry the bus access of each word and stop at the first that fails; a word of the Locket window
is answered once the Locket has accepted it, and until then the frame waits (R38, R706); PUSH and POP move entries;
STATUS records nothing; WREN, WRDI and WRSR move WEL, READ gives bytes with the pattern where it may not, WRITE needs WEL and begins one page write; MB_PUT and MB_GET move messages; an opcode
not accepted and a short frame are counted; while HIF takes no frame its outputs float and nothing else changes. -/
def Obligations.HostFrames : Prop :=
  (∀ (s : State) (a : BitVec 32), Served 0xB0 s → s.fieldBusy = false → ((s.hifSeen 0xB0).busRead 3 a.toNat 32).1 = stOK →
    Runs (.regRead a 0) s (fun t => t.hif.out = 0 :: leBytes 4 ((s.hifSeen 0xB0).busRead 3 a.toNat 32).2.1 ∧ t.hif.highZ = false ∧ t.reg Reg.HIF_STAT_LAST_STATUS = stOK ∧
      Only [.regs, .hif] ((s.hifSeen 0xB0).busRead 3 a.toNat 32).2.2 t)) ∧
  (∀ (s : State) (a : BitVec 32) (n : BitVec 8) (st : Nat), Served 0xB0 s → s.fieldBusy = false → claspsIn a.toNat (n.toNat + 1) ≤ 1 →
    ((s.hifSeen 0xB0).busRead 3 a.toNat 32).1 = st → st ≠ stOK →
    Runs (.regRead a n) s (fun t => t.hif.out = BitVec.ofNat 8 st :: (List.range (n.toNat + 1)).flatMap (fun _ => leBytes 4 0xDEAD0FF5) ∧ t.reg Reg.HIF_STAT_LAST_STATUS = low 8 st ∧
      Only [.regs, .hif] ((s.hifSeen 0xB0).busRead 3 a.toNat 32).2.2 t)) ∧
  (∀ (s : State) (a : BitVec 32) (n : BitVec 8), Served 0xB0 s → 1 < claspsIn a.toNat (n.toNat + 1) →
    Runs (.regRead a n) s (fun t => t.hif.out = BitVec.ofNat 8 stPOLICY :: (List.range (n.toNat + 1)).flatMap (fun _ => leBytes 4 0xDEAD0FF5) ∧
      t.reg Reg.HIF_STAT_LAST_STATUS = stPOLICY ∧ (∀ k, t.regI Reg.CLASP_OWNER k = s.regI Reg.CLASP_OWNER k) ∧ Only [.regs, .hif] s t)) ∧
  (∀ (s : State) (a w : BitVec 32), Served 0xB1 s → regionOf a.toNat ≠ some .locket →
    (((s.hifSeen 0xB1).busWrite 3 a.toNat 32 w.toNat).1 = some stOK →
      Runs (.regWrite a [w] false) s (fun t => t.hif.out = [0] ∧ t.reg Reg.HIF_STAT_LAST_STATUS = stOK ∧ Only [.regs, .hif] ((s.hifSeen 0xB1).busWrite 3 a.toNat 32 w.toNat).2 t)) ∧
    ((((s.hifSeen 0xB1).bump Reg.HIF_ERR_ABANDONED).busWrite 3 a.toNat 32 w.toNat).1 = some stOK →
      Runs (.regWrite a [w] true) s (fun t => t.hif.out = [] ∧ t.hif.highZ = true ∧
        Only [.regs, .hif] (((s.hifSeen 0xB1).bump Reg.HIF_ERR_ABANDONED).busWrite 3 a.toNat 32 w.toNat).2 t)) ∧
    (∀ (l : List (BitVec 32)) (st : Nat), ((s.hifSeen 0xB1).busWrite 3 a.toNat 32 w.toNat).1 = some st → st ≠ stOK →
      Runs (.regWrite a (w :: l) false) s (fun t => t.hif.out = [BitVec.ofNat 8 st] ∧ t.reg Reg.HIF_STAT_LAST_STATUS = low 8 st ∧
        Only [.regs, .hif] ((s.hifSeen 0xB1).busWrite 3 a.toNat 32 w.toNat).2 t))) ∧
  (∀ (s : State) (a w : BitVec 32) (l : List (BitVec 32)), l.length < 256 → Served 0xB1 s → s.hifOpen = true → regionOf a.toNat = some .locket → a.toNat % 4 = 0 →
    (∀ i, i < 4 → s.mayWriteLkt 3 (a.toNat - lktBase + i) = true) → s.isStandby = false → s.fieldBusy = false → s.pins.wpLow = false → s.lkt.worn = false →
    s.lktRoom (s.runItems (a.toNat - lktBase) (leBytes 4 w.toNat)) = true → s.linkMirrors = false → (∀ x ∈ s.lkt.writes, x.writer ≠ .bus 3) →
    (s.pins.holdupReady = true → Runs (.regWrite a [w] false) s (fun t => t.hif.out = [0] ∧ t.reg Reg.HIF_STAT_LAST_STATUS = stOK ∧ t.bytes a.toNat 4 = leBytes 4 w.toNat ∧
      (∀ b, b < a.toNat ∨ a.toNat + 4 ≤ b → t.byte b = s.byte b) ∧ t.lkt.writes = s.lkt.writes)) ∧
    (s.pins.holdupReady = false → Runs (.regWrite a (w :: l) false) s (fun t => t.hif.out = [] ∧ t.bytes a.toNat 4 = leBytes 4 w.toNat ∧ Submitted (.bus 3) t ∧
      t.hif.waits = s.hif.waits ++ [{ addr := a.toNat + 4, words := l.map BitVec.toNat, since := s.now, abandoned := false, stalled := false }]))) ∧
  (∀ (s : State) (q : BitVec 8) (b : List Byte), Served 0xB2 s → s.hifOpen = true → s.blockOff blkQUE = false → q.toNat < 16 →
    ((s.ring q.toNat).length < s.depth q.toNat → Runs (.push q b false) s (fun t => Framed 0xB2 stOK (0 :: leBytes 4 (s.seqOf q.toNat)) s t ∧
      t.ring q.toNat = s.ring q.toNat ++ [{ commandEntry 3 (fit 64 b) with seq := s.seqOf q.toNat }] ∧ (∀ p, p ≠ q.toNat → t.ring p = s.ring p) ∧ Only [.que, .regs, .hif] s t)) ∧
    (s.depth q.toNat ≤ (s.ring q.toNat).length → Runs (.push q b false) s (fun t => t.reg Reg.HIF_STAT_LAST_STATUS = stFULL ∧ t.hif.out.head? = some (BitVec.ofNat 8 stFULL) ∧ t.que = s.que ∧
      Only [.regs, .hif, .fresh] s t))) ∧
  (∀ (s : State) (q : BitVec 8), Served 0xB3 s → s.hifOpen = true → s.blockOff blkQUE = false → 16 ≤ q.toNat → q.toNat < 32 →
    (∀ e, (s.ring q.toNat).find? (fun x => x.flags % 8 == 3) = some e →
      Runs (.pop q) s (fun t => Framed 0xB3 stOK (0 :: e.bytes) s t ∧ t.ring q.toNat = (s.ring q.toNat).erase e ∧ Only [.que, .regs, .hif] s t)) ∧
    ((∀ x ∈ s.ring q.toNat, x.flags % 8 ≠ 3) → Runs (.pop q) s (fun t => Framed 0xB3 stOK (0 :: List.replicate 64 0) s t ∧ t.que = s.que ∧ Only [.regs, .hif] s t))) ∧
  (∀ s : State, s.hifTakes = true → s.flag Reg.HIF_CFG_QUAD = false →
    Runs .status s (fun t => t.hif.out = leBytes 8 (vectors s) ++ leBytes 1 s.hostLevel ++ leBytes 1 (s.reg Reg.HIF_STAT_LAST_STATUS) ++ leBytes 2 (s.reg Reg.HIF_FRAMES_FRAMES) ∧
      Only [.hif] s t)) ∧
  (∀ (s : State) (op : BitVec 8), s.hifTakes = true → s.opTaken op.toNat = false →
    Runs (.badOp op) s (fun t => t.reg Reg.HIF_ERR_BAD_OP = satInc Reg.HIF_ERR_BAD_OP.width (s.reg Reg.HIF_ERR_BAD_OP) ∧ t.hif.out = [] ∧ t.hif.highZ = true ∧ Only [.regs, .hif] s t)) ∧
  (∀ (s : State) (op : BitVec 8), Served op.toNat s → op ≠ 0x04 → op ≠ 0x06 → op ≠ 0xB4 →
    Runs (.shortFrame op) s (fun t => t.reg Reg.HIF_ERR_SHORT = satInc Reg.HIF_ERR_SHORT.width (s.reg Reg.HIF_ERR_SHORT) ∧ t.hif.out = [] ∧ Only [.regs, .hif] s t)) ∧
  (∀ s : State, Served 0x06 s → Runs .wren s (fun t => Framed 0x06 stOK [] s t ∧ t.reg Reg.HIF_EE_WEL = 1 ∧ Only [.regs, .hif] s t)) ∧
  (∀ s : State, Served 0x04 s → Runs .wrdi s (fun t => Framed 0x04 stOK [] s t ∧ t.reg Reg.HIF_EE_WEL = 0 ∧ Only [.regs, .hif] s t)) ∧
  (∀ s : State, Served 0x01 s → Runs .wrsr s (fun t => Framed 0x01 stOK [] s t ∧ t.reg Reg.HIF_EE_WEL = 0 ∧ t.mem = s.mem ∧ Only [.regs, .hif] s t)) ∧
  (∀ (s : State) (n : Nat), 0 < n → Served 0x05 s →
    Runs (.rdsr n) s (fun t => Framed 0x05 stOK (List.replicate n (BitVec.ofNat 8 ((s.hifSeen 0x05).readRegister Reg.HIF_EE_WIP.addr 3))) s t ∧ Only [.regs, .hif] s t)) ∧
  (∀ (s : State) (a : BitVec 16) (n : Nat), Served 0x03 s →
    (0 < n → (∀ i, i < n → s.eepromByte ((a.toNat + i) % 0x8000) = stOK) →
      Runs (.read a n) s (fun t => Framed 0x03 stOK ((List.range n).map (fun i => s.byte (lktBase + (a.toNat + i) % 0x8000))) s t ∧ t.reg Reg.HIF_EE_ERR = 0 ∧ Only [.regs, .hif] s t)) ∧
    (0 < n → s.eepromByte (a.toNat % 0x8000) = stPOLICY →
      Runs (.read a n) s (fun t => t.hif.out.head? = some 0xF5 ∧ t.reg Reg.HIF_EE_ERR = 1 ∧ t.reg Reg.HIF_STAT_LAST_STATUS = stPOLICY ∧ Only [.regs, .hif] s t))) ∧
  (∀ (s : State) (a : BitVec 16) (d : List Byte), Served 0x02 s → d ≠ [] → d.length ≤ 64 →
    (s.reg Reg.HIF_EE_WEL = 1 → s.hif.wip = false → s.hifOpen = true → s.isStandby = false → (∀ x ∈ pageWrite (a.toNat % 0x8000) d, s.mayWriteLkt 3 x.1 = true) → s.pins.wpLow = false →
      s.lkt.worn = false → s.fieldBusy = false → s.lktRoom (s.byteItems (pageWrite (a.toNat % 0x8000) d)) = true → s.partnerRoom (s.byteItems (pageWrite (a.toNat % 0x8000) d)) = true →
      Runs (.write a d) s (fun t => t.reg Reg.HIF_EE_WEL = 0 ∧ t.hif.wip = true ∧ Submitted .eeprom t ∧
        (∀ i, i < d.length → t.byte (lktBase + a.toNat % 0x8000 / 64 * 64 + (a.toNat % 0x8000 + i) % 64) = d.getD i 0) ∧
        (∀ b, (∀ i, i < d.length → b ≠ lktBase + a.toNat % 0x8000 / 64 * 64 + (a.toNat % 0x8000 + i) % 64) → t.byte b = s.byte b) ∧ Only (.hif :: lktParts) s t)) ∧
    (s.reg Reg.HIF_EE_WEL ≠ 1 → Runs (.write a d) s (fun t => t.reg Reg.HIF_EE_ERR = 1 ∧ t.reg Reg.HIF_STAT_LAST_STATUS = stPOLICY ∧ t.hif.wip = s.hif.wip ∧ Only [.regs, .hif] s t))) ∧
  (∀ (s : State) (w : List (BitVec 32)), Served 0x90 s → s.hifOpen = true → s.blockOff 4 = false → s.mbx.boxes.length = 8 → w ≠ [] → w.length ≤ 16 →
    (s.box 1 = none → Runs (.mbPut w false) s (fun t => t.box 1 = some { sender := 3, words := w.map BitVec.toNat, placedAt := s.now } ∧ t.hif.out = [0] ∧ Raised 49 t ∧
      (∀ k, k ≠ 1 → t.box k = s.box k) ∧ Only [.mbx, .hif, .regs, .evt] s t)) ∧
    (∀ m, s.box 1 = some m → Runs (.mbPut w false) s (fun t => t.mbx = s.mbx ∧ t.hif.out = [BitVec.ofNat 8 stFULL] ∧ Only [.hif, .regs] s t))) ∧
  (∀ (s : State) (m : Message), Served 0x91 s → s.hifOpen = true → s.blockOff 4 = false → s.mbx.boxes.length = 8 → s.box 2 = some m → m.sender ≠ 4 →
    Runs .mbGet s (fun t => t.box 2 = none ∧ t.hif.out = 0 :: (leBytes 1 m.words.length ++ m.words.flatMap (leBytes 4)) ∧ Raised 50 t ∧ (∀ k, k ≠ 2 → t.box k = s.box k) ∧
      Only [.mbx, .hif, .regs, .evt] s t)) ∧
  (∀ (s : State) (a : BitVec 32) (n q : BitVec 8) (b : List Byte) (c : Instr), s.hifTakes = false →
    c ∈ [.regRead a n, .regWrite a [] false, .push q b false, .pop q, .wren, .wrdi, .wrsr, .rdsr 1, .read 0 1, .write 0 b, .mbGet, .status] →
    Runs c s (fun t => t.hif = { s.hif with out := [], highZ := true } ∧ Only [.hif] s t)) ∧
  (∀ (s : State) (m : Nat), s.mayWriteField m Reg.HIF_ERR_CLR_CLR = true →
    Runs (.hifErrClr m) s (fun t => t.reg Reg.HIF_ERR_BAD_OP = 0 ∧ t.reg Reg.HIF_ERR_SHORT = 0 ∧ t.reg Reg.HIF_ERR_ABANDONED = 0 ∧
      FieldsKept [Reg.HIF_ERR_BAD_OP, Reg.HIF_ERR_SHORT, Reg.HIF_ERR_ABANDONED] s t ∧ Only [.regs] s t))

/-- Tier 2. Queues, mailboxes, Clasps and the system commands (R714 to R723, R730, R733, R735 to R742, R745 to R748, Tables 15-5 to 15-9): a push appends the stamped entry or ends with
QUEUE_FULL; a pop gives the caller's oldest completion; the head that is next runs (R728), an unknown code completes with UNKNOWN_COMMAND; a BULK command that waited too long ends with
QUEUE_FULL. A message is placed in an empty mailbox of a permitted sender, and emptied by its receiver alone; a free Clasp read is owned, and only its owner's 0 frees it. -/
def Obligations.QueuesMailboxesClasps : Prop :=
  (∀ (s : State) (m q : Nat), (m = 1 ∨ m = 2) → q = s.regB Reg.QUE_ENQ_CTL_QUEUE 0 m → q < 16 →
    ((s.ring q).length < s.depth q → Runs (.queEnq m) s (fun t => t.ring q = s.ring q ++ [{ commandEntry m (s.queBuf m) with seq := s.seqOf q }] ∧
      t.regB Reg.QUE_ENQ_CTL_STATUS 0 m = stOK ∧ t.regB Reg.QUE_ENQ_SEQ_SEQ 0 m = low 32 (s.seqOf q) ∧ (∀ p, p ≠ q → t.ring p = s.ring p) ∧ Only [.que, .regs] s t)) ∧
    (s.depth q ≤ (s.ring q).length → Runs (.queEnq m) s (fun t => t.regB Reg.QUE_ENQ_CTL_STATUS 0 m = stFULL ∧ FieldsKept [Reg.QUE_ENQ_CTL_STATUS] s t ∧ Only [.regs] s t))) ∧
  (∀ (s : State) (m q : Nat), (m = 1 ∨ m = 2) → q = s.regB Reg.QUE_DEQ_CTL_QUEUE 0 m → 16 ≤ q → q < 32 →
    (∀ e, (s.ring q).find? (fun x => x.flags % 8 == m) = some e → Runs (.queDeq m) s (fun t => t.ring q = (s.ring q).erase e ∧ t.queBuf m = e.bytes ∧
      t.regB Reg.QUE_DEQ_CTL_STATUS 0 m = stOK ∧ Only [.que, .regs] s t)) ∧
    ((∀ x ∈ s.ring q, x.flags % 8 ≠ m) → Runs (.queDeq m) s (fun t => t.queBuf m = List.replicate 64 0 ∧ t.regB Reg.QUE_DEQ_CTL_STATUS 0 m = stOK ∧ Only [.regs] s t))) ∧
  (∀ (s : State) (q : Fin 16) (e : Entry) (l : List Entry), s.ring q.val = e :: l →
    (s.takesNext q.val = true →
      (∀ c, cmdRow q.val e.code = some c → c.level ≤ s.levelOf e.master → ¬ (s.isStandby = true ∧ standbyRefuses q.val e.code = true) → s.targetOff c.block e = false →
        Runs (.queueTake q) s (fun t => t.ring q.val = l ∧ (∃ r, t.que.running = s.que.running ++ [r] ∧ r.ring = q.val ∧ r.entry = e ∧ r.level = s.levelOf e.master ∧ r.takenAt = s.now ∧
          r.started = false) ∧ Raised q.val t ∧ t.regI Reg.QUE_TAKEN_SEQ q.val = low 32 e.seq ∧ Only [.que, .regs, .evt] s t)) ∧
      (cmdRow q.val e.code = none → Runs (.queueTake q) s (fun t => t.ring q.val = l ∧ (∃ r, r.ring = q.val ∧ r.entry = e ∧ Completed r blkQUE stUNKNOWN 0xF1 [] t) ∧
        Only [.que, .regs, .evt] s t)) ∧
      (∀ c, cmdRow q.val e.code = some c → s.levelOf e.master < c.level → Runs (.queueTake q) s (fun t => t.ring q.val = l ∧
        (∃ r, r.ring = q.val ∧ r.entry = e ∧ Completed r c.block stPOLICY c.cause [] t) ∧ Only [.que, .regs, .evt] s t))) ∧
    (s.takesNext q.val = false → Runs (.queueTake q) s (fun t => t = s))) ∧
  (∀ (s : State) (q : Fin 16) (r : Running) (c : CmdRow), s.que.running = [r] → r.ring = q.val → r.started = false → q.val < 14 → q.val ≠ 4 → q.val ≠ 5 → cmdRow q.val r.entry.code = some c →
    c.cls = .bulk →
    (r.takenAt + 1000 * s.reg Reg.QUE_CFG_BULK_WAIT ≤ s.now → Runs (.queueBulkWaitExpiry q) s (fun t => Completed r c.block stFULL 0xF0 [] t ∧ Only [.que, .regs, .evt] s t)) ∧
    (s.now < r.takenAt + 1000 * s.reg Reg.QUE_CFG_BULK_WAIT → Runs (.queueBulkWaitExpiry q) s (fun t => t = s))) ∧
  (∀ (s : State) (r : Running), s.running 0 1 = some r → Runs .sysInfo s (fun t =>
    Completed r blkSYS stOK 0 (s.regBytes Reg.SYS_ID_STEPPING 0 ++ leBytes 8 s.devnum ++ s.regBytes Reg.SYS_IMG_GEN_GEN 0 ++ leBytes 1 (ofBool (s.tsu.role == .active))) t ∧
    Only [.que, .regs, .evt] s t)) ∧
  (∀ (s : State) (r : Running), s.running 0 4 = some r → Runs .ping s (fun t => Completed r blkSYS stOK 0 [] t ∧ Only [.que, .regs, .evt] s t)) ∧
  (∀ (s : State) (r : Running), s.running 0 3 = some r → r.started = false →
    (r.level = 3 → s.jnl.foreign_ = false → s.jnl.noNand = false → s.jnl.q46.length < 256 →
      Runs .timeSet s (fun t => t.rtcMs = some (r.num 0 6) ∧ (∃ n, t.jnl.q46 = s.jnl.q46 ++ [n] ∧ n.typ = 7 ∧
        n.payload = fit 64 (leBytes 6 s.timeForm ++ leBytes 6 (r.num 0 6) ++ leBytes 1 r.entry.master)) ∧
        (∃ w ∈ t.jnl.recWaits, w.ring = 0 ∧ w.cmd = r.entry.seq ∧ w.typ = 7) ∧ Only [.tim, .jnl, .que, .evt] s t)) ∧
    (∀ x, s.rtcMs = some x → r.num 0 6 < x → r.level < 3 → Runs .timeSet s (fun t => Completed r blkAON stPOLICY 0 [] t ∧ t.tim = s.tim ∧ Only [.que, .regs, .evt] s t))) ∧
  (∀ (s : State) (r : Running), s.running 13 1 = some r →
    (r.num 0 1 = r.num 1 1 → r.num 0 1 < 16 → Runs .queStatus s (fun t =>
      Completed r blkQUE stOK 0 (s.regBytes Reg.QUE_RING_STAT_FILL (r.num 0 1) ++ s.regBytes Reg.QUE_TAKEN_SEQ (r.num 0 1)) t ∧ Only [.que, .regs, .evt] s t)) ∧
    ((r.num 1 1 < r.num 0 1 ∨ 40 ≤ r.num 1 1) → Runs .queStatus s (fun t => Completed r blkQUE stPOLICY 0 [] t ∧ Only [.que, .regs, .evt] s t))) ∧
  (∀ (s : State) (r : Running) (x : Bool) (st c : BitVec 8) (d : List Byte), s.que.running = [r] → r.ring = (if x then 15 else 14) →
    Runs (.firmwareCommand x st c d) s (fun t => Completed r blkSYS st.toNat c.toNat d t ∧ Only [.que, .regs, .evt] s t)) ∧
  (∀ (s : State) (m d n : Nat), s.mayWriteField m Reg.MBX_TX_CTL_GO = true → s.mbx.boxes.length = 8 → d = s.regB Reg.MBX_TX_CTL_DEST 0 m → n = s.regB Reg.MBX_TX_CTL_LEN 0 m → 0 < n → n ≤ 16 →
    d < 4 → m ∈ boxSenders d →
    (s.box d = none → Runs (.mailboxSend m) s (fun t =>
      t.box d = some { sender := m, words := (List.range n).map (fun w => s.regB Reg.MBX_TX_DATA w m), placedAt := s.now } ∧ (∀ k, k ≠ d → t.box k = s.box k) ∧ Raised (48 + d) t ∧
      t.regB Reg.MBX_TX_CTL_STATUS 0 m = stOK ∧ Only [.mbx, .regs, .evt] s t)) ∧
    (∀ x, s.box d = some x → Runs (.mailboxSend m) s (fun t => t.mbx = s.mbx ∧ t.regB Reg.MBX_TX_CTL_STATUS 0 m = stFULL ∧ Only [.regs] s t))) ∧
  (∀ (s : State) (m : Nat) (k : Fin 8) (x : Message), s.box k.val = some x → s.mbx.boxes.length = 8 →
    (boxReceiver k.val = m → x.sender ≠ 4 → (m = 7 → s.jtagLocked = false) → Runs (.mailboxAck m k) s (fun t => t.box k.val = none ∧ (∀ j, j ≠ k.val → t.box j = s.box j) ∧ Raised (48 + k.val) t ∧ Only [.mbx, .evt] s t)) ∧
    (boxReceiver k.val ≠ m → Runs (.mailboxAck m k) s (fun t => t = s))) ∧
  (∀ s : State, s.crossing 1 (s.reg Reg.MBX_CFG_CROSS_US) = true → s.mbx.cross.getLsbD 1 = false →
    Runs (.mailboxCrossing 1) s (fun t => t.mbx.cross.getLsbD 1 = true ∧ t.eventPending 1 57 = true ∧ t.eventPending 3 57 = true ∧ t.evt.app = s.evt.app ∧ t.mbx.boxes = s.mbx.boxes ∧
      Only [.mbx, .evt] s t)) ∧
  (∀ (s : State) (i : Fin 4), s.crossing i.val (s.reg Reg.MBX_CFG_CROSS_US) = false → Runs (.mailboxCrossing i) s (fun t => t = s)) ∧
  (∀ (s : State) (m : Nat) (k : Fin 32), (m = 1 ∨ m = 2 ∨ m = 3) →
    (s.regI Reg.CLASP_OWNER k.val = 0 → Runs (.claspRead m k) s (fun t => t.regI Reg.CLASP_OWNER k.val = m ∧ (∀ j, j < 32 → j ≠ k.val → t.regI Reg.CLASP_OWNER j = s.regI Reg.CLASP_OWNER j) ∧
      FieldsKept [Reg.CLASP_OWNER] s t ∧ Only [.regs] s t)) ∧
    (s.regI Reg.CLASP_OWNER k.val ≠ 0 → Runs (.claspRead m k) s (fun t => t = s)) ∧
    (s.regI Reg.CLASP_OWNER k.val = m → Runs (.claspWrite m k 0) s (fun t => t.regI Reg.CLASP_OWNER k.val = 0 ∧ Raised (60 + k.val / 8) t ∧
      (∀ j, j < 32 → j ≠ k.val → t.regI Reg.CLASP_OWNER j = s.regI Reg.CLASP_OWNER j) ∧ FieldsKept [Reg.CLASP_OWNER] s t ∧ Only [.regs, .evt] s t)) ∧
    (∀ v, (v ≠ 0 ∨ s.regI Reg.CLASP_OWNER k.val ≠ m) → Runs (.claspWrite m k v) s (fun t => t = s)) ∧
    Runs (.claspReleaseHost m) s (fun t => (∀ j, j < 32 → t.regI Reg.CLASP_OWNER j = if s.regI Reg.CLASP_OWNER j = 3 then 0 else s.regI Reg.CLASP_OWNER j) ∧
      FieldsKept [Reg.CLASP_OWNER] s t ∧ Only [.regs, .evt] s t))

/-! ## Tsudon and the pair (chapter 16) -/

/-- A frame that is not sequenced has been sent as the next of its direction (R766, R767): sealed under K_LINK with the present TXC, which rises. -/
def LinkSent (typ : Nat) (payload : List Byte) (s t : State) : Prop :=
  t.tsu.sent = [sealFrame s.tsu.kLink s.tsu.secondary { typ := typ, flags := 0, lseq := 0, ack := s.tsu.lseqRx, txc := s.tsu.txc, payload := payload }] ∧ t.tsu.txc = s.tsu.txc + 1

/-- Nothing waits for the partner: no mirror item, mailbox message, range, session of it or of this device's own. -/
def PairQuiet (s : State) : Prop :=
  s.tsu.items = [] ∧ s.box 4 = none ∧ s.box 5 = none ∧ s.tsu.peerSess = none ∧ s.tsu.rangeGo = [] ∧ s.glt.sess = none ∧ s.jnl.progOk = false ∧ s.lkt.flushed = [] ∧ s.jnl.prog = [] ∧
  s.jnl.flushes = [] ∧ s.tsu.jnlMacks = []

/-- Tier 2. The link and the roles (R764 to R780, R786, Tables 16-1 to 16-4): alignment begins keying with a fresh N and HELLO; a HELLO of another device or of the same PAIR_ID is refused,
the right one forms K_LINK; CONFIRM brings the link UP, one whose tag fails is refused; a bad CRC is counted, a bad tag takes the link DOWN; unacknowledged frames are sent again. The partner
is lost after its time; a STANDBY takes over when the line has been high, steps back when a test finds it low; HANDOVER and RST_PARTNER act on the ACTIVE of a healthy pair alone. -/
def Obligations.PairLink : Prop :=
  (∀ s : State, s.tsu.link = .training → s.rngServes = false → Runs .linkAligned s (fun t => t.tsu = { s.tsu with keyWaits := true } ∧ Only [.tsu] s t)) ∧
  (∀ s : State, s.tsu.link = .training → s.rngServes = true → Runs .linkAligned s (fun t => t.tsu.link = .keying ∧ t.tsu.ownN = (s.random 16).1 ∧ t.tsu.kLink = [] ∧
    t.tsu.sent = [sealFrame [] s.tsu.secondary { typ := 1, flags := 0, lseq := 0, ack := s.tsu.lseqRx, txc := 0, payload := t.helloPayload }] ∧ Only [.tsu, .crypto, .fresh] s t)) ∧
  (∀ s : State, s.tsu.link ≠ .training → Runs .linkAligned s (fun t => t = s)) ∧
  (∀ (s : State) (b : List Byte) (f : Frame), s.tsu.link = .keying → openFrame s.tsu.kLink (!s.tsu.secondary) b = .ok f → f.typ = 1 → f.payload.length = 32 →
    (ofBe (slice f.payload 0 8) ≠ s.peerDev → Runs (.hello b) s (fun t => t.reg Reg.TSU_STAT_REFUSE = 1 ∧ Raised 187 t ∧ t.tsu = s.tsu ∧ Only [.regs, .evt] s t)) ∧
    (ofBe (slice f.payload 0 8) = s.peerDev → f.num 28 1 = ofBool s.tsu.secondary →
      Runs (.hello b) s (fun t => t.reg Reg.TSU_STAT_REFUSE = 2 ∧ Raised 187 t ∧ t.tsu = s.tsu ∧ Only [.regs, .evt] s t)) ∧
    (∀ z : List Byte, ofBe (slice f.payload 0 8) = s.peerDev → f.num 28 1 ≠ ofBool s.tsu.secondary → s.pkeFree = true → s.slotCause 253 useECDH [2] 0 = 0 →
      (s.slot 253).count < (s.slot 253).ceiling → ecdh (ofBe (s.slot 253).key) s.peerKey = some z →
      Runs (.hello b) s (fun t => t.tsu.peerN = slice f.payload 8 16 ∧ t.tsu.link = .keying ∧
        t.tsu.kLink = (if s.tsu.secondary then linkKey z (slice f.payload 8 16) s.tsu.ownN (slice f.payload 0 8) (beBytes 8 s.devnum)
          else linkKey z s.tsu.ownN (slice f.payload 8 16) (beBytes 8 s.devnum) (slice f.payload 0 8)) ∧
        ∃ c, t.tsu.sent.getLast? = some (sealFrame t.tsu.kLink s.tsu.secondary c) ∧ c.typ = 2 ∧ c.payload = [])) ∧
    (ofBe (slice f.payload 0 8) = s.peerDev → f.num 28 1 ≠ ofBool s.tsu.secondary → s.flag Reg.PKE_CTRL_EN = true → s.flag Reg.PKE_STAT_KAT_FAIL = false → s.pkeFree = false →
      Runs (.hello b) s (fun t => t.tsu = { s.tsu with helloRx := some f.payload } ∧ Only [.tsu] s t))) ∧
  (∀ s : State, s.tsu.link = .keying → s.reg Reg.TSU_STAT_REFUSE ≠ 0 → s.tsu.helloAt + 1000000 ≤ s.now →
    Runs .helloRepeat s (fun t => LinkSent 1 s.helloPayload s t ∧ t.tsu.helloAt = s.now ∧ Only [.tsu] s t)) ∧
  (∀ (s : State) (b : List Byte), s.tsu.link = .keying → s.tsu.kLink ≠ [] →
    (∀ f, openFrame s.tsu.kLink (!s.tsu.secondary) b = .ok f → f.typ = 2 →
      Runs (.confirm b) s (fun t => t.tsu.link = .up ∧ t.tsu.lseqRx = 0 ∧ t.tsu.partnerLost = false ∧ t.tsu.lastRx = s.now ∧ t.reg Reg.TSU_STAT_REFUSE = 0)) ∧
    (openFrame s.tsu.kLink (!s.tsu.secondary) b = .error .tag →
      Runs (.confirm b) s (fun t => t.reg Reg.TSU_STAT_REFUSE = 4 ∧ Raised 187 t ∧ t.tsu = s.tsu ∧ Only [.regs, .evt] s t))) ∧
  (∀ (s : State) (b : List Byte), (s.tsu.link = .keying ∨ s.tsu.link = .up) →
    (openFrame s.tsu.kLink (!s.tsu.secondary) b = .error .crc →
      Runs (.tsuFrameBad b) s (fun t => t.reg Reg.TSU_ERR_CRC = satInc Reg.TSU_ERR_CRC.width (s.reg Reg.TSU_ERR_CRC) ∧ FieldsKept [Reg.TSU_ERR_CRC] s t ∧ Only [.regs] s t)) ∧
    (openFrame s.tsu.kLink (!s.tsu.secondary) b = .error .tag → s.tsu.kLink ≠ [] → s.tsu.link = .up →
      Runs (.tsuFrameBad b) s (fun t => t.tsu.link = .down ∧ t.tsu.kLink = [] ∧ t.tsu.retrainAt = some (s.now + 100000) ∧
        (s.tsu.partnerLost = true → Raised 187 t ∧ t.reg Reg.TSU_ERR_TAG = satInc Reg.TSU_ERR_TAG.width (s.reg Reg.TSU_ERR_TAG) ∧ Only [.tsu, .regs, .evt] s t)))) ∧
  (∀ (s : State) (x : Nat), s.tsu.link = .down → s.tsu.retrainAt = some x → s.flag Reg.TSU_CTRL_EN = true → x ≤ s.now →
    Runs .linkRetrain s (fun t => t.tsu = { s.tsu with link := .training, retrainAt := none } ∧ Only [.tsu] s t)) ∧
  (∀ s : State, s.tsu.link = .up → Runs .linkAlignmentLost s (fun t => t.tsu.link = .down ∧ t.tsu.kLink = [] ∧ t.tsu.unacked = [])) ∧
  (∀ (s : State) (x : Frame), s.tsu.link = .up → s.tsu.unacked = [x] → s.tsu.ackAt + 45 ≤ s.now →
    Runs .linkRetransmit s (fun t => t.tsu.sent = [sealFrame s.tsu.kLink s.tsu.secondary { x with ack := s.tsu.lseqRx, txc := s.tsu.txc }] ∧ t.tsu.txc = s.tsu.txc + 1 ∧
      t.tsu.unacked = [x] ∧ t.reg Reg.TSU_ERR_RETRY = satInc Reg.TSU_ERR_RETRY.width (s.reg Reg.TSU_ERR_RETRY) ∧ Only [.tsu, .regs] s t)) ∧
  (∀ (s : State) (b : List Byte) (f : Frame), Arrives 3 b f s →
    Runs (.heartbeat b) s (fun t => t.tsu.hb.role = f.num 0 1 ∧ t.tsu.hb.state = f.num 1 1 ∧ t.tsu.hb.ports = f.num 2 1 ∧ t.tsu.hb.backlogFree = f.num 3 2 ∧ t.tsu.hb.timebase = f.num 5 6 ∧
      t.tsu.hb.fret = f.num 11 4 ∧ t.tsu.hb.crdGen = f.num 15 4 ∧ t.tsu.hb.jnlNext = f.num 19 6 ∧ t.tsu.hb.mseqApplied = f.num 25 4 ∧ t.tsu.lastRx = s.now ∧ Only [.tsu, .regs, .evt] (heardOf 3 b s) t)) ∧
  (∀ s : State, s.tsu.link = .up → Runs .heartbeatSend s (fun t => LinkSent 3 s.heartbeat s t ∧ Only [.tsu] s t)) ∧
  (∀ s : State, s.paired = true → (s.tsu.link ≠ .up ∨ s.tsu.lastRx + 4800 ≤ s.now) → s.tsu.partnerLost = false → PairQuiet s →
    Runs .partnerLost s (fun t => t.tsu.partnerLost = true ∧ t.tsu.synced = false ∧ t.tsu.stage = 0 ∧ Raised 184 t ∧ t.reg Reg.TSU_HB_LOST = satInc Reg.TSU_HB_LOST.width (s.reg Reg.TSU_HB_LOST) ∧
      t.pins = s.pins ∧ t.mem = s.mem ∧ t.gov = s.gov)) ∧
  (∀ s : State, s.tsu.link = .up → s.now < s.tsu.lastRx + 4800 → Runs .partnerLost s (fun t => t = s)) ∧
  (∀ (s : State) (l : Bool), s.paired = true → s.tsu.secondary = true → s.tsu.role = .active → s.tsu.drivesArb = true → s.tsu.testsDone = 0 → s.tsu.claimedAt + 1000 ≤ s.now →
    s.gov.ticket = none → s.vrd.pending = [] →
    (l = false → Runs (.arbTest l) s (fun t => t.tsu = { s.tsu with testsDone := 1 } ∧ Only [.tsu] s t)) ∧
    (l = true → Runs (.arbTest l) s (fun t => t.tsu.role = .standby ∧ t.tsu.drivesArb = false ∧ t.tsu.arbHigh = false ∧ t.gov.rel = none ∧ Raised 186 t ∧ t.priv.elevated = none ∧ t.priv.driver = none ∧
      (s.gov.rel ≠ none → Raised 141 t ∧ t.pins.relA ≠ some true ∧ t.reg Reg.GOV_LAST_END = 6) ∧ Only [.tsu, .gov, .pins, .priv, .lkt, .evt, .regs] s t))) ∧
  (∀ (s : State) (h : Bool), s.tsu.drivesArb = false → s.tsu.arbHigh ≠ h →
    Runs (.pairArbChange h) s (fun t => t.tsu = { s.tsu with arbHigh := h, arbHighSince := s.now } ∧ Only [.tsu] s t)) ∧
  (∀ s : State, s.paired = true → s.tsu.role = .standby → s.tsu.drivesArb = false → s.tsu.arbHigh = true → s.tsu.arbHighSince + 900 ≤ s.now → s.mainUp = true → s.pins.wpLow = false →
    s.lkt.worn = false → (∃ x, s.ringOf 1 = some x ∧ x.worn = false) → s.lktRoom [.ring 1 (s.ringValue 1 + 65536)] = true →
    Runs .pairArbHigh s (fun t => t.tsu.role = .active ∧ t.tsu.drivesArb = true ∧ t.tsu.arbHigh = false ∧ t.tsu.claimedAt = s.now ∧ Raised 186 t ∧
      t.ringValue 1 = s.ringValue 1 + (if s.tsu.handoverHeard then 0 else 65536) ∧ t.pins = s.pins)) ∧
  (∀ s : State, (s.tsu.role ≠ .standby ∨ s.tsu.arbHigh = false ∨ s.now < s.tsu.arbHighSince + 900) → Runs .pairArbHigh s (fun t => t = s)) ∧
  (∀ (s : State) (m : Nat), s.mayWriteField m Reg.TSU_CTL_HANDOVER = true → s.tsu.handover = none →
    (s.paired = true → s.tsu.role = .active → s.pairDegraded = false → s.tsu.items ≠ [] →
      Runs (.handoverReq m) s (fun t => t.tsu = { s.tsu with handover := some s.now } ∧ t.reg Reg.TSU_CTL_HANDOVER = 1 ∧ FieldsKept [Reg.TSU_CTL_HANDOVER] s t ∧ Only [.tsu, .regs] s t)) ∧
    (s.paired = true → s.tsu.role = .active → s.pairDegraded = false → s.tsu.items = [] → s.tsu.link = .up →
      Runs (.handoverReq m) s (fun t => t.tsu.role = .standby ∧ t.tsu.drivesArb = false ∧ t.tsu.handover = none ∧ t.reg Reg.TSU_CTL_STATUS = stOK ∧ t.reg Reg.TSU_CTL_HANDOVER = 0 ∧ Raised 186 t ∧
        t.gov.rel = none ∧ t.gov.ticket = none ∧ t.vrd.pending = [] ∧ t.priv.driver = none ∧ (s.gov.rel ≠ none → Raised 141 t ∧ t.pins.relA ≠ some true))) ∧
    ((s.paired = false ∨ s.tsu.role ≠ .active ∨ s.pairDegraded = true) →
      Runs (.handoverReq m) s (fun t => t.reg Reg.TSU_CTL_STATUS = stPOLICY ∧ FieldsKept [Reg.TSU_CTL_STATUS] s t ∧ Only [.regs] s t))) ∧
  (∀ (s : State) (x : Nat), s.tsu.handover = some x → x + 100000 ≤ s.now →
    Runs .handoverTimeout s (fun t => t.tsu = { s.tsu with handover := none } ∧ t.reg Reg.TSU_CTL_STATUS = stFULL ∧ t.reg Reg.TSU_CTL_HANDOVER = 0 ∧ Only [.tsu, .regs] s t)) ∧
  (∀ (s : State) (b : List Byte) (f : Frame), Arrives 0x40 b f s → f.num 0 1 = 2 → (heardOf 0x40 b s).isStandby = true →
    Runs (.controlHandover b) s (fun t => t.tsu = { (heardOf 0x40 b s).tsu with handoverHeard := true } ∧ Only [.tsu] (heardOf 0x40 b s) t)) ∧
  (∀ (s : State) (m : Nat), s.mayWriteField m Reg.TSU_CTL_RST_PARTNER = true →
    (s.tsu.drivesArb = true → s.tsu.lastRx + 50000 ≤ s.now → (∀ x, s.tsu.lastPeerReset = some x → x + 5000000 ≤ s.now) →
      Runs (.rstPartner m) s (fun t => t.tsu = { s.tsu with lastPeerReset := some s.now, resetDriveUntil := s.now + 100 } ∧ t.reg Reg.TSU_CTL_STATUS = stOK ∧ Raised 187 t ∧
        Only [.tsu, .regs, .evt] s t)) ∧
    ((s.tsu.drivesArb = false ∨ s.now < s.tsu.lastRx + 50000) →
      Runs (.rstPartner m) s (fun t => t.reg Reg.TSU_CTL_STATUS = stPOLICY ∧ FieldsKept [Reg.TSU_CTL_STATUS] s t ∧ Only [.regs] s t))) ∧
  (∀ (s : State) (m : Nat), s.mayWriteField m Reg.TSU_ERR_CLR_CLR = true →
    Runs (.tsuErrClr m) s (fun t => t.reg Reg.TSU_ERR_CRC = 0 ∧ t.reg Reg.TSU_ERR_TAG = 0 ∧ t.reg Reg.TSU_ERR_RETRY = 0 ∧ t.reg Reg.TSU_ERR_MB_LOST = 0 ∧
      FieldsKept [Reg.TSU_ERR_CRC, Reg.TSU_ERR_TAG, Reg.TSU_ERR_RETRY, Reg.TSU_ERR_MB_LOST] s t ∧ Only [.regs] s t))

/-- Tier 2. Mirroring and the partner's work (R474, R740, R781 to R784, R788, R790 to R797, R801, Tables 16-4 to 16-6): an item with the next MSEQ is applied once, any other is not; an
acknowledged item leaves the list, one past its time loses the partner; messages, records, sessions, bursts and ranges of the partner take their places; a resynchronisation stage ends only
when everything of it is acknowledged, and the last one makes the pair synchronous. -/
def Obligations.PairMirroring : Prop :=
  (∀ (s : State) (b : List Byte) (f : Frame) (g : Nat), Arrives 0x10 b f s →
    (f.num 0 4 = (heardOf 0x10 b s).tsu.mseqApplied + 1 → f.items = [(g, 0, f.num 12 8)] → bit f.flags 1 = false → g < 0x1000 → g ≠ 8 → (heardOf 0x10 b s).tsu.role ≠ .active → (heardOf 0x10 b s).pins.wpLow = false → (heardOf 0x10 b s).lkt.worn = false →
      (heardOf 0x10 b s).lktRoom [.group g (f.num 12 8)] = true → (∀ w ∈ (heardOf 0x10 b s).lkt.writes, w.writer ≠ .mirror (f.num 0 4)) →
      Runs (.mirrorLkt b) s (fun t => t.group g = f.num 12 8 ∧ (∀ h, h ≠ g → t.group h = (heardOf 0x10 b s).group h) ∧ t.tsu.mseqApplied = f.num 0 4 ∧ t.pins = (heardOf 0x10 b s).pins ∧
        Only [.tsu, .que, .lkt, .mem, .evt, .regs] (heardOf 0x10 b s) t)) ∧
    (f.num 0 4 ≠ (heardOf 0x10 b s).tsu.mseqApplied + 1 → Runs (.mirrorLkt b) s (fun t => Only [.regs, .evt] (heardOf 0x10 b s) t))) ∧
  (∀ (s : State) (b : List Byte) (f : Frame), Arrives 0x11 b f s → f.num 0 4 = (heardOf 0x11 b s).tsu.mseqApplied + 1 → f.num 4 2 = 1 → bit (f.num 6 2) 0 = false → (heardOf 0x11 b s).tsu.stage ≠ 1 →
    (heardOf 0x11 b s).tsu.search = none → (heardOf 0x11 b s).jnl.mounted = true → (heardOf 0x11 b s).jnl.foreign_ = false → (heardOf 0x11 b s).jnl.noNand = false → (heardOf 0x11 b s).jnl.top ≤ f.num 8 6 →
    Runs (.mirrorJnl b) s (fun t => t.jnl.open_ = (heardOf 0x11 b s).jnl.open_ ++ [parseRec (slice f.payload 8 128) (heardOf 0x11 b s).jnl.slotNext (heardOf 0x11 b s).now] ∧ t.jnl.next = f.num 8 6 + 1 ∧
      t.jnl.chain = slice (slice f.payload 8 128) 80 32 ∧ t.jnl.nand = (heardOf 0x11 b s).jnl.nand ∧ t.tsu.mseqApplied = f.num 0 4 ∧ Only [.jnl, .tsu, .que, .regs, .evt] (heardOf 0x11 b s) t)) ∧
  (∀ (s : State) (b : List Byte) (f : Frame), Arrives 0x12 b f s → f.num 0 4 = (heardOf 0x12 b s).tsu.mseqApplied + 1 → f.num 4 4 = 0 → f.payload.length < 200 →
    Runs (.mirrorCrd b) s (fun t => t.tsu.crdRx = f.payload.drop 8 ∧ t.tsu.mseqApplied = f.num 0 4 ∧ t.crd.generation = (heardOf 0x12 b s).crd.generation ∧ t.crd.bank = (heardOf 0x12 b s).crd.bank ∧ t.nor = (heardOf 0x12 b s).nor ∧
      Only [.crd, .tsu, .que, .regs, .evt] (heardOf 0x12 b s) t)) ∧
  (∀ (s : State) (b : List Byte) (f : Frame), Arrives 0x13 b f s → f.num 4 1 = stOK → (heardOf 0x13 b s).jnl.progOk = false → (heardOf 0x13 b s).lkt.flushed = [] → (heardOf 0x13 b s).jnl.prog = [] → (heardOf 0x13 b s).crd.learn = none →
    (heardOf 0x13 b s).tsu.setSent = none → (heardOf 0x13 b s).tsu.handover = none → (∃ x ∈ (heardOf 0x13 b s).tsu.items, x.mseq = f.num 0 4) →
    Runs (.mack b) s (fun t => (∀ x, x ∈ t.tsu.items ↔ x ∈ (heardOf 0x13 b s).tsu.items ∧ x.mseq ≠ f.num 0 4) ∧ t.tsu.mackDone = max (heardOf 0x13 b s).tsu.mackDone (f.num 0 4) ∧ t.lkt = (heardOf 0x13 b s).lkt ∧
      Only [.tsu, .que, .regs, .evt] (heardOf 0x13 b s) t)) ∧
  (∀ (s : State) (x : MirrorItem), s.tsu.items = [x] → s.lkt.writes = [] →
    (x.deadline ≤ s.now → PairQuiet { s with tsu := { s.tsu with items := [] } } → s.tsu.partnerLost = false → s.crd.learn = none → s.tsu.setSent = none →
      Runs .mackDeadline s (fun t => t.tsu.items = [] ∧ t.tsu.partnerLost = true ∧ Raised 184 t ∧ t.mem = s.mem)) ∧
    (s.now < x.deadline → Runs .mackDeadline s (fun t => t = s))) ∧
  (∀ (s : State) (b : List Byte) (f : Frame), Arrives 0x20 b f s → f.num 0 1 ≤ 1 → 0 < f.num 1 1 → f.num 1 1 ≤ 16 → (heardOf 0x20 b s).mbx.boxes.length = 8 → (heardOf 0x20 b s).box (f.num 0 1) = none →
    Runs (.mailbox b) s (fun t => t.box (f.num 0 1) = some { sender := 4, words := (List.range (f.num 1 1)).map (fun i => f.num (4 + 4 * i) 4), placedAt := (heardOf 0x20 b s).now } ∧
      (∀ k, k ≠ f.num 0 1 → t.box k = (heardOf 0x20 b s).box k) ∧ Raised (48 + f.num 0 1) t ∧ Only [.mbx, .evt, .regs] (heardOf 0x20 b s) t)) ∧
  (∀ (s : State) (b : List Byte) (f : Frame), Arrives 0x21 b f s → (heardOf 0x21 b s).isStandby = false → (heardOf 0x21 b s).jnl.foreign_ = false → (heardOf 0x21 b s).jnl.noNand = false → (heardOf 0x21 b s).jnl.q46.length < 256 →
    Runs (.record b) s (fun t => t.jnl = { (heardOf 0x21 b s).jnl with q46 := (heardOf 0x21 b s).jnl.q46 ++ [{ typ := f.num 0 2, master := 4, block := f.num 2 1, payload := slice f.payload 4 64 }], q46Seq := low 32 ((heardOf 0x21 b s).jnl.q46Seq + 1) } ∧ Raised 46 t ∧
      Only [.jnl, .evt, .regs] (heardOf 0x21 b s) t)) ∧
  (∀ (s : State) (b : List Byte) (f : Frame), Arrives 0x30 b f s → (heardOf 0x30 b s).isStandby = true → (heardOf 0x30 b s).tsu.peerSess = none → f.payload.length = 8 →
    Runs (.session b) s (fun t => t.tsu.peerSess = some (f.num 0 4, f.num 4 2, f.num 6 1, f.num 7 1) ∧ t.uwb = (heardOf 0x30 b s).uwb ∧ Only [.tsu, .regs, .evt] (heardOf 0x30 b s) t)) ∧
  (∀ (s : State) (b : List Byte) (f : Frame), Arrives 0x31 b f s → (heardOf 0x31 b s).isStandby = true →
    Runs (.burst b) s (fun t => t.lfa = { (heardOf 0x31 b s).lfa with peerBursts := (heardOf 0x31 b s).lfa.peerBursts ++ [(low 16 (f.num 0 4 + 2 ^ 16 - (heardOf 0x31 b s).tsu.fretOfs), f.num 0 4, slice f.payload 4 16)] } ∧
      Only [.lfa, .regs, .evt] (heardOf 0x31 b s) t)) ∧
  (∀ (s : State) (b : List Byte) (f : Frame) (x : PeerBurst), Arrives 0x32 b f s → (heardOf 0x32 b s).tsu.bursts = [x] → x.valid = none → x.fret = low 16 (f.num 0 4) →
    Runs (.burstDone b) s (fun t => t.tsu = { (heardOf 0x32 b s).tsu with bursts := [{ x with valid := some (f.num 4 1 == 1) }] } ∧ Only [.tsu, .regs, .evt] (heardOf 0x32 b s) t)) ∧
  (∀ (s : State) (x : PeerBurst), s.tsu.bursts = [x] → x.valid = none → s.glt.sess = none →
    Runs .burstDoneTimeout s (fun t => t.tsu = { s.tsu with bursts := [{ x with valid := some false }] } ∧ Only [.tsu] s t)) ∧
  (∀ (s : State) (b : List Byte) (f : Frame) (p : Nat × Nat × Nat × Nat), Arrives 0x33 b f s → (heardOf 0x33 b s).tsu.peerSess = some p → (heardOf 0x33 b s).ukeys p.1 (f.num 0 2) ≠ none → (heardOf 0x33 b s).uwb.waiting.length < 8 →
    Runs (.rangeGo b) s (fun t => t.uwb = { (heardOf 0x33 b s).uwb with waiting := (heardOf 0x33 b s).uwb.waiting ++ [{ session := p.1, handle := f.num 0 2, go := some (f.num 2 1, f.num 4 4) }] } ∧
      Only [.uwb, .regs, .evt] (heardOf 0x33 b s) t)) ∧
  (∀ (s : State) (b : List Byte) (f : Frame), Arrives 0x34 b f s → (heardOf 0x34 b s).isStandby = false → 4 ≤ f.num 6 1 → f.num 6 1 ≤ 7 → (heardOf 0x34 b s).tsu.rangeGo = [] →
    Runs (.range b) s (fun t => (∃ e, t.newest 41 = some e ∧ e.payload = fit 48 (f.payload.take 48) ∧ e.block = blkTSU) ∧ Raised 41 t ∧ Only [.que, .regs, .evt] (heardOf 0x34 b s) t)) ∧
  (∀ (s : State) (b r : List Byte) (f : Frame) (g : GSess), Arrives 0x35 b f s → (heardOf 0x35 b s).glt.sess = some g → (heardOf 0x35 b s).isStandby = false →
    r = (f.payload.drop 6).take (((f.payload.drop 6).headD 0).toNat + 3) → (uplink g.tag r).1 = true →
    ((uplink g.tag r).2.1 = 0x83 → Runs (.uhfFwd b) s (fun t => t = s.degradedEdge ((heardOf 0x35 b s).proofFrame (f.num 0 4) r))) ∧
    ((uplink g.tag r).2.1 = 0x85 → Runs (.uhfFwd b) s (fun t => t = s.degradedEdge ((heardOf 0x35 b s).reportFrame (f.num 0 4) r))) ∧
    ((uplink g.tag r).2.1 = 0x81 → g.single = none → Runs (.uhfFwd b) s (fun t => t = s.degradedEdge (((heardOf 0x35 b s).setSess { g with noise := false }).handleFrame (f.num 0 4) r))) ∧
    ((uplink g.tag r).2.1 = 0x81 → g.single ≠ none → Runs (.uhfFwd b) s (fun t => t = s.degradedEdge (heardOf 0x35 b s)))) ∧
  (∀ (s : State) (b : List Byte) (f : Frame), Arrives 0x40 b f s →
    ((heardOf 0x40 b s).isStandby = true → f.num 0 1 = 3 → f.num 1 1 = 5 → Runs (.controlResync b) s (fun t => t.tsu = { (heardOf 0x40 b s).tsu with stage := 0, synced := true, fieldSeqs := [] } ∧ Only [.tsu, .regs, .evt] (heardOf 0x40 b s) t)) ∧
    ((heardOf 0x40 b s).isStandby = false → f.num 0 1 = 4 → f.num 1 1 = 1 → Runs (.controlResync b) s (fun t => t.tsu = { (heardOf 0x40 b s).tsu with stage := 0, synced := false } ∧ Raised 187 t ∧ Only [.tsu, .regs, .evt] (heardOf 0x40 b s) t))) ∧
  (∀ s : State, s.tsu.role = .active → s.tsu.link = .up →
    (s.tsu.items = [] → s.tsu.outbox = [] → s.tsu.unacked = [] →
      (s.tsu.stage = 1 → Runs .resyncStageDone s (fun t => t.tsu.stage = 2 ∧ t.tsu.synced = s.tsu.synced)) ∧
      (s.tsu.stage = 3 → s.tsu.setWaits = false → s.tsu.setSent = none → Runs .resyncStageDone s (fun t => t.tsu.stage = 0 ∧ t.tsu.synced = true ∧ t.mem = s.mem ∧ t.crd = s.crd ∧
        (s.jnl.foreign_ = false → s.jnl.noNand = false → t.jnl.q7 = s.jnl.q7 ++ [{ typ := 0x4032, master := 1, block := 0x1F, payload := fit 64 (s.draw 64).1 }]) ∧
        Only [.tsu, .jnl, .fresh, .regs, .evt] s t))) ∧
    ((s.tsu.items ≠ [] ∨ s.tsu.outbox ≠ [] ∨ s.tsu.unacked ≠ []) → Runs .resyncStageDone s (fun t => t = s)))

/-- Tier 3. Tsudon frames (R767, R768, Tables 16-2, 16-3): for every link key and every frame whose header fields fit their places, opening what was sealed gives the frame back, HELLO or
sealed; the header of 20 bytes stands first and in clear, and the last four bytes are the CRC of all before. The bytes that a frame puts on the two lanes are all of them, in their order (R765). -/
def Obligations.FrameRoundTrip : Prop :=
  (∀ b : List Byte, joinLanes (splitLanes b).1 (splitLanes b).2 = b) ∧
  (∀ (k : List Byte) (d : Bool) (f : Frame), f.typ < 2 ^ 8 → f.flags < 2 ^ 8 → f.lseq < 2 ^ 32 → f.ack < 2 ^ 32 → f.txc < 2 ^ 64 →
    openFrame k d (sealFrame k d f) = .ok f ∧ (sealFrame k d f).take 20 = frameHead f ∧ (sealFrame k d f).length = f.payload.length + (if f.typ = 1 then 24 else 40) ∧
    (sealFrame k d f).drop (f.payload.length + (if f.typ = 1 then 20 else 36)) = leBytes 4 (crc32 ((sealFrame k d f).dropLast.dropLast.dropLast.dropLast)))

/-! ## Images, updates, recovery (chapter 17) -/

/-- An image of bytes b waits to be written to a bank (R810, R832, R834). -/
def ImageJob (k : Nat) (b : List Byte) (cmd : Option Nat) (s t : State) : Prop :=
  t.nor.jobs = s.nor.jobs ++ [{ area := .image k, data := b.take (imgLength b), cmd := cmd }]

/-- Tier 2. Boot, role, images (R772, R807 to R811, R822, R825, R831 to R837, R839, R853, Tables 17-6, 17-9): FW_READY ends the boot; the role follows PAIR_ARB; recovery and staging check the
image and write a valid one alone to the bank that does not run; an activation is refused with its cause or drains, and then resets the device or updates it live; a drain that lasts 2 s ends
with cause 10 and one of mode 1 whose HANDOVER has failed with cause 9 (log 118); a NOR job that fails is counted and reported; IMG_STATUS and the clear bits act on their registers. -/
def Obligations.ImagesAndUpdates : Prop :=
  (∀ s : State, s.pwr.phase = .boot →
    Runs (.fwReady 1) s (fun t => t.pwr.phase = .run ∧ (s.reg Reg.SYS_BOOT_SOURCE = 2 → t.reg Reg.SYS_FW_READY_READY = 1 ∧ t.reg Reg.SYS_BOOT_READY = 1 ∧
      (t.pins.bootStat = some 7 ∨ t.pins.bootStat = some 4) ∧ Only [.regs, .pins, .pwr] s t))) ∧
  (∀ s : State, s.pwr.phase ≠ .boot → Runs (.fwReady 1) s (fun t => t = s)) ∧
  (∀ (s : State) (m : Nat), m ≠ 1 → m ≤ 7 → Runs (.fwReady m) s (FaultRecorded 1 m (Reg.SYS_FW_READY_READY.addrAt 0) true s)) ∧
  (∀ s : State, s.paired = true → s.tsu.role = .undecided → s.mainUp = true →
    (s.tsu.arbHigh = false → Runs .roleClaim s (fun t => t.tsu = { s.tsu with role := .standby } ∧ Only [.tsu, .regs, .evt] s t)) ∧
    (s.tsu.arbHigh = true → max s.tsu.arbHighSince s.tsu.decideFrom + (if s.tsu.secondary then 9900 else 900) ≤ s.now →
      Runs .roleClaim s (fun t => t.tsu.role = .active ∧ t.tsu.claimedAt = s.now ∧ (s.tsu.drivesArb = false → t.tsu.drivesArb = true))) ∧
    (s.tsu.arbHigh = true → s.now < max s.tsu.arbHighSince s.tsu.decideFrom + (if s.tsu.secondary then 9900 else 900) → Runs .roleClaim s (fun t => t = s))) ∧
  (∀ (s : State) (m c : Nat), s.mayWriteField m Reg.SYS_RECOV_GO = true → s.pwr.phase = .recovery → s.flag Reg.SYS_RECOV_GO = false → s.reg Reg.SYS_RECOV_LENGTH ≤ 1572864 →
    s.imageCause (s.bytes sharedLo (s.reg Reg.SYS_RECOV_LENGTH)) = c →
    (c = 0 → Runs (.recoveryGo m) s (fun t => ImageJob s.recovBank.1 (s.bytes sharedLo (s.reg Reg.SYS_RECOV_LENGTH)) none s t ∧ t.reg Reg.SYS_RECOV_GO = 1 ∧ t.pwr = s.pwr ∧
      Only [.nor, .regs] s t)) ∧
    (c ≠ 0 → Runs (.recoveryGo m) s (fun t => t.reg Reg.SYS_RECOV_STAT_CAUSE = low Reg.SYS_RECOV_STAT_CAUSE.width c ∧ t.reg Reg.SYS_RECOV_STAT_STATUS = low 8 (imgStatus c) ∧
      t.reg Reg.SYS_RECOV_GO = 0 ∧ Only [.regs] s t))) ∧
  (∀ s : State, s.flag Reg.CFG_UPD_CTL_STAGE = false → inShared (s.reg Reg.CFG_UPD_ADDR_ADDR) (s.reg Reg.CFG_UPD_LEN_LEN) = true →
    (s.imageCause (s.bytes (s.reg Reg.CFG_UPD_ADDR_ADDR) (s.reg Reg.CFG_UPD_LEN_LEN)) = 0 →
      Runs (.cfgUpdStage 1) s (fun t => ImageJob s.idleBank (s.bytes (s.reg Reg.CFG_UPD_ADDR_ADDR) (s.reg Reg.CFG_UPD_LEN_LEN)) none s t ∧ t.reg Reg.CFG_UPD_CTL_STAGE = 1 ∧
        Only [.nor, .regs] s t)) ∧
    (∀ c, s.imageCause (s.bytes (s.reg Reg.CFG_UPD_ADDR_ADDR) (s.reg Reg.CFG_UPD_LEN_LEN)) = c → c ≠ 0 →
      Runs (.cfgUpdStage 1) s (fun t => t.reg Reg.CFG_UPD_CTL_CAUSE = low Reg.CFG_UPD_CTL_CAUSE.width c ∧ t.reg Reg.CFG_UPD_CTL_STATUS = low 8 (imgStatus c) ∧ t.nor = s.nor ∧ Only [.regs] s t))) ∧
  (∀ (s : State) (r : Running), s.imgCmd 0x80 = some r → s.runningSeq 15 r.entry.seq = some r →
    (r.level < 3 → Runs .imgStage s (fun t => Completed r blkSYS stPOLICY 0xF2 [] t ∧ t.nor = s.nor ∧ Only [.que, .evt, .regs] s t)) ∧
    (3 ≤ r.level → s.flag Reg.CFG_UPD_CTL_STAGE = false → s.rangeOk r.entry.master (r.num 0 4) (r.num 4 4) = true → r.num 4 4 ≤ 0x200000 → 0 < r.num 4 4 →
      (s.imageCause (s.bytes (r.num 0 4) (r.num 4 4)) = 0 → Runs .imgStage s (fun t => ImageJob s.idleBank (s.bytes (r.num 0 4) (r.num 4 4)) (some r.entry.seq) s t ∧ Only [.nor, .regs, .que] s t)) ∧
      (∀ c, s.imageCause (s.bytes (r.num 0 4) (r.num 4 4)) = c → c ≠ 0 →
        Runs .imgStage s (fun t => Completed r blkSYS (imgStatus c) c [] t ∧ t.nor = s.nor ∧ Only [.que, .evt, .regs] s t)))) ∧
  (∀ (s : State) (r : Running), s.imgCmd 0x81 = some r → 3 ≤ r.level → s.nor.drain = none →
    (s.imageCause (s.imageBank s.idleBank) ≠ 0 → Runs .imgActivate s (fun t => Completed r blkSYS stPOLICY 12 [] t ∧ Only [.que, .evt, .regs] s t)) ∧
    (s.imageCause (s.imageBank s.idleBank) = 0 → r.num 0 1 = 2 → s.liveCause.1 ≠ 0 →
      Runs .imgActivate s (fun t => Completed r blkSYS stPOLICY s.liveCause.1 [] t ∧ Only [.que, .evt, .regs] s t)) ∧
    (s.imageCause (s.imageBank s.idleBank) = 0 → r.num 0 1 = 1 → s.gov.rel ≠ none →
      Runs .imgActivate s (fun t => Completed r blkSYS stPOLICY 9 [] t ∧ Only [.que, .evt, .regs] s t)) ∧
    (s.imageCause (s.imageBank s.idleBank) = 0 → (r.num 0 1 = 1 ∧ s.gov.rel = none ∧ s.paired = false ∨ r.num 0 1 = 2 ∧ s.liveCause.1 = 0) →
      Runs .imgActivate s (fun t => t.nor.drain = some { mode := r.num 0 1, cmd := r.entry.seq, since := s.now } ∧ Only [.nor, .que, .regs] s t))) ∧
  (∀ (s : State) (r : Running), s.imgCmd 0x82 = some r → Runs .imgStatus s (fun t =>
    Completed r blkSYS stOK 0 ([Reg.SYS_BOOT_CODE, Reg.SYS_IMG_GEN_GEN, Reg.SYS_FLOOR_FLOOR, Reg.CFG_BANK_GEN_A_GEN, Reg.CFG_BANK_GEN_B_GEN, Reg.CFG_BANK_STAT_CAUSE_A].flatMap
      (fun f => leBytes 4 (s.readRegister f.addr 1))) t ∧ Only [.que, .evt, .regs] s t)) ∧
  (∀ (s : State) (d : Drain), s.nor.drain = some d →
    (s.drained = true → d.mode = 1 → s.tsu.handover = none → s.paired = false → s.gov.rel = none →
      Runs .drainComplete s (fun t => t = s.deviceReset .S ∧ t.pins.relA = none ∧ t.nor.drain = none ∧ t.que.running = [] ∧ (s.nor.jobs = [] → t.nor.imageA = s.nor.imageA))) ∧
    (s.drained = true → d.mode ≠ 1 → s.glt.heldOpens = [] →
      Runs .drainComplete s (fun t => t.nor.running = some s.idleBank ∧ t.nor.drain = none ∧ t.reg Reg.SYS_IMG_GEN_GEN = low 32 (imgGen (s.imageBank s.idleBank)))) ∧
    (s.drained = false → (d.mode ≠ 1 ∨ s.tsu.handover ≠ none ∨ s.gov.rel = none ∧ (s.paired = false ∨ s.tsu.role ≠ .active)) → Runs .drainComplete s (fun t => t = s)) ∧
    (∀ r, d.mode = 1 → (s.gov.rel ≠ none ∨ s.paired = true ∧ s.tsu.role = .active) → s.tsu.handover = none → s.runningSeq 15 d.cmd = some r → s.glt.heldOpens = [] →
      Runs .drainComplete s (fun t => t.nor = { s.nor with drain := none } ∧ Completed r blkSYS stPOLICY 9 [] t)) ∧
    (∀ r, d.since + 2000000 ≤ s.now → s.runningSeq 15 d.cmd = some r → s.glt.heldOpens = [] →
      Runs .drainTimeout s (fun t => t.nor = { s.nor with drain := none } ∧ Completed r blkSYS stFULL 10 [] t)) ∧
    (s.now < d.since + 2000000 → Runs .drainTimeout s (fun t => t = s))) ∧
  (∀ s : State, (s.liveCause.1 ≠ 0 → Runs (.cfgUpdLive 1) s (fun t => t.reg Reg.CFG_UPD_CTL_LIVE = 0 ∧ t.reg Reg.CFG_UPD_CTL_CAUSE = low Reg.CFG_UPD_CTL_CAUSE.width s.liveCause.1 ∧ t.nor = s.nor ∧
      Only [.regs] s t)) ∧
    (s.liveCause.1 = 0 → Runs (.cfgUpdLive 1) s (fun t => t.nor.running = some s.idleBank ∧ t.reg Reg.SYS_IMG_GEN_GEN = low 32 (imgGen (s.imageBank s.idleBank)) ∧
      t.reg Reg.CFG_UPD_CTL_STATUS = stOK ∧ t.reg Reg.CFG_UPD_CTL_CAUSE = 0 ∧ (∀ g ∈ t.lkt.grants, g.master ≠ 2) ∧
      (s.jnl.foreign_ = false → s.jnl.noNand = false → ∃ x, t.jnl.q7 = s.jnl.q7 ++ [x] ∧ x.typ = 0x4040)))) ∧
  (∀ (s : State) (j : NorJob), s.nor.jobs = [j] →
    (j.area = .setCopy → Runs (.norJobComplete 0) s (fun t => t.nor = { s.nor with setCopy := j.data, jobs := [], ended := s.nor.ended + 1 } ∧ Only [.nor] s t)) ∧
    (∀ b c r, j.area = .image b → s.pwr.phase ≠ .recovery → j.cmd = some c → s.runningSeq 15 c = some r →
      Runs (.norJobComplete 0) s (fun t => t.nor = { s.nor.put j.area j.data with jobs := [], ended := s.nor.ended + 1 } ∧ t.reg Reg.CFG_UPD_CTL_STAGE = 0 ∧ t.reg Reg.CFG_UPD_CTL_CAUSE = 0 ∧
        Completed r blkSYS stOK 0 (leBytes 1 b ++ leBytes 4 (imgGen j.data)) t ∧ Only [.nor, .regs, .que, .evt] s t) ∧
      Runs (.norJobComplete 1) s (fun t => t.nor.jobs = [] ∧ t.reg Reg.CFG_ERR_READBACK = satInc Reg.CFG_ERR_READBACK.width (s.reg Reg.CFG_ERR_READBACK) ∧
        t.reg Reg.CFG_UPD_CTL_CAUSE = 11 ∧ Completed r blkSYS stNV 11 [] t ∧ Only [.nor, .regs, .que, .evt, .fresh] s t)) ∧
    (∀ b v, j.area = .vault b → s.key.vaultJob = some v → (sha256 j.data).take 24 = v.hash → v.selecting = false →
      Runs (.norJobComplete 0) s (fun t => t.nor = { s.nor.put j.area j.data with jobs := [], ended := s.nor.ended + 1 } ∧ Submitted .vaultSelector t ∧ t.key = { s.key with vaultJob := some { v with selecting := true } } ∧
        Only (.nor :: .key :: lktParts) s t))) ∧
  (∀ (s : State) (m : Nat), (s.mayWriteField m Reg.CFG_ERR_CLR_CLR = true →
      Runs (.cfgErrClr m) s (fun t => t.reg Reg.CFG_ERR_READBACK = 0 ∧ t.reg Reg.CFG_ERR_ERASE = 0 ∧ t.reg Reg.CFG_ERR_PROGRAM = 0 ∧
        FieldsKept [Reg.CFG_ERR_READBACK, Reg.CFG_ERR_ERASE, Reg.CFG_ERR_PROGRAM] s t ∧ Only [.regs] s t)) ∧
    (s.mayWriteField m Reg.SYS_BUSFAULT_CLR_CLR = true →
      Runs (.sysBusfaultClr m) s (fun t => (∀ f ∈ [Reg.SYS_BUSFAULT_ADDR_ADDR, Reg.SYS_BUSFAULT_INFO_MASTER, Reg.SYS_BUSFAULT_INFO_KIND, Reg.SYS_BUSFAULT_INFO_WRITE,
          Reg.SYS_BUSFAULT_INFO_OVERRUN, Reg.SYS_BUSFAULT_INFO_COUNT], t.reg f = 0) ∧
        FieldsKept [Reg.SYS_BUSFAULT_ADDR_ADDR, Reg.SYS_BUSFAULT_INFO_MASTER, Reg.SYS_BUSFAULT_INFO_KIND, Reg.SYS_BUSFAULT_INFO_WRITE, Reg.SYS_BUSFAULT_INFO_OVERRUN,
          Reg.SYS_BUSFAULT_INFO_COUNT] s t ∧ Only [.regs] s t)))

/-! ## Faults, tamper, containment (chapter 18) -/

/-- The device has been reset by class W on account of a fault: nothing is asserted, no command runs, and its record is owed to the next boot (R851, R862). -/
def ResetByFault (kind block : Nat) (s t : State) : Prop :=
  t = s.faultReset kind block ∧ t.pins.relA = none ∧ t.pins.relBn = none ∧ t.que.running = [] ∧ (kind, block) ∈ t.tmp.owed ∧ t.fences.epochs = []

/-- Block n is inside its reset under a raised fence (R855 to R858). -/
def Fenced (n kind : Nat) (s t : State) : Prop :=
  n ∈ t.fences.inReset ∧ t.epoch n = s.epoch n + 1 ∧ (∀ k, k ≠ n → t.epoch k = s.epoch k) ∧ Raised 191 t ∧ t.reg Reg.TMP_FAULT_LAST_KIND = low Reg.TMP_FAULT_LAST_KIND.width kind ∧
  t.reg Reg.TMP_FAULT_LAST_BLOCK = low Reg.TMP_FAULT_LAST_BLOCK.width n ∧ (∀ r ∈ t.que.running, n ≠ 5 → heldBy n r = false ∨ n = 16)

/-- Tier 2. Tamper, watchdogs, block resets (R840 to R851, R855 to R862): the third mismatched mesh scan in a row detects; a detection latches its sensor, raises E_188 and takes the responses
set for it, a latched one is only counted; its reset comes at the latest 19 ms after. A watchdog is kicked by its two keys in order, warns, and resets the device when it is not. A block reset
needs the security core and its key, spares the blocks that may not be reset, raises the fence and returns the block's registers; it returns when it is ready; stale replies are counted. -/
def Obligations.FaultsAndTamper : Prop :=
  (∀ (s : State) (d r : BitVec 16), s.sensorActive 0 = true →
    (d = r → Runs (.meshScan d r) s (fun t => t.tmp = { s.tmp with meshRun := 0 } ∧ Only [.tmp] s t)) ∧
    (d ≠ r → s.tmp.meshRun < 2 → Runs (.meshScan d r) s (fun t => t.tmp = { s.tmp with meshRun := s.tmp.meshRun + 1 } ∧
      t.reg Reg.TMP_STAT_MESH_ERR = satInc Reg.TMP_STAT_MESH_ERR.width (s.reg Reg.TMP_STAT_MESH_ERR) ∧ FieldsKept [Reg.TMP_STAT_MESH_ERR] s t ∧ Only [.tmp, .regs] s t)) ∧
    (d ≠ r → 2 ≤ s.tmp.meshRun → s.pwr.phase = .off → bit (s.reg Reg.TMP_LATCH_LATCH) 0 = false →
      Runs (.meshScan d r) s (fun t => (∃ h, t.tmp.held = s.tmp.held ++ [h] ∧ h.sensor = 0 ∧ h.state = 5 ∧ h.value = bitCount (d ^^^ r).toNat) ∧ t.tmp.meshRun = 0 ∧
        bit (t.reg Reg.TMP_LATCH_LATCH) 0 = true ∧ Raised 188 t ∧ Only [.tmp, .regs, .evt] s t))) ∧
  (∀ (s : State) (k : Fin 6) (v : BitVec 16), s.sensorActive k.val = true →
    (bit (s.reg Reg.TMP_LATCH_LATCH) k.val = true → Runs (.tamperDetect [(k.val, v)]) s (fun t =>
      t.reg Reg.TMP_STAT_REPEATS = satInc Reg.TMP_STAT_REPEATS.width (s.reg Reg.TMP_STAT_REPEATS) ∧ FieldsKept [Reg.TMP_STAT_REPEATS] s t ∧ Only [.regs] s t)) ∧
    (s.reg Reg.TMP_LATCH_LATCH = 0 → s.pwr.phase = .run → s.tmpResp k.val = 0 → s.jnl.foreign_ = false → s.jnl.noNand = false → s.jnl.q46.length < 256 →
      Runs (.tamperDetect [(k.val, v)]) s (fun t => t.reg Reg.TMP_LATCH_LATCH = 2 ^ k.val ∧ Raised 188 t ∧ t.tmp = s.tmp ∧ t.key = s.key ∧
        (∃ n, t.jnl.q46 = s.jnl.q46 ++ [n] ∧ n.typ = 0x60 ∧ n.block = blkTMP) ∧ Only [.regs, .evt, .jnl, .que] s t)) ∧
    (s.reg Reg.TMP_LATCH_LATCH = 0 → s.pwr.phase = .run →
      Runs (.tamperDetect [(k.val, v)]) s (fun t => Raised 188 t ∧ (s.regI Reg.TMP_RESP_LOCK k.val = 1 → t.tmp.locked = true ∧ Submitted .tamperPage t) ∧
        (s.regI Reg.TMP_RESP_RST k.val = 1 → t.tmp.reset = some s.now) ∧
        (s.regI Reg.TMP_RESP_ZERO k.val = 1 → ∀ n ∈ s.zeroizable, n ≠ 253 → n ≠ 254 → (t.slotRaw n).state = .empty)))) ∧
  (∀ (s : State) (x : Nat), s.tmp.reset = some x → s.awake = true → x + 19000 ≤ s.now →
    Runs .tamperReset s (fun t => t = s.deviceReset .T ∧ t.pins.relA = none ∧ t.tmp.locked = s.tmp.locked ∧ t.tmp.held = s.tmp.held ∧ t.que.running = [] ∧ t.tmp.reset = none)) ∧
  (∀ s : State, s.tmp.reset = none → Runs .tamperReset s (fun t => t = s)) ∧
  (∀ (s : State) (m : Nat) (c : Fin 2) (v : BitVec 8), s.mayWriteField m Reg.TMP_WDG_KICK_KEY = true → s.wdgRuns c.val = true →
    (v = 0x5A → (s.wdg c.val).primed = false → Runs (.watchdogKick m c v) s (fun t => t.wdg c.val = { s.wdg c.val with primed := true } ∧ t.wdg (1 - c.val) = s.wdg (1 - c.val) ∧ Only [.tmp] s t)) ∧
    (v = 0xA5 → (s.wdg c.val).primed = true → Runs (.watchdogKick m c v) s (fun t => t.wdg c.val = { loadedAt := s.now } ∧ t.wdg (1 - c.val) = s.wdg (1 - c.val) ∧ Only [.tmp] s t)) ∧
    (v ≠ 0x5A → v ≠ 0xA5 → Runs (.watchdogKick m c v) s (ResetByFault 1 c.val s))) ∧
  (∀ (s : State) (c : Fin 2), s.wdgRuns c.val = true →
    ((s.wdg c.val).warned = false → 3 * s.wdgLimit c.val ≤ 4 * (s.now - (s.wdg c.val).loadedAt) →
      Runs (.watchdogWarning c) s (fun t => t.wdg c.val = { s.wdg c.val with warned := true } ∧ Raised 189 t ∧ Only [.tmp, .evt] s t)) ∧
    ((s.wdg c.val).loadedAt + s.wdgLimit c.val ≤ s.now → Runs (.watchdogExpiry c) s (ResetByFault 1 c.val s)) ∧
    (s.now < (s.wdg c.val).loadedAt + s.wdgLimit c.val → Runs (.watchdogExpiry c) s (fun t => t = s))) ∧
  (∀ (s : State) (n : Fin 32), s.awake = true → n.val < 31 → n.val ∉ [blkPWR, blkCLK, blkTMP, blkLKT, blkAON] →
    Runs (.blockReset 1 n 0xC3) s (fun t => Fenced n.val 6 s t ∧ (n.val ∉ [5, 20] → ∀ (f : Field) (i b : Nat), (n.val = blkAEA → f.id ≠ Reg.AEA_ERR_ABORTED.id) → keyBlock (f.key i b) = n.val → keyHasClass .L (f.key i b) = true →
      t.regB f i b = f.resetAt i)) ∧
    (∀ (m : Nat) (k : BitVec 8), s.mayWriteField m Reg.TMP_BLK_RST_BLOCK = true → (m ≠ 1 ∨ k ≠ 0xC3) → Runs (.blockReset m n k) s (fun t => t = s)) ∧
    (∀ (m : Nat) (k : BitVec 8), m ≤ 7 → s.mayWriteField m Reg.TMP_BLK_RST_BLOCK = false →
      Runs (.blockReset m n k) s (FaultRecorded 1 m (Reg.TMP_BLK_RST_BLOCK.addrAt 0) true s))) ∧
  (∀ (s : State) (n : Fin 32) (k : BitVec 8), n.val ∈ [blkPWR, blkCLK, blkTMP, blkLKT, blkAON, 31] → Runs (.blockReset 1 n k) s (fun t => t = s)) ∧
  (∀ (s : State) (n : Fin 31), s.awake = true → Runs (.blockSelfCheckFail n) s (fun t => Fenced n.val 4 s t)) ∧
  (∀ (s : State) (n : Fin 32), Runs (.blockReturn n) s (fun t => (∀ k, k ∈ t.fences.inReset ↔ k ∈ s.fences.inReset ∧ k ≠ n.val) ∧ t.fences.epochs = s.fences.epochs ∧ Only [.fences] s t)) ∧
  (∀ (s : State) (n : Fin 32) (e : Nat),
    (e < s.epoch n.val → Runs (.staleReply n e) s (fun t => t.reg Reg.TMP_FENCE_DISCARDED = satInc Reg.TMP_FENCE_DISCARDED.width (s.reg Reg.TMP_FENCE_DISCARDED) ∧
      FieldsKept [Reg.TMP_FENCE_DISCARDED] s t ∧ Only [.regs] s t)) ∧
    (s.epoch n.val ≤ e → Runs (.staleReply n e) s (fun t => t = s))) ∧
  (∀ (s : State) (m : Fin 8) (a : Nat), s.awake = true → sharedLo ≤ a → a < sharedHi →
    Runs (.sramEccError m a false) s (fun t => t.reg Reg.TMP_FAULT_LAST_KIND = low Reg.TMP_FAULT_LAST_KIND.width 2 ∧ t.mem = s.mem ∧ Only [.regs, .evt, .jnl, .que] s t) ∧
    Runs (.sramEccError m a true) s (ResetByFault 3 0xFF s)) ∧
  (∀ (s : State) (m : Fin 8) (a : Nat) (b : Bool), s.awake = true → 0x10000000 ≤ a → a < sharedLo → Runs (.sramEccError m a b) s (ResetByFault 3 0xFF s)) ∧
  (∀ s : State, Runs .ieee11491Lock s (fun t => t.jtagLocked = true ∧ (∀ k, k < 32 → t.regI Reg.CLASP_OWNER k = if s.regI Reg.CLASP_OWNER k = 7 then 0 else s.regI Reg.CLASP_OWNER k) ∧
    FieldsKept [Reg.CLASP_OWNER] s t ∧ Only [.jtagLocked, .regs, .evt] s t))
end

