-- ==== Sys2Proof/Laws/Store.lean ====
section
/-! SUPPORT. The laws of the sorted stores that registers, memory and rings are held in: a read after a write, and the canonical form that every write keeps. -/
namespace Sys2Proof.Machine

/-- What was written is read. -/
@[simp] theorem storeGet_storeSet_self {α : Type} [DecidableEq α] (d : α) (l : List (Nat × α)) (k : Nat) (v : α) : storeGet d (storeSet d l k v) k = v := by
  induction l with
  | nil => by_cases h : v = d <;> simp [storeSet, storeGet, h]
  | cons e t ih =>
    obtain ⟨k', v'⟩ := e
    rcases Nat.lt_trichotomy k k' with h | h | h
    · by_cases hv : v = d <;> simp [storeSet, storeGet, h, hv]
    · subst h
      by_cases hv : v = d
      · subst hv
        simp only [storeSet, Nat.lt_irrefl, if_false, if_true]
        clear ih
        induction t with
        | nil => rfl
        | cons e t ih =>
          by_cases he : e.1 ≤ k
          · simpa [List.dropWhile, he] using ih
          · have h' : k < e.1 := Nat.lt_of_not_le he
            simp [List.dropWhile, he, storeGet, h']
      · simp [storeSet, storeGet, hv]
    · have h1 : ¬ k < k' := Nat.lt_asymm h
      have h2 : ¬ k = k' := Nat.ne_of_gt h
      simp [storeSet, storeGet, h1, h2, ih]

/-- A key above the keys that were dropped reads the same. -/
theorem storeGet_dropWhile {α : Type} (d : α) (t : List (Nat × α)) (k j : Nat) (h : k < j) : storeGet d (t.dropWhile (fun e => decide (e.1 ≤ k))) j = storeGet d t j := by
  induction t with
  | nil => rfl
  | cons e t ih =>
    by_cases he : e.1 ≤ k
    · have h1 : ¬ j < e.1 := by omega
      have h2 : ¬ j = e.1 := by omega
      simp [List.dropWhile, he, storeGet, h1, h2, ih]
    · simp [List.dropWhile, he]

/-- A key below the keys that stay reads as the default. -/
theorem storeGet_dropWhile_low {α : Type} (d : α) (t : List (Nat × α)) (k j : Nat) (h : j < k) : storeGet d (t.dropWhile (fun e => decide (e.1 ≤ k))) j = d := by
  induction t with
  | nil => rfl
  | cons e t ih =>
    by_cases he : e.1 ≤ k
    · simpa [List.dropWhile, he] using ih
    · have h1 : j < e.1 := by omega
      simp [List.dropWhile, he, storeGet, h1]

/-- Every other key reads as before, whatever its own default. -/
theorem storeGet_storeSet_ne {α : Type} [DecidableEq α] (d d' : α) (l : List (Nat × α)) (k j : Nat) (v : α) (hj : j ≠ k) : storeGet d' (storeSet d l k v) j = storeGet d' l j := by
  induction l with
  | nil =>
    by_cases hv : v = d
    · simp [storeSet, hv]
    · rcases Nat.lt_or_gt_of_ne hj with h | h <;> simp [storeSet, storeGet, hv, hj]
  | cons e t ih =>
    obtain ⟨k', v'⟩ := e
    rcases Nat.lt_trichotomy k k' with h | h | h
    · by_cases hv : v = d
      · simp [storeSet, h, hv]
      · rcases Nat.lt_or_gt_of_ne hj with g | g
        · have h1 : j < k' := by omega
          simp [storeSet, storeGet, h, hv, g, h1]
        · have h1 : ¬ j < k := by omega
          simp [storeSet, storeGet, h, hv, hj, h1]
    · subst h
      by_cases hv : v = d
      · subst hv
        simp only [storeSet, Nat.lt_irrefl, if_false, if_true]
        rcases Nat.lt_or_gt_of_ne hj with g | g
        · rw [storeGet_dropWhile_low d' t k j g]; simp [storeGet, g]
        · have h1 : ¬ j < k := by omega
          rw [storeGet_dropWhile d' t k j g]; simp [storeGet, h1, hj]
      · simp [storeSet, storeGet, hv, hj]
    · have h1 : ¬ k < k' := Nat.lt_asymm h
      have h2 : ¬ k = k' := Nat.ne_of_gt h
      simp [storeSet, storeGet, h1, h2, ih]

/-- An entry of a written store is the one written or was there before. -/
theorem mem_storeSet {α : Type} [DecidableEq α] {d : α} {l : List (Nat × α)} {k : Nat} {v : α} {e : Nat × α} (h : e ∈ storeSet d l k v) : (e = (k, v) ∧ v ≠ d) ∨ e ∈ l := by
  induction l with
  | nil =>
    by_cases hv : v = d
    · simp [storeSet, hv] at h
    · simp only [storeSet, hv, if_false, List.mem_singleton] at h
      exact .inl ⟨h, hv⟩
  | cons x t ih =>
    obtain ⟨k', v'⟩ := x
    simp only [storeSet] at h
    split at h
    · split at h
      · exact .inr h
      · rename_i hv
        rcases List.mem_cons.mp h with rfl | h
        · exact .inl ⟨rfl, hv⟩
        · exact .inr h
    · split at h
      · split at h
        · exact .inr (List.mem_cons_of_mem _ ((List.dropWhile_sublist _).subset h))
        · rename_i hv
          rcases List.mem_cons.mp h with rfl | h
          · exact .inl ⟨rfl, hv⟩
          · exact .inr (List.mem_cons_of_mem _ h)
      · rcases List.mem_cons.mp h with rfl | h
        · exact .inr (List.mem_cons_self ..)
        · rcases ih h with h | h
          · exact .inl h
          · exact .inr (List.mem_cons_of_mem _ h)

/-- A write keeps the keys strictly rising. -/
theorem rising_storeSet {α : Type} [DecidableEq α] (d : α) (l : List (Nat × α)) (k : Nat) (v : α) (h : Rising l) : Rising (storeSet d l k v) := by
  induction l with
  | nil => by_cases hv : v = d <;> simp [storeSet, hv, Rising]
  | cons e t ih =>
    obtain ⟨k', v'⟩ := e
    have ht := List.pairwise_cons.mp h
    simp only [storeSet]
    split
    · rename_i hk
      split
      · exact h
      · refine List.pairwise_cons.mpr ⟨?_, h⟩
        intro x hx
        rcases List.mem_cons.mp hx with rfl | hx
        · exact hk
        · exact Nat.lt_trans hk (ht.1 x hx)
    · split
      · rename_i hk
        subst hk
        split
        · exact List.Pairwise.sublist (List.dropWhile_sublist _) ht.2
        · exact List.pairwise_cons.mpr ⟨ht.1, ht.2⟩
      · rename_i h1 h2
        refine List.pairwise_cons.mpr ⟨?_, ih ht.2⟩
        intro x hx
        rcases mem_storeSet hx with ⟨rfl, -⟩ | hx
        · show k' < k
          omega
        · exact ht.1 x hx

/-- What `memoryWf` says. -/
theorem memoryWf_iff (m : List Host.Cell) : memoryWf m = true ↔ Rising m ∧ ∀ c ∈ m, c.2 ≠ 0 := by
  simp [memoryWf, Rising]

/-- What `regsWf` says. -/
theorem regsWf_iff (r : List (Nat × Nat)) : regsWf r = true ↔ Rising r := by
  simp [regsWf, Rising]

/-- A memory write keeps the canonical form. -/
theorem memoryWf_storeSet {m : List Host.Cell} (h : memoryWf m = true) (a : Nat) (b : Byte) : memoryWf (storeSet 0 m a b) = true := by
  rw [memoryWf_iff] at *
  refine ⟨rising_storeSet 0 m a b h.1, ?_⟩
  intro c hc
  rcases mem_storeSet hc with ⟨rfl, hb⟩ | hc
  · exact hb
  · exact h.2 c hc

/-- Forgetting some addresses keeps the canonical form. -/
theorem memoryWf_filter {m : List Host.Cell} (h : memoryWf m = true) (p : Host.Cell → Bool) : memoryWf (m.filter p) = true := by
  rw [memoryWf_iff] at *
  exact ⟨h.1.sublist List.filter_sublist, fun c hc => h.2 c (List.mem_of_mem_filter hc)⟩

/-- A register write keeps the keys rising. -/
theorem regsWf_storeSet {r : List (Nat × Nat)} (h : regsWf r = true) (d k v : Nat) : regsWf (storeSet d r k v) = true := by
  rw [regsWf_iff] at *
  exact rising_storeSet d r k v h

/-- A reset of some registers keeps the keys rising. -/
theorem regsWf_filter {r : List (Nat × Nat)} (h : regsWf r = true) (p : Nat × Nat → Bool) : regsWf (r.filter p) = true := by
  rw [regsWf_iff] at *
  exact h.sublist List.filter_sublist

end Sys2Proof.Machine
end

