-- ==== Sys2Proof/Laws/State.lean ====
section
/-! SUPPORT. What the plain updates of the state leave alone, one lemma a part; reads of registers, memory and rings after them; and the canonical forms they keep. -/
namespace Sys2Proof.Machine

/-! `setB` changes `regs` alone. -/
@[simp] theorem State.setB_pending (s : State) (f : Field) (i b v : Nat) : (s.setB f i b v).pending = s.pending := rfl
@[simp] theorem State.setB_now (s : State) (f : Field) (i b v : Nat) : (s.setB f i b v).now = s.now := rfl
@[simp] theorem State.setB_fresh (s : State) (f : Field) (i b v : Nat) : (s.setB f i b v).fresh = s.fresh := rfl
@[simp] theorem State.setB_mem (s : State) (f : Field) (i b v : Nat) : (s.setB f i b v).mem = s.mem := rfl
@[simp] theorem State.setB_tim (s : State) (f : Field) (i b v : Nat) : (s.setB f i b v).tim = s.tim := rfl
@[simp] theorem State.setB_pins (s : State) (f : Field) (i b v : Nat) : (s.setB f i b v).pins = s.pins := rfl
@[simp] theorem State.setB_evt (s : State) (f : Field) (i b v : Nat) : (s.setB f i b v).evt = s.evt := rfl
@[simp] theorem State.setB_que (s : State) (f : Field) (i b v : Nat) : (s.setB f i b v).que = s.que := rfl
@[simp] theorem State.setB_mbx (s : State) (f : Field) (i b v : Nat) : (s.setB f i b v).mbx = s.mbx := rfl
@[simp] theorem State.setB_hif (s : State) (f : Field) (i b v : Nat) : (s.setB f i b v).hif = s.hif := rfl
@[simp] theorem State.setB_jnl (s : State) (f : Field) (i b v : Nat) : (s.setB f i b v).jnl = s.jnl := rfl
@[simp] theorem State.setB_lkt (s : State) (f : Field) (i b v : Nat) : (s.setB f i b v).lkt = s.lkt := rfl
@[simp] theorem State.setB_priv (s : State) (f : Field) (i b v : Nat) : (s.setB f i b v).priv = s.priv := rfl
@[simp] theorem State.setB_auth (s : State) (f : Field) (i b v : Nat) : (s.setB f i b v).auth = s.auth := rfl
@[simp] theorem State.setB_key (s : State) (f : Field) (i b v : Nat) : (s.setB f i b v).key = s.key := rfl
@[simp] theorem State.setB_crd (s : State) (f : Field) (i b v : Nat) : (s.setB f i b v).crd = s.crd := rfl
@[simp] theorem State.setB_crypto (s : State) (f : Field) (i b v : Nat) : (s.setB f i b v).crypto = s.crypto := rfl
@[simp] theorem State.setB_nor (s : State) (f : Field) (i b v : Nat) : (s.setB f i b v).nor = s.nor := rfl
@[simp] theorem State.setB_tsu (s : State) (f : Field) (i b v : Nat) : (s.setB f i b v).tsu = s.tsu := rfl
@[simp] theorem State.setB_pwr (s : State) (f : Field) (i b v : Nat) : (s.setB f i b v).pwr = s.pwr := rfl
@[simp] theorem State.setB_lfa (s : State) (f : Field) (i b v : Nat) : (s.setB f i b v).lfa = s.lfa := rfl
@[simp] theorem State.setB_glt (s : State) (f : Field) (i b v : Nat) : (s.setB f i b v).glt = s.glt := rfl
@[simp] theorem State.setB_uwb (s : State) (f : Field) (i b v : Nat) : (s.setB f i b v).uwb = s.uwb := rfl
@[simp] theorem State.setB_loc (s : State) (f : Field) (i b v : Nat) : (s.setB f i b v).loc = s.loc := rfl
@[simp] theorem State.setB_vrd (s : State) (f : Field) (i b v : Nat) : (s.setB f i b v).vrd = s.vrd := rfl
@[simp] theorem State.setB_gov (s : State) (f : Field) (i b v : Nat) : (s.setB f i b v).gov = s.gov := rfl
@[simp] theorem State.setB_can (s : State) (f : Field) (i b v : Nat) : (s.setB f i b v).can = s.can := rfl
@[simp] theorem State.setB_tmp (s : State) (f : Field) (i b v : Nat) : (s.setB f i b v).tmp = s.tmp := rfl
@[simp] theorem State.setB_hft (s : State) (f : Field) (i b v : Nat) : (s.setB f i b v).hft = s.hft := rfl
@[simp] theorem State.setB_fences (s : State) (f : Field) (i b v : Nat) : (s.setB f i b v).fences = s.fences := rfl
@[simp] theorem State.setB_jtagLocked (s : State) (f : Field) (i b v : Nat) : (s.setB f i b v).jtagLocked = s.jtagLocked := rfl
@[simp] theorem State.setB_devnum (s : State) (f : Field) (i b v : Nat) : (s.setB f i b v).devnum = s.devnum := rfl
@[simp] theorem State.setB_fwKey (s : State) (f : Field) (i b v : Nat) : (s.setB f i b v).fwKey = s.fwKey := rfl
@[simp] theorem State.setB_appFwBytes (s : State) (f : Field) (i b v : Nat) : (s.setB f i b v).appFwBytes = s.appFwBytes := rfl

/-! `setI` changes `regs` alone. -/
@[simp] theorem State.setI_pending (s : State) (f : Field) (i v : Nat) : (s.setI f i v).pending = s.pending := rfl
@[simp] theorem State.setI_now (s : State) (f : Field) (i v : Nat) : (s.setI f i v).now = s.now := rfl
@[simp] theorem State.setI_fresh (s : State) (f : Field) (i v : Nat) : (s.setI f i v).fresh = s.fresh := rfl
@[simp] theorem State.setI_mem (s : State) (f : Field) (i v : Nat) : (s.setI f i v).mem = s.mem := rfl
@[simp] theorem State.setI_tim (s : State) (f : Field) (i v : Nat) : (s.setI f i v).tim = s.tim := rfl
@[simp] theorem State.setI_pins (s : State) (f : Field) (i v : Nat) : (s.setI f i v).pins = s.pins := rfl
@[simp] theorem State.setI_evt (s : State) (f : Field) (i v : Nat) : (s.setI f i v).evt = s.evt := rfl
@[simp] theorem State.setI_que (s : State) (f : Field) (i v : Nat) : (s.setI f i v).que = s.que := rfl
@[simp] theorem State.setI_mbx (s : State) (f : Field) (i v : Nat) : (s.setI f i v).mbx = s.mbx := rfl
@[simp] theorem State.setI_hif (s : State) (f : Field) (i v : Nat) : (s.setI f i v).hif = s.hif := rfl
@[simp] theorem State.setI_jnl (s : State) (f : Field) (i v : Nat) : (s.setI f i v).jnl = s.jnl := rfl
@[simp] theorem State.setI_lkt (s : State) (f : Field) (i v : Nat) : (s.setI f i v).lkt = s.lkt := rfl
@[simp] theorem State.setI_priv (s : State) (f : Field) (i v : Nat) : (s.setI f i v).priv = s.priv := rfl
@[simp] theorem State.setI_auth (s : State) (f : Field) (i v : Nat) : (s.setI f i v).auth = s.auth := rfl
@[simp] theorem State.setI_key (s : State) (f : Field) (i v : Nat) : (s.setI f i v).key = s.key := rfl
@[simp] theorem State.setI_crd (s : State) (f : Field) (i v : Nat) : (s.setI f i v).crd = s.crd := rfl
@[simp] theorem State.setI_crypto (s : State) (f : Field) (i v : Nat) : (s.setI f i v).crypto = s.crypto := rfl
@[simp] theorem State.setI_nor (s : State) (f : Field) (i v : Nat) : (s.setI f i v).nor = s.nor := rfl
@[simp] theorem State.setI_tsu (s : State) (f : Field) (i v : Nat) : (s.setI f i v).tsu = s.tsu := rfl
@[simp] theorem State.setI_pwr (s : State) (f : Field) (i v : Nat) : (s.setI f i v).pwr = s.pwr := rfl
@[simp] theorem State.setI_lfa (s : State) (f : Field) (i v : Nat) : (s.setI f i v).lfa = s.lfa := rfl
@[simp] theorem State.setI_glt (s : State) (f : Field) (i v : Nat) : (s.setI f i v).glt = s.glt := rfl
@[simp] theorem State.setI_uwb (s : State) (f : Field) (i v : Nat) : (s.setI f i v).uwb = s.uwb := rfl
@[simp] theorem State.setI_loc (s : State) (f : Field) (i v : Nat) : (s.setI f i v).loc = s.loc := rfl
@[simp] theorem State.setI_vrd (s : State) (f : Field) (i v : Nat) : (s.setI f i v).vrd = s.vrd := rfl
@[simp] theorem State.setI_gov (s : State) (f : Field) (i v : Nat) : (s.setI f i v).gov = s.gov := rfl
@[simp] theorem State.setI_can (s : State) (f : Field) (i v : Nat) : (s.setI f i v).can = s.can := rfl
@[simp] theorem State.setI_tmp (s : State) (f : Field) (i v : Nat) : (s.setI f i v).tmp = s.tmp := rfl
@[simp] theorem State.setI_hft (s : State) (f : Field) (i v : Nat) : (s.setI f i v).hft = s.hft := rfl
@[simp] theorem State.setI_fences (s : State) (f : Field) (i v : Nat) : (s.setI f i v).fences = s.fences := rfl
@[simp] theorem State.setI_jtagLocked (s : State) (f : Field) (i v : Nat) : (s.setI f i v).jtagLocked = s.jtagLocked := rfl
@[simp] theorem State.setI_devnum (s : State) (f : Field) (i v : Nat) : (s.setI f i v).devnum = s.devnum := rfl
@[simp] theorem State.setI_fwKey (s : State) (f : Field) (i v : Nat) : (s.setI f i v).fwKey = s.fwKey := rfl
@[simp] theorem State.setI_appFwBytes (s : State) (f : Field) (i v : Nat) : (s.setI f i v).appFwBytes = s.appFwBytes := rfl

/-! `set` changes `regs` alone. -/
@[simp] theorem State.set_pending (s : State) (f : Field) (v : Nat) : (s.set f v).pending = s.pending := rfl
@[simp] theorem State.set_now (s : State) (f : Field) (v : Nat) : (s.set f v).now = s.now := rfl
@[simp] theorem State.set_fresh (s : State) (f : Field) (v : Nat) : (s.set f v).fresh = s.fresh := rfl
@[simp] theorem State.set_mem (s : State) (f : Field) (v : Nat) : (s.set f v).mem = s.mem := rfl
@[simp] theorem State.set_tim (s : State) (f : Field) (v : Nat) : (s.set f v).tim = s.tim := rfl
@[simp] theorem State.set_pins (s : State) (f : Field) (v : Nat) : (s.set f v).pins = s.pins := rfl
@[simp] theorem State.set_evt (s : State) (f : Field) (v : Nat) : (s.set f v).evt = s.evt := rfl
@[simp] theorem State.set_que (s : State) (f : Field) (v : Nat) : (s.set f v).que = s.que := rfl
@[simp] theorem State.set_mbx (s : State) (f : Field) (v : Nat) : (s.set f v).mbx = s.mbx := rfl
@[simp] theorem State.set_hif (s : State) (f : Field) (v : Nat) : (s.set f v).hif = s.hif := rfl
@[simp] theorem State.set_jnl (s : State) (f : Field) (v : Nat) : (s.set f v).jnl = s.jnl := rfl
@[simp] theorem State.set_lkt (s : State) (f : Field) (v : Nat) : (s.set f v).lkt = s.lkt := rfl
@[simp] theorem State.set_priv (s : State) (f : Field) (v : Nat) : (s.set f v).priv = s.priv := rfl
@[simp] theorem State.set_auth (s : State) (f : Field) (v : Nat) : (s.set f v).auth = s.auth := rfl
@[simp] theorem State.set_key (s : State) (f : Field) (v : Nat) : (s.set f v).key = s.key := rfl
@[simp] theorem State.set_crd (s : State) (f : Field) (v : Nat) : (s.set f v).crd = s.crd := rfl
@[simp] theorem State.set_crypto (s : State) (f : Field) (v : Nat) : (s.set f v).crypto = s.crypto := rfl
@[simp] theorem State.set_nor (s : State) (f : Field) (v : Nat) : (s.set f v).nor = s.nor := rfl
@[simp] theorem State.set_tsu (s : State) (f : Field) (v : Nat) : (s.set f v).tsu = s.tsu := rfl
@[simp] theorem State.set_pwr (s : State) (f : Field) (v : Nat) : (s.set f v).pwr = s.pwr := rfl
@[simp] theorem State.set_lfa (s : State) (f : Field) (v : Nat) : (s.set f v).lfa = s.lfa := rfl
@[simp] theorem State.set_glt (s : State) (f : Field) (v : Nat) : (s.set f v).glt = s.glt := rfl
@[simp] theorem State.set_uwb (s : State) (f : Field) (v : Nat) : (s.set f v).uwb = s.uwb := rfl
@[simp] theorem State.set_loc (s : State) (f : Field) (v : Nat) : (s.set f v).loc = s.loc := rfl
@[simp] theorem State.set_vrd (s : State) (f : Field) (v : Nat) : (s.set f v).vrd = s.vrd := rfl
@[simp] theorem State.set_gov (s : State) (f : Field) (v : Nat) : (s.set f v).gov = s.gov := rfl
@[simp] theorem State.set_can (s : State) (f : Field) (v : Nat) : (s.set f v).can = s.can := rfl
@[simp] theorem State.set_tmp (s : State) (f : Field) (v : Nat) : (s.set f v).tmp = s.tmp := rfl
@[simp] theorem State.set_hft (s : State) (f : Field) (v : Nat) : (s.set f v).hft = s.hft := rfl
@[simp] theorem State.set_fences (s : State) (f : Field) (v : Nat) : (s.set f v).fences = s.fences := rfl
@[simp] theorem State.set_jtagLocked (s : State) (f : Field) (v : Nat) : (s.set f v).jtagLocked = s.jtagLocked := rfl
@[simp] theorem State.set_devnum (s : State) (f : Field) (v : Nat) : (s.set f v).devnum = s.devnum := rfl
@[simp] theorem State.set_fwKey (s : State) (f : Field) (v : Nat) : (s.set f v).fwKey = s.fwKey := rfl
@[simp] theorem State.set_appFwBytes (s : State) (f : Field) (v : Nat) : (s.set f v).appFwBytes = s.appFwBytes := rfl

/-! `setByte` changes `mem` alone. -/
@[simp] theorem State.setByte_pending (s : State) (a : Nat) (b : Byte) : (s.setByte a b).pending = s.pending := rfl
@[simp] theorem State.setByte_now (s : State) (a : Nat) (b : Byte) : (s.setByte a b).now = s.now := rfl
@[simp] theorem State.setByte_fresh (s : State) (a : Nat) (b : Byte) : (s.setByte a b).fresh = s.fresh := rfl
@[simp] theorem State.setByte_regs (s : State) (a : Nat) (b : Byte) : (s.setByte a b).regs = s.regs := rfl
@[simp] theorem State.setByte_tim (s : State) (a : Nat) (b : Byte) : (s.setByte a b).tim = s.tim := rfl
@[simp] theorem State.setByte_pins (s : State) (a : Nat) (b : Byte) : (s.setByte a b).pins = s.pins := rfl
@[simp] theorem State.setByte_evt (s : State) (a : Nat) (b : Byte) : (s.setByte a b).evt = s.evt := rfl
@[simp] theorem State.setByte_que (s : State) (a : Nat) (b : Byte) : (s.setByte a b).que = s.que := rfl
@[simp] theorem State.setByte_mbx (s : State) (a : Nat) (b : Byte) : (s.setByte a b).mbx = s.mbx := rfl
@[simp] theorem State.setByte_hif (s : State) (a : Nat) (b : Byte) : (s.setByte a b).hif = s.hif := rfl
@[simp] theorem State.setByte_jnl (s : State) (a : Nat) (b : Byte) : (s.setByte a b).jnl = s.jnl := rfl
@[simp] theorem State.setByte_lkt (s : State) (a : Nat) (b : Byte) : (s.setByte a b).lkt = s.lkt := rfl
@[simp] theorem State.setByte_priv (s : State) (a : Nat) (b : Byte) : (s.setByte a b).priv = s.priv := rfl
@[simp] theorem State.setByte_auth (s : State) (a : Nat) (b : Byte) : (s.setByte a b).auth = s.auth := rfl
@[simp] theorem State.setByte_key (s : State) (a : Nat) (b : Byte) : (s.setByte a b).key = s.key := rfl
@[simp] theorem State.setByte_crd (s : State) (a : Nat) (b : Byte) : (s.setByte a b).crd = s.crd := rfl
@[simp] theorem State.setByte_crypto (s : State) (a : Nat) (b : Byte) : (s.setByte a b).crypto = s.crypto := rfl
@[simp] theorem State.setByte_nor (s : State) (a : Nat) (b : Byte) : (s.setByte a b).nor = s.nor := rfl
@[simp] theorem State.setByte_tsu (s : State) (a : Nat) (b : Byte) : (s.setByte a b).tsu = s.tsu := rfl
@[simp] theorem State.setByte_pwr (s : State) (a : Nat) (b : Byte) : (s.setByte a b).pwr = s.pwr := rfl
@[simp] theorem State.setByte_lfa (s : State) (a : Nat) (b : Byte) : (s.setByte a b).lfa = s.lfa := rfl
@[simp] theorem State.setByte_glt (s : State) (a : Nat) (b : Byte) : (s.setByte a b).glt = s.glt := rfl
@[simp] theorem State.setByte_uwb (s : State) (a : Nat) (b : Byte) : (s.setByte a b).uwb = s.uwb := rfl
@[simp] theorem State.setByte_loc (s : State) (a : Nat) (b : Byte) : (s.setByte a b).loc = s.loc := rfl
@[simp] theorem State.setByte_vrd (s : State) (a : Nat) (b : Byte) : (s.setByte a b).vrd = s.vrd := rfl
@[simp] theorem State.setByte_gov (s : State) (a : Nat) (b : Byte) : (s.setByte a b).gov = s.gov := rfl
@[simp] theorem State.setByte_can (s : State) (a : Nat) (b : Byte) : (s.setByte a b).can = s.can := rfl
@[simp] theorem State.setByte_tmp (s : State) (a : Nat) (b : Byte) : (s.setByte a b).tmp = s.tmp := rfl
@[simp] theorem State.setByte_hft (s : State) (a : Nat) (b : Byte) : (s.setByte a b).hft = s.hft := rfl
@[simp] theorem State.setByte_fences (s : State) (a : Nat) (b : Byte) : (s.setByte a b).fences = s.fences := rfl
@[simp] theorem State.setByte_jtagLocked (s : State) (a : Nat) (b : Byte) : (s.setByte a b).jtagLocked = s.jtagLocked := rfl
@[simp] theorem State.setByte_devnum (s : State) (a : Nat) (b : Byte) : (s.setByte a b).devnum = s.devnum := rfl
@[simp] theorem State.setByte_fwKey (s : State) (a : Nat) (b : Byte) : (s.setByte a b).fwKey = s.fwKey := rfl
@[simp] theorem State.setByte_appFwBytes (s : State) (a : Nat) (b : Byte) : (s.setByte a b).appFwBytes = s.appFwBytes := rfl

/-! `raise` changes `evt` alone. -/
@[simp] theorem State.raise_pending (s : State) (e : Nat) : (s.raise e).pending = s.pending := rfl
@[simp] theorem State.raise_now (s : State) (e : Nat) : (s.raise e).now = s.now := rfl
@[simp] theorem State.raise_fresh (s : State) (e : Nat) : (s.raise e).fresh = s.fresh := rfl
@[simp] theorem State.raise_regs (s : State) (e : Nat) : (s.raise e).regs = s.regs := rfl
@[simp] theorem State.raise_mem (s : State) (e : Nat) : (s.raise e).mem = s.mem := rfl
@[simp] theorem State.raise_tim (s : State) (e : Nat) : (s.raise e).tim = s.tim := rfl
@[simp] theorem State.raise_pins (s : State) (e : Nat) : (s.raise e).pins = s.pins := rfl
@[simp] theorem State.raise_que (s : State) (e : Nat) : (s.raise e).que = s.que := rfl
@[simp] theorem State.raise_mbx (s : State) (e : Nat) : (s.raise e).mbx = s.mbx := rfl
@[simp] theorem State.raise_hif (s : State) (e : Nat) : (s.raise e).hif = s.hif := rfl
@[simp] theorem State.raise_jnl (s : State) (e : Nat) : (s.raise e).jnl = s.jnl := rfl
@[simp] theorem State.raise_lkt (s : State) (e : Nat) : (s.raise e).lkt = s.lkt := rfl
@[simp] theorem State.raise_priv (s : State) (e : Nat) : (s.raise e).priv = s.priv := rfl
@[simp] theorem State.raise_auth (s : State) (e : Nat) : (s.raise e).auth = s.auth := rfl
@[simp] theorem State.raise_key (s : State) (e : Nat) : (s.raise e).key = s.key := rfl
@[simp] theorem State.raise_crd (s : State) (e : Nat) : (s.raise e).crd = s.crd := rfl
@[simp] theorem State.raise_crypto (s : State) (e : Nat) : (s.raise e).crypto = s.crypto := rfl
@[simp] theorem State.raise_nor (s : State) (e : Nat) : (s.raise e).nor = s.nor := rfl
@[simp] theorem State.raise_tsu (s : State) (e : Nat) : (s.raise e).tsu = s.tsu := rfl
@[simp] theorem State.raise_pwr (s : State) (e : Nat) : (s.raise e).pwr = s.pwr := rfl
@[simp] theorem State.raise_lfa (s : State) (e : Nat) : (s.raise e).lfa = s.lfa := rfl
@[simp] theorem State.raise_glt (s : State) (e : Nat) : (s.raise e).glt = s.glt := rfl
@[simp] theorem State.raise_uwb (s : State) (e : Nat) : (s.raise e).uwb = s.uwb := rfl
@[simp] theorem State.raise_loc (s : State) (e : Nat) : (s.raise e).loc = s.loc := rfl
@[simp] theorem State.raise_vrd (s : State) (e : Nat) : (s.raise e).vrd = s.vrd := rfl
@[simp] theorem State.raise_gov (s : State) (e : Nat) : (s.raise e).gov = s.gov := rfl
@[simp] theorem State.raise_can (s : State) (e : Nat) : (s.raise e).can = s.can := rfl
@[simp] theorem State.raise_tmp (s : State) (e : Nat) : (s.raise e).tmp = s.tmp := rfl
@[simp] theorem State.raise_hft (s : State) (e : Nat) : (s.raise e).hft = s.hft := rfl
@[simp] theorem State.raise_fences (s : State) (e : Nat) : (s.raise e).fences = s.fences := rfl
@[simp] theorem State.raise_jtagLocked (s : State) (e : Nat) : (s.raise e).jtagLocked = s.jtagLocked := rfl
@[simp] theorem State.raise_devnum (s : State) (e : Nat) : (s.raise e).devnum = s.devnum := rfl
@[simp] theorem State.raise_fwKey (s : State) (e : Nat) : (s.raise e).fwKey = s.fwKey := rfl
@[simp] theorem State.raise_appFwBytes (s : State) (e : Nat) : (s.raise e).appFwBytes = s.appFwBytes := rfl

/-! `setRing` changes `que` alone. -/
@[simp] theorem State.setRing_pending (s : State) (q : Nat) (l : List Entry) : (s.setRing q l).pending = s.pending := rfl
@[simp] theorem State.setRing_now (s : State) (q : Nat) (l : List Entry) : (s.setRing q l).now = s.now := rfl
@[simp] theorem State.setRing_fresh (s : State) (q : Nat) (l : List Entry) : (s.setRing q l).fresh = s.fresh := rfl
@[simp] theorem State.setRing_regs (s : State) (q : Nat) (l : List Entry) : (s.setRing q l).regs = s.regs := rfl
@[simp] theorem State.setRing_mem (s : State) (q : Nat) (l : List Entry) : (s.setRing q l).mem = s.mem := rfl
@[simp] theorem State.setRing_tim (s : State) (q : Nat) (l : List Entry) : (s.setRing q l).tim = s.tim := rfl
@[simp] theorem State.setRing_pins (s : State) (q : Nat) (l : List Entry) : (s.setRing q l).pins = s.pins := rfl
@[simp] theorem State.setRing_evt (s : State) (q : Nat) (l : List Entry) : (s.setRing q l).evt = s.evt := rfl
@[simp] theorem State.setRing_mbx (s : State) (q : Nat) (l : List Entry) : (s.setRing q l).mbx = s.mbx := rfl
@[simp] theorem State.setRing_hif (s : State) (q : Nat) (l : List Entry) : (s.setRing q l).hif = s.hif := rfl
@[simp] theorem State.setRing_jnl (s : State) (q : Nat) (l : List Entry) : (s.setRing q l).jnl = s.jnl := rfl
@[simp] theorem State.setRing_lkt (s : State) (q : Nat) (l : List Entry) : (s.setRing q l).lkt = s.lkt := rfl
@[simp] theorem State.setRing_priv (s : State) (q : Nat) (l : List Entry) : (s.setRing q l).priv = s.priv := rfl
@[simp] theorem State.setRing_auth (s : State) (q : Nat) (l : List Entry) : (s.setRing q l).auth = s.auth := rfl
@[simp] theorem State.setRing_key (s : State) (q : Nat) (l : List Entry) : (s.setRing q l).key = s.key := rfl
@[simp] theorem State.setRing_crd (s : State) (q : Nat) (l : List Entry) : (s.setRing q l).crd = s.crd := rfl
@[simp] theorem State.setRing_crypto (s : State) (q : Nat) (l : List Entry) : (s.setRing q l).crypto = s.crypto := rfl
@[simp] theorem State.setRing_nor (s : State) (q : Nat) (l : List Entry) : (s.setRing q l).nor = s.nor := rfl
@[simp] theorem State.setRing_tsu (s : State) (q : Nat) (l : List Entry) : (s.setRing q l).tsu = s.tsu := rfl
@[simp] theorem State.setRing_pwr (s : State) (q : Nat) (l : List Entry) : (s.setRing q l).pwr = s.pwr := rfl
@[simp] theorem State.setRing_lfa (s : State) (q : Nat) (l : List Entry) : (s.setRing q l).lfa = s.lfa := rfl
@[simp] theorem State.setRing_glt (s : State) (q : Nat) (l : List Entry) : (s.setRing q l).glt = s.glt := rfl
@[simp] theorem State.setRing_uwb (s : State) (q : Nat) (l : List Entry) : (s.setRing q l).uwb = s.uwb := rfl
@[simp] theorem State.setRing_loc (s : State) (q : Nat) (l : List Entry) : (s.setRing q l).loc = s.loc := rfl
@[simp] theorem State.setRing_vrd (s : State) (q : Nat) (l : List Entry) : (s.setRing q l).vrd = s.vrd := rfl
@[simp] theorem State.setRing_gov (s : State) (q : Nat) (l : List Entry) : (s.setRing q l).gov = s.gov := rfl
@[simp] theorem State.setRing_can (s : State) (q : Nat) (l : List Entry) : (s.setRing q l).can = s.can := rfl
@[simp] theorem State.setRing_tmp (s : State) (q : Nat) (l : List Entry) : (s.setRing q l).tmp = s.tmp := rfl
@[simp] theorem State.setRing_hft (s : State) (q : Nat) (l : List Entry) : (s.setRing q l).hft = s.hft := rfl
@[simp] theorem State.setRing_fences (s : State) (q : Nat) (l : List Entry) : (s.setRing q l).fences = s.fences := rfl
@[simp] theorem State.setRing_jtagLocked (s : State) (q : Nat) (l : List Entry) : (s.setRing q l).jtagLocked = s.jtagLocked := rfl
@[simp] theorem State.setRing_devnum (s : State) (q : Nat) (l : List Entry) : (s.setRing q l).devnum = s.devnum := rfl
@[simp] theorem State.setRing_fwKey (s : State) (q : Nat) (l : List Entry) : (s.setRing q l).fwKey = s.fwKey := rfl
@[simp] theorem State.setRing_appFwBytes (s : State) (q : Nat) (l : List Entry) : (s.setRing q l).appFwBytes = s.appFwBytes := rfl

/-! `dropRunning` changes `que` alone. -/
@[simp] theorem State.dropRunning_pending (s : State) (r : Running) : (s.dropRunning r).pending = s.pending := rfl
@[simp] theorem State.dropRunning_now (s : State) (r : Running) : (s.dropRunning r).now = s.now := rfl
@[simp] theorem State.dropRunning_fresh (s : State) (r : Running) : (s.dropRunning r).fresh = s.fresh := rfl
@[simp] theorem State.dropRunning_regs (s : State) (r : Running) : (s.dropRunning r).regs = s.regs := rfl
@[simp] theorem State.dropRunning_mem (s : State) (r : Running) : (s.dropRunning r).mem = s.mem := rfl
@[simp] theorem State.dropRunning_tim (s : State) (r : Running) : (s.dropRunning r).tim = s.tim := rfl
@[simp] theorem State.dropRunning_pins (s : State) (r : Running) : (s.dropRunning r).pins = s.pins := rfl
@[simp] theorem State.dropRunning_evt (s : State) (r : Running) : (s.dropRunning r).evt = s.evt := rfl
@[simp] theorem State.dropRunning_mbx (s : State) (r : Running) : (s.dropRunning r).mbx = s.mbx := rfl
@[simp] theorem State.dropRunning_hif (s : State) (r : Running) : (s.dropRunning r).hif = s.hif := rfl
@[simp] theorem State.dropRunning_jnl (s : State) (r : Running) : (s.dropRunning r).jnl = s.jnl := rfl
@[simp] theorem State.dropRunning_lkt (s : State) (r : Running) : (s.dropRunning r).lkt = s.lkt := rfl
@[simp] theorem State.dropRunning_priv (s : State) (r : Running) : (s.dropRunning r).priv = s.priv := rfl
@[simp] theorem State.dropRunning_auth (s : State) (r : Running) : (s.dropRunning r).auth = s.auth := rfl
@[simp] theorem State.dropRunning_key (s : State) (r : Running) : (s.dropRunning r).key = s.key := rfl
@[simp] theorem State.dropRunning_crd (s : State) (r : Running) : (s.dropRunning r).crd = s.crd := rfl
@[simp] theorem State.dropRunning_crypto (s : State) (r : Running) : (s.dropRunning r).crypto = s.crypto := rfl
@[simp] theorem State.dropRunning_nor (s : State) (r : Running) : (s.dropRunning r).nor = s.nor := rfl
@[simp] theorem State.dropRunning_tsu (s : State) (r : Running) : (s.dropRunning r).tsu = s.tsu := rfl
@[simp] theorem State.dropRunning_pwr (s : State) (r : Running) : (s.dropRunning r).pwr = s.pwr := rfl
@[simp] theorem State.dropRunning_lfa (s : State) (r : Running) : (s.dropRunning r).lfa = s.lfa := rfl
@[simp] theorem State.dropRunning_glt (s : State) (r : Running) : (s.dropRunning r).glt = s.glt := rfl
@[simp] theorem State.dropRunning_uwb (s : State) (r : Running) : (s.dropRunning r).uwb = s.uwb := rfl
@[simp] theorem State.dropRunning_loc (s : State) (r : Running) : (s.dropRunning r).loc = s.loc := rfl
@[simp] theorem State.dropRunning_vrd (s : State) (r : Running) : (s.dropRunning r).vrd = s.vrd := rfl
@[simp] theorem State.dropRunning_gov (s : State) (r : Running) : (s.dropRunning r).gov = s.gov := rfl
@[simp] theorem State.dropRunning_can (s : State) (r : Running) : (s.dropRunning r).can = s.can := rfl
@[simp] theorem State.dropRunning_tmp (s : State) (r : Running) : (s.dropRunning r).tmp = s.tmp := rfl
@[simp] theorem State.dropRunning_hft (s : State) (r : Running) : (s.dropRunning r).hft = s.hft := rfl
@[simp] theorem State.dropRunning_fences (s : State) (r : Running) : (s.dropRunning r).fences = s.fences := rfl
@[simp] theorem State.dropRunning_jtagLocked (s : State) (r : Running) : (s.dropRunning r).jtagLocked = s.jtagLocked := rfl
@[simp] theorem State.dropRunning_devnum (s : State) (r : Running) : (s.dropRunning r).devnum = s.devnum := rfl
@[simp] theorem State.dropRunning_fwKey (s : State) (r : Running) : (s.dropRunning r).fwKey = s.fwKey := rfl
@[simp] theorem State.dropRunning_appFwBytes (s : State) (r : Running) : (s.dropRunning r).appFwBytes = s.appFwBytes := rfl

/-! `startCmd` changes `que` alone. -/
@[simp] theorem State.startCmd_pending (s : State) (r : Running) : (s.startCmd r).pending = s.pending := rfl
@[simp] theorem State.startCmd_now (s : State) (r : Running) : (s.startCmd r).now = s.now := rfl
@[simp] theorem State.startCmd_fresh (s : State) (r : Running) : (s.startCmd r).fresh = s.fresh := rfl
@[simp] theorem State.startCmd_regs (s : State) (r : Running) : (s.startCmd r).regs = s.regs := rfl
@[simp] theorem State.startCmd_mem (s : State) (r : Running) : (s.startCmd r).mem = s.mem := rfl
@[simp] theorem State.startCmd_tim (s : State) (r : Running) : (s.startCmd r).tim = s.tim := rfl
@[simp] theorem State.startCmd_pins (s : State) (r : Running) : (s.startCmd r).pins = s.pins := rfl
@[simp] theorem State.startCmd_evt (s : State) (r : Running) : (s.startCmd r).evt = s.evt := rfl
@[simp] theorem State.startCmd_mbx (s : State) (r : Running) : (s.startCmd r).mbx = s.mbx := rfl
@[simp] theorem State.startCmd_hif (s : State) (r : Running) : (s.startCmd r).hif = s.hif := rfl
@[simp] theorem State.startCmd_jnl (s : State) (r : Running) : (s.startCmd r).jnl = s.jnl := rfl
@[simp] theorem State.startCmd_lkt (s : State) (r : Running) : (s.startCmd r).lkt = s.lkt := rfl
@[simp] theorem State.startCmd_priv (s : State) (r : Running) : (s.startCmd r).priv = s.priv := rfl
@[simp] theorem State.startCmd_auth (s : State) (r : Running) : (s.startCmd r).auth = s.auth := rfl
@[simp] theorem State.startCmd_key (s : State) (r : Running) : (s.startCmd r).key = s.key := rfl
@[simp] theorem State.startCmd_crd (s : State) (r : Running) : (s.startCmd r).crd = s.crd := rfl
@[simp] theorem State.startCmd_crypto (s : State) (r : Running) : (s.startCmd r).crypto = s.crypto := rfl
@[simp] theorem State.startCmd_nor (s : State) (r : Running) : (s.startCmd r).nor = s.nor := rfl
@[simp] theorem State.startCmd_tsu (s : State) (r : Running) : (s.startCmd r).tsu = s.tsu := rfl
@[simp] theorem State.startCmd_pwr (s : State) (r : Running) : (s.startCmd r).pwr = s.pwr := rfl
@[simp] theorem State.startCmd_lfa (s : State) (r : Running) : (s.startCmd r).lfa = s.lfa := rfl
@[simp] theorem State.startCmd_glt (s : State) (r : Running) : (s.startCmd r).glt = s.glt := rfl
@[simp] theorem State.startCmd_uwb (s : State) (r : Running) : (s.startCmd r).uwb = s.uwb := rfl
@[simp] theorem State.startCmd_loc (s : State) (r : Running) : (s.startCmd r).loc = s.loc := rfl
@[simp] theorem State.startCmd_vrd (s : State) (r : Running) : (s.startCmd r).vrd = s.vrd := rfl
@[simp] theorem State.startCmd_gov (s : State) (r : Running) : (s.startCmd r).gov = s.gov := rfl
@[simp] theorem State.startCmd_can (s : State) (r : Running) : (s.startCmd r).can = s.can := rfl
@[simp] theorem State.startCmd_tmp (s : State) (r : Running) : (s.startCmd r).tmp = s.tmp := rfl
@[simp] theorem State.startCmd_hft (s : State) (r : Running) : (s.startCmd r).hft = s.hft := rfl
@[simp] theorem State.startCmd_fences (s : State) (r : Running) : (s.startCmd r).fences = s.fences := rfl
@[simp] theorem State.startCmd_jtagLocked (s : State) (r : Running) : (s.startCmd r).jtagLocked = s.jtagLocked := rfl
@[simp] theorem State.startCmd_devnum (s : State) (r : Running) : (s.startCmd r).devnum = s.devnum := rfl
@[simp] theorem State.startCmd_fwKey (s : State) (r : Running) : (s.startCmd r).fwKey = s.fwKey := rfl
@[simp] theorem State.startCmd_appFwBytes (s : State) (r : Running) : (s.startCmd r).appFwBytes = s.appFwBytes := rfl

/-! `setBox` changes `mbx` alone. -/
@[simp] theorem State.setBox_pending (s : State) (m : Nat) (x : Option Message) : (s.setBox m x).pending = s.pending := rfl
@[simp] theorem State.setBox_now (s : State) (m : Nat) (x : Option Message) : (s.setBox m x).now = s.now := rfl
@[simp] theorem State.setBox_fresh (s : State) (m : Nat) (x : Option Message) : (s.setBox m x).fresh = s.fresh := rfl
@[simp] theorem State.setBox_regs (s : State) (m : Nat) (x : Option Message) : (s.setBox m x).regs = s.regs := rfl
@[simp] theorem State.setBox_mem (s : State) (m : Nat) (x : Option Message) : (s.setBox m x).mem = s.mem := rfl
@[simp] theorem State.setBox_tim (s : State) (m : Nat) (x : Option Message) : (s.setBox m x).tim = s.tim := rfl
@[simp] theorem State.setBox_pins (s : State) (m : Nat) (x : Option Message) : (s.setBox m x).pins = s.pins := rfl
@[simp] theorem State.setBox_evt (s : State) (m : Nat) (x : Option Message) : (s.setBox m x).evt = s.evt := rfl
@[simp] theorem State.setBox_que (s : State) (m : Nat) (x : Option Message) : (s.setBox m x).que = s.que := rfl
@[simp] theorem State.setBox_hif (s : State) (m : Nat) (x : Option Message) : (s.setBox m x).hif = s.hif := rfl
@[simp] theorem State.setBox_jnl (s : State) (m : Nat) (x : Option Message) : (s.setBox m x).jnl = s.jnl := rfl
@[simp] theorem State.setBox_lkt (s : State) (m : Nat) (x : Option Message) : (s.setBox m x).lkt = s.lkt := rfl
@[simp] theorem State.setBox_priv (s : State) (m : Nat) (x : Option Message) : (s.setBox m x).priv = s.priv := rfl
@[simp] theorem State.setBox_auth (s : State) (m : Nat) (x : Option Message) : (s.setBox m x).auth = s.auth := rfl
@[simp] theorem State.setBox_key (s : State) (m : Nat) (x : Option Message) : (s.setBox m x).key = s.key := rfl
@[simp] theorem State.setBox_crd (s : State) (m : Nat) (x : Option Message) : (s.setBox m x).crd = s.crd := rfl
@[simp] theorem State.setBox_crypto (s : State) (m : Nat) (x : Option Message) : (s.setBox m x).crypto = s.crypto := rfl
@[simp] theorem State.setBox_nor (s : State) (m : Nat) (x : Option Message) : (s.setBox m x).nor = s.nor := rfl
@[simp] theorem State.setBox_tsu (s : State) (m : Nat) (x : Option Message) : (s.setBox m x).tsu = s.tsu := rfl
@[simp] theorem State.setBox_pwr (s : State) (m : Nat) (x : Option Message) : (s.setBox m x).pwr = s.pwr := rfl
@[simp] theorem State.setBox_lfa (s : State) (m : Nat) (x : Option Message) : (s.setBox m x).lfa = s.lfa := rfl
@[simp] theorem State.setBox_glt (s : State) (m : Nat) (x : Option Message) : (s.setBox m x).glt = s.glt := rfl
@[simp] theorem State.setBox_uwb (s : State) (m : Nat) (x : Option Message) : (s.setBox m x).uwb = s.uwb := rfl
@[simp] theorem State.setBox_loc (s : State) (m : Nat) (x : Option Message) : (s.setBox m x).loc = s.loc := rfl
@[simp] theorem State.setBox_vrd (s : State) (m : Nat) (x : Option Message) : (s.setBox m x).vrd = s.vrd := rfl
@[simp] theorem State.setBox_gov (s : State) (m : Nat) (x : Option Message) : (s.setBox m x).gov = s.gov := rfl
@[simp] theorem State.setBox_can (s : State) (m : Nat) (x : Option Message) : (s.setBox m x).can = s.can := rfl
@[simp] theorem State.setBox_tmp (s : State) (m : Nat) (x : Option Message) : (s.setBox m x).tmp = s.tmp := rfl
@[simp] theorem State.setBox_hft (s : State) (m : Nat) (x : Option Message) : (s.setBox m x).hft = s.hft := rfl
@[simp] theorem State.setBox_fences (s : State) (m : Nat) (x : Option Message) : (s.setBox m x).fences = s.fences := rfl
@[simp] theorem State.setBox_jtagLocked (s : State) (m : Nat) (x : Option Message) : (s.setBox m x).jtagLocked = s.jtagLocked := rfl
@[simp] theorem State.setBox_devnum (s : State) (m : Nat) (x : Option Message) : (s.setBox m x).devnum = s.devnum := rfl
@[simp] theorem State.setBox_fwKey (s : State) (m : Nat) (x : Option Message) : (s.setBox m x).fwKey = s.fwKey := rfl
@[simp] theorem State.setBox_appFwBytes (s : State) (m : Nat) (x : Option Message) : (s.setBox m x).appFwBytes = s.appFwBytes := rfl

/-! `hifOut` changes `hif` alone. -/
@[simp] theorem State.hifOut_pending (s : State) (b : List Byte) : (s.hifOut b).pending = s.pending := rfl
@[simp] theorem State.hifOut_now (s : State) (b : List Byte) : (s.hifOut b).now = s.now := rfl
@[simp] theorem State.hifOut_fresh (s : State) (b : List Byte) : (s.hifOut b).fresh = s.fresh := rfl
@[simp] theorem State.hifOut_regs (s : State) (b : List Byte) : (s.hifOut b).regs = s.regs := rfl
@[simp] theorem State.hifOut_mem (s : State) (b : List Byte) : (s.hifOut b).mem = s.mem := rfl
@[simp] theorem State.hifOut_tim (s : State) (b : List Byte) : (s.hifOut b).tim = s.tim := rfl
@[simp] theorem State.hifOut_pins (s : State) (b : List Byte) : (s.hifOut b).pins = s.pins := rfl
@[simp] theorem State.hifOut_evt (s : State) (b : List Byte) : (s.hifOut b).evt = s.evt := rfl
@[simp] theorem State.hifOut_que (s : State) (b : List Byte) : (s.hifOut b).que = s.que := rfl
@[simp] theorem State.hifOut_mbx (s : State) (b : List Byte) : (s.hifOut b).mbx = s.mbx := rfl
@[simp] theorem State.hifOut_jnl (s : State) (b : List Byte) : (s.hifOut b).jnl = s.jnl := rfl
@[simp] theorem State.hifOut_lkt (s : State) (b : List Byte) : (s.hifOut b).lkt = s.lkt := rfl
@[simp] theorem State.hifOut_priv (s : State) (b : List Byte) : (s.hifOut b).priv = s.priv := rfl
@[simp] theorem State.hifOut_auth (s : State) (b : List Byte) : (s.hifOut b).auth = s.auth := rfl
@[simp] theorem State.hifOut_key (s : State) (b : List Byte) : (s.hifOut b).key = s.key := rfl
@[simp] theorem State.hifOut_crd (s : State) (b : List Byte) : (s.hifOut b).crd = s.crd := rfl
@[simp] theorem State.hifOut_crypto (s : State) (b : List Byte) : (s.hifOut b).crypto = s.crypto := rfl
@[simp] theorem State.hifOut_nor (s : State) (b : List Byte) : (s.hifOut b).nor = s.nor := rfl
@[simp] theorem State.hifOut_tsu (s : State) (b : List Byte) : (s.hifOut b).tsu = s.tsu := rfl
@[simp] theorem State.hifOut_pwr (s : State) (b : List Byte) : (s.hifOut b).pwr = s.pwr := rfl
@[simp] theorem State.hifOut_lfa (s : State) (b : List Byte) : (s.hifOut b).lfa = s.lfa := rfl
@[simp] theorem State.hifOut_glt (s : State) (b : List Byte) : (s.hifOut b).glt = s.glt := rfl
@[simp] theorem State.hifOut_uwb (s : State) (b : List Byte) : (s.hifOut b).uwb = s.uwb := rfl
@[simp] theorem State.hifOut_loc (s : State) (b : List Byte) : (s.hifOut b).loc = s.loc := rfl
@[simp] theorem State.hifOut_vrd (s : State) (b : List Byte) : (s.hifOut b).vrd = s.vrd := rfl
@[simp] theorem State.hifOut_gov (s : State) (b : List Byte) : (s.hifOut b).gov = s.gov := rfl
@[simp] theorem State.hifOut_can (s : State) (b : List Byte) : (s.hifOut b).can = s.can := rfl
@[simp] theorem State.hifOut_tmp (s : State) (b : List Byte) : (s.hifOut b).tmp = s.tmp := rfl
@[simp] theorem State.hifOut_hft (s : State) (b : List Byte) : (s.hifOut b).hft = s.hft := rfl
@[simp] theorem State.hifOut_fences (s : State) (b : List Byte) : (s.hifOut b).fences = s.fences := rfl
@[simp] theorem State.hifOut_jtagLocked (s : State) (b : List Byte) : (s.hifOut b).jtagLocked = s.jtagLocked := rfl
@[simp] theorem State.hifOut_devnum (s : State) (b : List Byte) : (s.hifOut b).devnum = s.devnum := rfl
@[simp] theorem State.hifOut_fwKey (s : State) (b : List Byte) : (s.hifOut b).fwKey = s.fwKey := rfl
@[simp] theorem State.hifOut_appFwBytes (s : State) (b : List Byte) : (s.hifOut b).appFwBytes = s.appFwBytes := rfl

/-! `draw` changes `fresh` alone. -/
@[simp] theorem State.draw_pending (s : State) (n : Nat) : ((s.draw n).2).pending = s.pending := rfl
@[simp] theorem State.draw_now (s : State) (n : Nat) : ((s.draw n).2).now = s.now := rfl
@[simp] theorem State.draw_regs (s : State) (n : Nat) : ((s.draw n).2).regs = s.regs := rfl
@[simp] theorem State.draw_mem (s : State) (n : Nat) : ((s.draw n).2).mem = s.mem := rfl
@[simp] theorem State.draw_tim (s : State) (n : Nat) : ((s.draw n).2).tim = s.tim := rfl
@[simp] theorem State.draw_pins (s : State) (n : Nat) : ((s.draw n).2).pins = s.pins := rfl
@[simp] theorem State.draw_evt (s : State) (n : Nat) : ((s.draw n).2).evt = s.evt := rfl
@[simp] theorem State.draw_que (s : State) (n : Nat) : ((s.draw n).2).que = s.que := rfl
@[simp] theorem State.draw_mbx (s : State) (n : Nat) : ((s.draw n).2).mbx = s.mbx := rfl
@[simp] theorem State.draw_hif (s : State) (n : Nat) : ((s.draw n).2).hif = s.hif := rfl
@[simp] theorem State.draw_jnl (s : State) (n : Nat) : ((s.draw n).2).jnl = s.jnl := rfl
@[simp] theorem State.draw_lkt (s : State) (n : Nat) : ((s.draw n).2).lkt = s.lkt := rfl
@[simp] theorem State.draw_priv (s : State) (n : Nat) : ((s.draw n).2).priv = s.priv := rfl
@[simp] theorem State.draw_auth (s : State) (n : Nat) : ((s.draw n).2).auth = s.auth := rfl
@[simp] theorem State.draw_key (s : State) (n : Nat) : ((s.draw n).2).key = s.key := rfl
@[simp] theorem State.draw_crd (s : State) (n : Nat) : ((s.draw n).2).crd = s.crd := rfl
@[simp] theorem State.draw_crypto (s : State) (n : Nat) : ((s.draw n).2).crypto = s.crypto := rfl
@[simp] theorem State.draw_nor (s : State) (n : Nat) : ((s.draw n).2).nor = s.nor := rfl
@[simp] theorem State.draw_tsu (s : State) (n : Nat) : ((s.draw n).2).tsu = s.tsu := rfl
@[simp] theorem State.draw_pwr (s : State) (n : Nat) : ((s.draw n).2).pwr = s.pwr := rfl
@[simp] theorem State.draw_lfa (s : State) (n : Nat) : ((s.draw n).2).lfa = s.lfa := rfl
@[simp] theorem State.draw_glt (s : State) (n : Nat) : ((s.draw n).2).glt = s.glt := rfl
@[simp] theorem State.draw_uwb (s : State) (n : Nat) : ((s.draw n).2).uwb = s.uwb := rfl
@[simp] theorem State.draw_loc (s : State) (n : Nat) : ((s.draw n).2).loc = s.loc := rfl
@[simp] theorem State.draw_vrd (s : State) (n : Nat) : ((s.draw n).2).vrd = s.vrd := rfl
@[simp] theorem State.draw_gov (s : State) (n : Nat) : ((s.draw n).2).gov = s.gov := rfl
@[simp] theorem State.draw_can (s : State) (n : Nat) : ((s.draw n).2).can = s.can := rfl
@[simp] theorem State.draw_tmp (s : State) (n : Nat) : ((s.draw n).2).tmp = s.tmp := rfl
@[simp] theorem State.draw_hft (s : State) (n : Nat) : ((s.draw n).2).hft = s.hft := rfl
@[simp] theorem State.draw_fences (s : State) (n : Nat) : ((s.draw n).2).fences = s.fences := rfl
@[simp] theorem State.draw_jtagLocked (s : State) (n : Nat) : ((s.draw n).2).jtagLocked = s.jtagLocked := rfl
@[simp] theorem State.draw_devnum (s : State) (n : Nat) : ((s.draw n).2).devnum = s.devnum := rfl
@[simp] theorem State.draw_fwKey (s : State) (n : Nat) : ((s.draw n).2).fwKey = s.fwKey := rfl
@[simp] theorem State.draw_appFwBytes (s : State) (n : Nat) : ((s.draw n).2).appFwBytes = s.appFwBytes := rfl

/-! Registers. -/

/-- A bank of an instance reads what was stored, cut to its width. -/
theorem State.regB_setB (s : State) (f : Field) (i b v : Nat) : (s.setB f i b v).regB f i b = low f.width v := storeGet_storeSet_self ..

/-- A register field reads what was stored, cut to its width. -/
@[simp] theorem State.reg_set (s : State) (f : Field) (v : Nat) : (s.set f v).reg f = low f.width v := storeGet_storeSet_self ..

/-- An instance of a field reads what was stored, cut to its width. -/
@[simp] theorem State.regI_setI (s : State) (f : Field) (i v : Nat) : (s.setI f i v).regI f i = low f.width v := storeGet_storeSet_self ..

/-- A field whose key differs reads as before. -/
theorem State.regB_setB_ne (s : State) (f g : Field) (i b j c v : Nat) (h : g.key j c ≠ f.key i b) : (s.setB f i b v).regB g j c = s.regB g j c := storeGet_storeSet_ne _ _ _ _ _ _ h

/-- `set` of another key leaves a field alone. -/
theorem State.reg_set_ne (s : State) (f g : Field) (v : Nat) (h : g.key 0 0 ≠ f.key 0 0) : (s.set f v).reg g = s.reg g := State.regB_setB_ne s f g 0 0 0 0 v h

@[simp] theorem State.regB_setByte (s : State) (a : Nat) (b : Byte) (g : Field) (j c : Nat) : (s.setByte a b).regB g j c = s.regB g j c := rfl
@[simp] theorem State.regI_setByte (s : State) (a : Nat) (b : Byte) (g : Field) (j : Nat) : (s.setByte a b).regI g j = s.regI g j := rfl
@[simp] theorem State.reg_setByte (s : State) (a : Nat) (b : Byte) (g : Field) : (s.setByte a b).reg g = s.reg g := rfl
@[simp] theorem State.regB_raise (s : State) (e : Nat) (g : Field) (j c : Nat) : (s.raise e).regB g j c = s.regB g j c := rfl
@[simp] theorem State.regI_raise (s : State) (e : Nat) (g : Field) (j : Nat) : (s.raise e).regI g j = s.regI g j := rfl
@[simp] theorem State.reg_raise (s : State) (e : Nat) (g : Field) : (s.raise e).reg g = s.reg g := rfl
@[simp] theorem State.regB_setRing (s : State) (q : Nat) (l : List Entry) (g : Field) (j c : Nat) : (s.setRing q l).regB g j c = s.regB g j c := rfl
@[simp] theorem State.regI_setRing (s : State) (q : Nat) (l : List Entry) (g : Field) (j : Nat) : (s.setRing q l).regI g j = s.regI g j := rfl
@[simp] theorem State.reg_setRing (s : State) (q : Nat) (l : List Entry) (g : Field) : (s.setRing q l).reg g = s.reg g := rfl
@[simp] theorem State.regB_dropRunning (s : State) (r : Running) (g : Field) (j c : Nat) : (s.dropRunning r).regB g j c = s.regB g j c := rfl
@[simp] theorem State.regI_dropRunning (s : State) (r : Running) (g : Field) (j : Nat) : (s.dropRunning r).regI g j = s.regI g j := rfl
@[simp] theorem State.reg_dropRunning (s : State) (r : Running) (g : Field) : (s.dropRunning r).reg g = s.reg g := rfl
@[simp] theorem State.regB_startCmd (s : State) (r : Running) (g : Field) (j c : Nat) : (s.startCmd r).regB g j c = s.regB g j c := rfl
@[simp] theorem State.regI_startCmd (s : State) (r : Running) (g : Field) (j : Nat) : (s.startCmd r).regI g j = s.regI g j := rfl
@[simp] theorem State.reg_startCmd (s : State) (r : Running) (g : Field) : (s.startCmd r).reg g = s.reg g := rfl
@[simp] theorem State.regB_setBox (s : State) (m : Nat) (x : Option Message) (g : Field) (j c : Nat) : (s.setBox m x).regB g j c = s.regB g j c := rfl
@[simp] theorem State.regI_setBox (s : State) (m : Nat) (x : Option Message) (g : Field) (j : Nat) : (s.setBox m x).regI g j = s.regI g j := rfl
@[simp] theorem State.reg_setBox (s : State) (m : Nat) (x : Option Message) (g : Field) : (s.setBox m x).reg g = s.reg g := rfl
@[simp] theorem State.regB_hifOut (s : State) (b : List Byte) (g : Field) (j c : Nat) : (s.hifOut b).regB g j c = s.regB g j c := rfl
@[simp] theorem State.regI_hifOut (s : State) (b : List Byte) (g : Field) (j : Nat) : (s.hifOut b).regI g j = s.regI g j := rfl
@[simp] theorem State.reg_hifOut (s : State) (b : List Byte) (g : Field) : (s.hifOut b).reg g = s.reg g := rfl
@[simp] theorem State.regB_draw (s : State) (n : Nat) (g : Field) (j c : Nat) : ((s.draw n).2).regB g j c = s.regB g j c := rfl
@[simp] theorem State.regI_draw (s : State) (n : Nat) (g : Field) (j : Nat) : ((s.draw n).2).regI g j = s.regI g j := rfl
@[simp] theorem State.reg_draw (s : State) (n : Nat) (g : Field) : ((s.draw n).2).reg g = s.reg g := rfl

/-! Memory. -/

/-- A byte reads what was stored there. -/
@[simp] theorem State.byte_setByte (s : State) (a : Nat) (b : Byte) : (s.setByte a b).byte a = b := storeGet_storeSet_self ..

/-- Another byte reads as before. -/
theorem State.byte_setByte_ne (s : State) (a c : Nat) (b : Byte) (h : c ≠ a) : (s.setByte a b).byte c = s.byte c := storeGet_storeSet_ne _ _ _ _ _ _ h

/-- `setBytes` changes memory alone. -/
theorem State.setBytes_only (s : State) (a : Nat) (l : List Byte) : ∃ m, s.setBytes a l = { s with mem := m } := by
  induction l generalizing s a with
  | nil => exact ⟨s.mem, rfl⟩
  | cons b t ih =>
    obtain ⟨m, hm⟩ := ih (s.setByte a b) (a + 1)
    exact ⟨m, by simp only [State.setBytes, hm]; rfl⟩

/-- A byte outside the stored ones reads as before. -/
theorem State.byte_setBytes_out (s : State) (a c : Nat) (l : List Byte) (h : c < a ∨ a + l.length ≤ c) : (s.setBytes a l).byte c = s.byte c := by
  induction l generalizing s a with
  | nil => rfl
  | cons b t ih =>
    simp only [List.length_cons] at h
    rw [State.setBytes, ih (s.setByte a b) (a + 1) (by omega), State.byte_setByte_ne s a c b (by omega)]

/-- A stored byte reads as stored. -/
theorem State.byte_setBytes_in (s : State) (a i : Nat) (l : List Byte) (h : i < l.length) : (s.setBytes a l).byte (a + i) = l.getD i 0 := by
  induction l generalizing s a i with
  | nil => simp at h
  | cons b t ih =>
    cases i with
    | zero => rw [State.setBytes, Nat.add_zero, State.byte_setBytes_out _ _ _ _ (by omega)]; simp
    | succ i =>
      have := ih (s.setByte a b) (a + 1) i (by simpa using h)
      rw [State.setBytes, show a + (i + 1) = a + 1 + i by omega, this]
      simp

/-- Storing bytes keeps memory's canonical form. -/
theorem State.setBytes_memoryWf (s : State) (a : Nat) (l : List Byte) (h : memoryWf s.mem = true) : memoryWf (s.setBytes a l).mem = true := by
  induction l generalizing s a with
  | nil => exact h
  | cons b t ih => exact ih (s.setByte a b) (a + 1) (memoryWf_storeSet h a b)

/-- Forgetting bytes keeps memory's canonical form. -/
theorem State.keepMem_memoryWf (s : State) (p : Nat → Bool) (h : memoryWf s.mem = true) : memoryWf (s.keepMem p).mem = true := memoryWf_filter h _

/-- Storing a register field keeps the keys rising. -/
theorem State.setB_regsWf (s : State) (f : Field) (i b v : Nat) (h : regsWf s.regs = true) : regsWf (s.setB f i b v).regs = true := regsWf_storeSet h ..

/-! Rings. -/

@[simp] theorem State.ring_setRing (s : State) (q : Nat) (l : List Entry) : (s.setRing q l).ring q = l := storeGet_storeSet_self ..

theorem State.ring_setRing_ne (s : State) (q p : Nat) (l : List Entry) (h : p ≠ q) : (s.setRing q l).ring p = s.ring p := storeGet_storeSet_ne _ _ _ _ _ _ h

end Sys2Proof.Machine
end

