-- ==== Sys2Proof/Laws/Ops.lean ====
section
/-! SUPPORT. For each shared operation, one lemma that says once which parts of the state it can change; what a placed entry, a completion and an event leave to be read. -/
namespace Sys2Proof.Machine

/-! ## Folds over numbers -/

theorem foldNat_eq_foldl {α : Type} (f : Nat → α → Nat) (n : Nat) (l : List α) : foldNat f n l = l.foldl f n := by
  induction l generalizing n with
  | nil => simp [foldNat]
  | cons a l ih =>
    by_cases h : n = 0
    · simp [foldNat, h, ih]
    · simp [foldNat, h, ih]

/-! ## Bytes stored and read back -/

theorem State.bytes_congr {s t : State} (h : s.mem = t.mem) (a n : Nat) : s.bytes a n = t.bytes a n := by
  induction n generalizing a with
  | zero => rfl
  | succ n ih => simp [State.bytes, State.byte, h, ih]

theorem State.bytes_eq_of_byte (s : State) (a : Nat) (l : List Byte) (h : ∀ i, i < l.length → s.byte (a + i) = l.getD i 0) : s.bytes a l.length = l := by
  induction l generalizing a with
  | nil => rfl
  | cons b l ih =>
    have h0 := h 0 (by simp)
    have hr : ∀ i, i < l.length → s.byte (a + 1 + i) = l.getD i 0 := fun i hi => by
      have := h (i + 1) (by simpa using hi)
      rw [show a + 1 + i = a + (i + 1) by omega]
      simpa using this
    simp only [List.length_cons, State.bytes]
    rw [ih (a + 1) hr]
    simpa using h0

/-- What was stored is read back. -/
theorem State.bytes_setBytes (s : State) (a : Nat) (l : List Byte) : (s.setBytes a l).bytes a l.length = l :=
  State.bytes_eq_of_byte _ a l (fun i hi => State.byte_setBytes_in s a i l hi)

/-! ## Only -/

theorem Only.refl (l : List Part) (s : State) : Only l s s := by
  intro p _
  cases p <;> rfl

theorem Only.trans {l : List Part} {s t u : State} (h : Only l s t) (k : Only l t u) : Only l s u := by
  intro p hp
  have h1 := h p hp
  have h2 := k p hp
  cases p <;> exact Eq.trans h2 h1

theorem Only.mono {l m : List Part} {s t : State} (h : Only l s t) (k : l ⊆ m) : Only m s t := fun p hp => h p (fun x => hp (k x))

/-- A fold of steps that each keep to some parts keeps to them. -/
theorem Only.foldl {α : Type} {l : List Part} (k : State → α → State) (h : ∀ u x, Only l u (k u x)) (xs : List α) (s : State) : Only l s (xs.foldl k s) := by
  induction xs generalizing s with
  | nil => exact Only.refl l s
  | cons x t ih => exact (h s x).trans (ih (k s x))

/-! ## Plain updates -/

theorem State.setB_only (s : State) (f : Field) (i b v : Nat) : Only [.regs] s (s.setB f i b v) := by
  intro p hp
  cases p <;> first | rfl | simp at hp

theorem State.set_only (s : State) (f : Field) (v : Nat) : Only [.regs] s (s.set f v) := State.setB_only _ _ _ _ _

theorem State.setI_only (s : State) (f : Field) (i v : Nat) : Only [.regs] s (s.setI f i v) := State.setB_only _ _ _ _ _

theorem State.bumpI_only (s : State) (f : Field) (i : Nat) : Only [.regs] s (s.bumpI f i) := State.setB_only _ _ _ _ _

theorem State.bump_only (s : State) (f : Field) : Only [.regs] s (s.bump f) := State.setB_only _ _ _ _ _

theorem State.wrapUp_only (s : State) (f : Field) : Only [.regs] s (s.wrapUp f) := State.setB_only _ _ _ _ _

theorem State.resetFields_only (s : State) (c : ResetClass) : Only [.regs] s (s.resetFields c) := by
  intro p hp
  cases p <;> first | rfl | simp at hp

theorem State.setByte_only (s : State) (a : Nat) (b : Byte) : Only [.mem] s (s.setByte a b) := by
  intro p hp
  cases p <;> first | rfl | simp at hp

theorem State.setBytes_only' (s : State) (a : Nat) (l : List Byte) : Only [.mem] s (s.setBytes a l) := by
  obtain ⟨m, h⟩ := State.setBytes_only s a l
  rw [h]
  intro p hp
  cases p <;> first | rfl | simp at hp

theorem State.keepMem_only (s : State) (k : Nat → Bool) : Only [.mem] s (s.keepMem k) := by
  intro p hp
  cases p <;> first | rfl | simp at hp

theorem State.draw_only (s : State) (n : Nat) : Only [.fresh] s (s.draw n).2 := by
  intro p hp
  cases p <;> first | rfl | simp at hp

theorem State.raise_only (s : State) (e : Nat) : Only [.evt] s (s.raise e) := by
  intro p hp
  cases p <;> first | rfl | simp at hp

theorem State.raiseTo_only (s : State) (e m : Nat) : Only [.evt] s (s.raiseTo e m) := by
  unfold State.raiseTo
  intro p hp
  split
  · cases p <;> first | rfl | simp at hp
  · split
    · cases p <;> first | rfl | simp at hp
    · split
      · cases p <;> first | rfl | simp at hp
      · cases p <;> rfl

theorem State.setRing_only (s : State) (q : Nat) (l : List Entry) : Only [.que] s (s.setRing q l) := by
  intro p hp
  cases p <;> first | rfl | simp at hp

theorem State.dropRunning_only (s : State) (r : Running) : Only [.que] s (s.dropRunning r) := by
  intro p hp
  cases p <;> first | rfl | simp at hp

theorem State.startCmd_only (s : State) (r : Running) : Only [.que] s (s.startCmd r) := by
  intro p hp
  cases p <;> first | rfl | simp at hp

theorem State.seqUp_only (s : State) (q : Nat) : Only [.que, .regs] s (s.seqUp q) := by
  unfold State.seqUp
  split
  · exact (State.setI_only _ _ _ _).mono (by simp)
  · intro p hp
    cases p <;> first | rfl | simp at hp

/-! ## Entries, completions, records -/

theorem State.place_only (s : State) (q : Nat) (e : Entry) : Only [.que, .regs, .evt] s (s.place q e) := by
  have h : Only [.que, .regs, .evt] s ((s.setRing q (s.ring q ++ [{ e with seq := s.seqOf q }])).seqUp q) :=
    ((State.setRing_only _ _ _).mono (by simp)).trans ((State.seqUp_only _ _).mono (by simp))
  unfold State.place
  dsimp only
  split
  · exact h.trans ((State.raise_only _ _).mono (by simp))
  · exact h

theorem State.emit_only (s : State) (q block : Nat) (l : List Byte) : Only [.que, .regs, .evt] s (s.emit q block l) := State.place_only _ _ _

theorem State.completeAfter_only (s : State) (r : Running) (block status cause delay : Nat) (data : List Byte) :
    Only [.que, .regs, .evt] s (s.completeAfter r block status cause delay data) :=
  ((State.dropRunning_only s r).mono (by simp)).trans (State.place_only (s.dropRunning r) (r.ring + 16) _)

theorem State.complete_only (s : State) (r : Running) (block status cause : Nat) (data : List Byte) :
    Only [.que, .regs, .evt] s (s.complete r block status cause data) := State.completeAfter_only _ _ _ _ _ _ _

/-- A change of JNL's own state. -/
theorem only_jnl (s : State) (j : Jnl) : Only [.jnl] s { s with jnl := j } := by
  intro p hp
  cases p <;> first | rfl | simp at hp

theorem State.loseRecord_only (s : State) : Only [.jnl, .regs, .evt] s s.loseRecord := by
  have h : Only [.jnl, .regs, .evt] s (if s.reg Reg.JNL_LOST_COUNT = 0 then { s.raise 170 with jnl := { s.jnl with lostFirst := s.timeForm } } else s) := by
    intro p hp
    split <;> (cases p <;> first | rfl | simp at hp)
  exact h.trans (((only_jnl _ _).mono (by simp)).trans ((State.bump_only _ _).mono (by simp)))

theorem State.queueRecord_only (s : State) (n : NewRec) : Only [.jnl, .regs, .evt] s (s.queueRecord n) := by
  unfold State.queueRecord
  split
  · exact State.loseRecord_only s
  · intro p hp
    cases p <;> first | rfl | simp at hp

theorem State.journal_only (s : State) (block typ : Nat) (l : List Byte) : Only [.jnl, .regs, .evt] s (s.journal block typ l) := State.queueRecord_only _ _

theorem State.journalNotice_only (s : State) (block typ : Nat) (l : List Byte) : Only [.jnl, .regs, .evt, .que] s (s.journalNotice block typ l) := by
  unfold State.journalNotice
  dsimp only
  split
  · exact ((State.journal_only _ _ _ _).mono (by simp)).trans ((State.emit_only _ _ _ _).mono (by simp))
  · exact (State.journal_only _ _ _ _).mono (by simp)

/-- A change of the fences alone. -/
theorem only_fences (s : State) (f : Fences) : Only [.fences] s { s with fences := f } := by
  intro p hp
  cases p <;> first | rfl | simp at hp

/-- A fence changes registers, rings, events, the journal queue and the epochs alone. -/
theorem State.fence_only (s : State) (n kind status extra : Nat) (sel : Running → Bool) (cause : Running → Nat) :
    Only [.que, .regs, .evt, .fences, .jnl] s (s.fence n kind status extra sel cause) := by
  unfold State.fence
  dsimp only
  refine Only.trans (Only.foldl (l := [.que, .regs, .evt, .fences, .jnl])
    (fun t r => t.complete r (if n = 0xFF then blkSYS else n) status (cause r) []) (fun u x => (State.complete_only _ _ _ _ _ _).mono (by simp)) (s.que.running.filter sel) s) ?_
  exact ((only_fences _ _).mono (by simp)).trans (((State.set_only _ _ _).mono (by simp)).trans (((State.set_only _ _ _).mono (by simp)).trans
    (((State.set_only _ _ _).mono (by simp)).trans (((State.raise_only _ _).mono (by simp)).trans ((State.journalNotice_only _ _ _ _).mono (by simp))))))

/-- A command's continuation keeps to its parts when it finds no command, and else as the continuation does. -/
theorem State.withCmd_only {l : List Part} (s : State) (q code : Nat) (k : Running → State) (h : ∀ r, s.running q code = some r → Only l s (k r)) :
    Only l s (s.withCmd q code k) := by
  unfold State.withCmd
  split
  · exact h _ ‹_›
  · exact Only.refl l s

/-! ## What is read afterwards -/

@[simp] theorem State.ring_seqUp (s : State) (q p : Nat) : (s.seqUp q).ring p = s.ring p := by
  unfold State.seqUp
  split <;> rfl

/-- A placed entry stands last in its ring, with the ring's SEQ. -/
theorem State.ring_place (s : State) (q : Nat) (e : Entry) : (s.place q e).ring q = s.ring q ++ [{ e with seq := s.seqOf q }] := by
  have h : ((s.setRing q (s.ring q ++ [{ e with seq := s.seqOf q }])).seqUp q).ring q = s.ring q ++ [{ e with seq := s.seqOf q }] := by simp
  unfold State.place
  dsimp only
  split
  · exact h
  · exact h

/-- Another ring stays. -/
theorem State.ring_place_ne (s : State) (q p : Nat) (e : Entry) (hp : p ≠ q) : (s.place q e).ring p = s.ring p := by
  have h : ((s.setRing q (s.ring q ++ [{ e with seq := s.seqOf q }])).seqUp q).ring p = s.ring p := by
    rw [State.ring_seqUp]; exact State.ring_setRing_ne _ _ _ _ hp
  unfold State.place
  dsimp only
  split
  · exact h
  · exact h

theorem State.newest_place (s : State) (q : Nat) (e : Entry) : (s.place q e).newest q = some { e with seq := s.seqOf q } := by
  simp [State.newest, State.ring_place]

@[simp] theorem State.running_seqUp (s : State) (q : Nat) : (s.seqUp q).que.running = s.que.running := by
  unfold State.seqUp
  split <;> rfl

/-- Placing an entry runs no command and ends none. -/
theorem State.running_place (s : State) (q : Nat) (e : Entry) : (s.place q e).que.running = s.que.running := by
  have h : ((s.setRing q (s.ring q ++ [{ e with seq := s.seqOf q }])).seqUp q).que.running = s.que.running := by simp [State.setRing]
  unfold State.place
  dsimp only
  split
  · exact h
  · exact h

/-- No command with the ring and SEQ of a dropped one runs. -/
theorem State.runningSeq_dropRunning (s : State) (r : Running) : (s.dropRunning r).runningSeq r.ring r.entry.seq = none := by
  unfold State.runningSeq State.dropRunning
  rw [List.find?_eq_none]
  intro x hx
  have := (List.mem_filter.mp hx).2
  simp only [Bool.not_eq_true', Bool.and_eq_false_iff, beq_eq_false_iff_ne] at this
  simp only [Bool.and_eq_true, beq_iff_eq]
  tauto

/-- The low 8 bits of a small number are the number. -/
theorem low_of_lt {w n : Nat} (h : n < 2 ^ w) : low w n = n := Nat.mod_eq_of_lt h

/-- The low bits of a number lie below their power of two. -/
theorem low_lt (w n : Nat) : low w n < 2 ^ w := Nat.mod_lt _ (Nat.two_pow_pos w)

/-- The little-endian bytes of a number are as many as asked. -/
@[simp] theorem length_leBytes (n v : Nat) : (leBytes n v).length = n := by
  induction n generalizing v with
  | zero => rfl
  | succ n ih => simp [leBytes, ih]

/-- A filled list has the length asked. -/
@[simp] theorem length_fit (n : Nat) (l : List Byte) : (Sys2Proof.fit n l).length = n := by
  simp [Sys2Proof.fit]

/-- A completed command has its completion (Table 15-5). -/
theorem State.completed_completeAfter (s : State) (r : Running) (block status cause delay : Nat) (data : List Byte) :
    Completed r block status cause data (s.completeAfter r block status cause delay data) := by
  refine ⟨_, State.newest_place _ _ _, rfl, rfl, rfl, rfl, rfl, ?_, ?_, ?_, ?_⟩
  · show (if status = stOK ∧ 1 ≤ delay then stDELAYED else status) = status ∨ status = stOK ∧ (if status = stOK ∧ 1 ≤ delay then stDELAYED else status) = stDELAYED
    split
    · exact .inr ⟨(‹_ ∧ _›).1, rfl⟩
    · exact .inl rfl
  · simp [completionEntry, slice, Sys2Proof.fit, List.take_append]
  · have h : ∀ (a b c : List Byte), a.length = 4 → b.length = 4 → c.length = 40 → slice (a ++ b ++ c) 8 40 = c := by
      intro a b c ha hb hc
      unfold slice Sys2Proof.fit
      rw [List.drop_append_of_le_length (by simp [ha, hb]), List.drop_eq_nil_of_le (by simp [ha, hb])]
      simp [hc]
    exact h _ _ _ (by simp) (by simp) (by simp)
  · have h : ∀ q e u, (State.place u q e).runningSeq r.ring r.entry.seq = u.runningSeq r.ring r.entry.seq := by
      intro q e u
      unfold State.runningSeq
      rw [State.running_place]
    show ((s.dropRunning r).place _ _).runningSeq _ _ = none
    rw [h]
    exact State.runningSeq_dropRunning s r

/-- A command completed with the delay of its wait has its completion. -/
theorem State.completed_complete (s : State) (r : Running) (block status cause : Nat) (data : List Byte) :
    Completed r block status cause data (s.complete r block status cause data) := State.completed_completeAfter _ _ _ _ _ _ _

end Sys2Proof.Machine
end

