-- ==== Sys2Proof/Machine/PinOps.lean ====
section
/-! DEFINITION. The output pins of Table 02-3 as they stand in a state of the machine (R51, R58, R60, R753). Nothing stores them: each follows from its domain and from the block that
drives it. -/
namespace Sys2Proof.Machine

/-- The output pins and pin groups of Table 02-3. -/
inductive Pin where
  | lf (channel : Nat)
  | uwb
  | fdN
  | hspiIo
  | irq (k : Nat)
  | canTx (c : Nat)
  | cspi
  | nspi
  | cspiCsN
  | nspiCsN
  | cfgWpN
  | relA
  | relBn
  | tsuTx
  | pairArb
  | pairRstN
  | bootStat (i : Nat)
  | tmpMeshOut
  | tdo
  | gpio (n : Nat)
  deriving DecidableEq, Repr

/-- How a pin stands: at a level, at high impedance, at high impedance with the internal 100 kΩ pull-down active, or driven by the traffic of its interface, whose waveform is timing
(assumption 91). -/
inductive Level where
  | low
  | high
  | float
  | pulledDown
  | traffic
  deriving DecidableEq, Repr

/-- A driven level; none floats. -/
def pinLevel (v : Option Bool) : Level := match v with | some true => .high | some false => .low | none => .float

/-- An open-drain pin: low while driven, released otherwise. -/
def openDrain (driven : Bool) : Level := if driven then .low else .float

/-- Whether the MAIN domain drives its outputs (R51, R60, R818, R862): the logic stage is complete, there is an image or the device is in recovery, and VIO is there. -/
def State.mainDrives (s : State) : Bool := s.awake && s.pwr.phase != .noImage && !s.pwr.vioLow

/-- Whether the LISTEN domain is up (R58): in run, in S1 to S3, and in the stages of a wake from them. -/
def State.listenUp (s : State) : Bool :=
  s.awake || (match s.pwr.phase with | .sleep n => n != 4 | .stage _ => decide (1 ≤ s.pwr.wakeFrom ∧ s.pwr.wakeFrom ≤ 3) | _ => false)

/-- How an output stands; a UWB port that is off is terminated to ground. What the boot ROM or firmware of GPIO_0 to GPIO_14 configures is in no register of the spec: after reset they are inputs with their pull-down, and stay so;
GPIO_15 carries the phase reference while REF_OUT is set (R219). -/
def State.pin (s : State) : Pin → Level
  | .lf ch =>
    if !s.listenUp then .float
    else match s.lfa.fret with
      | some f => if f.slots.any (fun x => x.1 == ch) && !f.off.contains ch then .traffic else .low
      | none => .low
  | .uwb => if s.mainDrives && s.uwb.block.isSome then .traffic else .low
  | .fdN => openDrain (s.pins.fdN == some false)
  | .hspiIo => if s.mainDrives && !s.hif.highZ then .traffic else .float
  | .irq k =>
    if s.awake then (if bit (s.reg Reg.EVT_IRQ_CFG_POL) k == irqAsserted s k then .high else .low)
    else if s.listenUp then (if bit s.pins.irqPol k then .low else .high) else .float
  | .canTx _ => if s.mainDrives then .traffic else .float
  | .cspi => if s.mainDrives then .traffic else .float
  | .nspi => if s.mainDrives then .traffic else .float
  | .cspiCsN => if s.mainDrives then (if s.nor.jobs.isEmpty then .high else .traffic) else .float
  | .nspiCsN => if s.mainDrives then (if s.jnl.prog.isEmpty && s.jnl.reading.isNone then .high else .traffic) else .float
  | .cfgWpN => if s.mainDrives then (if s.nor.jobs.isEmpty then .low else .high) else .float
  | .relA => pinLevel s.pins.relA
  | .relBn => pinLevel s.pins.relBn
  | .tsuTx => if s.mainDrives && s.flag Reg.TSU_CTRL_EN then .traffic else .float
  | .pairArb => openDrain (s.listenUp && s.tsu.drivesArb)
  | .pairRstN => openDrain (s.listenUp && decide (s.now < s.tsu.resetDriveUntil))
  | .bootStat i => pinLevel (s.pins.bootStat.map (fun c => bit c i))
  | .tmpMeshOut => if s.aonLive then .traffic else .float
  | .tdo => if s.mainDrives && !s.jtagLocked then .traffic else .float
  | .gpio n =>
    if s.mainDrives && n == 15 && s.flag Reg.LFA_CTRL_REF_OUT then .traffic
    else if 0 < s.sleeping then .float
    else if s.pins.vio || s.pwr.phase != .off then .pulledDown
    else .float

/-- The input pins of Table 02-3 that have an internal pull. -/
inductive PullPin where
  | wpN
  | recovN
  | resetN
  | tmpLid
  | tck
  | tdi
  | tms
  | engRun
  | startBtn
  deriving DecidableEq, Repr

/-- The internal pull of an input as it stands: none while its domain has no supply, else up (`true`) or down (R58, R60, Table 02-3). Those of the AON pins stand with AON or VIO, those of
the MAIN pins from VIO on, in every reset and after it. -/
def State.pull (s : State) (p : PullPin) : Option Bool :=
  let up : Bool := match p with | .recovN | .resetN | .tmpLid | .tdi | .tms => true | _ => false
  let aon : Bool := match p with | .wpN | .resetN | .tmpLid => true | _ => false
  if s.pins.vio || (aon && s.aonLive) then some up else none

end Sys2Proof.Machine
end

