-- ==== Sys2Proof/Tests/Slice0.lean ====
section
/-! SUPPORT. Small tests from the worked examples of spec/ and from standard vectors, an ill-formed command for each check, and for every clause of a statement that has
hypotheses a concrete state and operands that meet them, with the case of its conclusion that they lead to where the clause has several. Bytes that a partner, a reader or
an authority sends are written as numbers: they were sealed or signed under the keys of the helper that holds them. -/

section
set_option Elab.async false

namespace Sys2Proof.Tests
open Sys2Proof.Machine

/-! ## States and commands that the tests share -/

/-- The public key of scalar 3. -/
def pub3 : List Byte := beBytes 64 0x5ECBE4D1A6330A44C8F7EF951D4BF165E6C6B721EFADA985FB41661BC6E7FD6C8734640C4998FF7E374B06CE1A64A2ECD82AB036384FB83D9A79B127A27D5032
/-- The public key of scalar 5. -/
def pub5 : List Byte := beBytes 64 0x51590B7A515140D2D784C85608668FDFEF8C82FD1F5BE52421554A0DC3D033EDE0C17DA8904A727D8AE1BF36BF8A79260D012F00D4D80888D1D0BB44FDA16DA4
/-- The public key of scalar 7. -/
def pub7 : List Byte := beBytes 64 0x8E533B6FA0BF7B4625BB30667C01FB607EF9F8B8A80FEF5B300628703187B2A373EB1DBDE03318366D069F83A6F5900053C73633CB041B21C55E1A86C1F400B4
/-- The public key of scalar 11. -/
def pub11 : List Byte := beBytes 64 0x3ED113B7883B4C590638379DB0C21CDA16742ED0255048BF433391D374BC21D19099209ACCC4C8A224C843AFA4F4C68A090D04DA5E9889DAE2F8EEFCE82A3740
/-- The public key of scalar 20. -/
def pub20 : List Byte := beBytes 64 0x83A01A9378395BAB9BCD6A0AD03CC56D56E6B19250465A94A234DC4C6B28DA9A76E49B6DE2F73234AE6A5EB9D612B75C9F2202BB6923F54FF8240AAA86F640B8
/-- The public key of scalar 21. -/
def pub21 : List Byte := beBytes 64 0x3250FCF686637C7B2E4AC86EB473BCA53A582139F42B1523FD76364E67399E8342E7C342667D359397B3090D1D7EB88C897CD3C33B566A8215DE24A071D48C09
/-- The public key of scalar 22. -/
def pub22 : List Byte := beBytes 64 0xC0DD241A50D48F99FCC7A186A6D44E0763EC90478E1DEF8E36F5C4E950D67AFB8286732EA96548B841A7CDC6EAC062D8DA78E57CE03EA2D60CBCD16BD8CAEC6C
/-- The public key of scalar 31. -/
def pub31 : List Byte := beBytes 64 0x301D9E502DC7E05DA85DA026A7AE9AA0FAC9DB7D52A95B3E3E3F9AA0A1B45B8B6551B6F6B3061223E0D23C026B017D72298D9AE46887CA61D58DB6AEA17EE267
/-- A device in run with its supplies. -/
def up : State := { fwKey := [], crypto := { kat := [blkAEA, blkHSH, blkRNG], rng := { state := .ok } }, pwr := { phase := .run }, pins := { vsup := true, vio := true, relA := some false, relBn := some true } }
/-- A command of the security core at the front of ring q's running commands. -/
def cmd (q c : Nat) (payload : List Byte) : Running := { ring := q, entry := { seq := 5, master := 1, code := c, tag := 9, payload := fit 48 payload }, level := 3, takenAt := 0 }
/-- A state with one running command. -/
def withRun (s : State) (r : Running) : State := { s with que := { running := [r] } }
/-- A device in run with one running command. -/
def upCmd (r : Running) : State := withRun up r
/-- The LF array driving. -/
def lfOn : State := up.set Reg.LFA_CTRL_EN 1
/-- A Fret that drives channel 3. -/
def fret3 : Fret := { kind := 2, desc := 0, slots := [(3, 100, 0)], capture := false, issuer := 2, at_ := 0 }
/-- A device in one phase of power-up, run or sleep. -/
def inPhase (p : Phase) : State := { fwKey := [], pwr := { phase := p } }
/-- A slot with an AES key for one use and a bound block. -/
def aesSlot (use bound : Nat) : Slot := { state := .active, key := List.replicate 32 7, attrs := 16 + 2 ^ (6 + use) + 65536 * bound + 20 * 2 ^ 20, ceiling := 1000 }
/-- The destination of a command. -/
def destAt (p : List Byte) (n : Nat) : List Byte := fit 40 p ++ leBytes 4 0x10090000 ++ leBytes 4 n
/-- A slot with a P-256 key for one use. -/
def ecSlot (d use : Nat) : Slot := { state := .active, key := beBytes 32 d, attrs := 32 + 2 ^ (6 + use) + 20 * 2 ^ 20, ceiling := 1000 }
/-- KEY and PKE serving, the anchors of scalars 3 and 5, device keys of scalar 7. -/
def keyOn : State :=
  { (((up.set Reg.AEA_CTRL_EN 3).set Reg.KEY_CTRL_EN 1).set Reg.PKE_CTRL_EN 1) with devnum := 77, crypto := { pkeKat := true, kat := [blkAEA, blkHSH, blkRNG], rng := { state := .ok } }, key := { slots := [(253, ecSlot 7 5), (254, ecSlot 7 4)], bootAnchors := some (publicKey 3 ++ pub5), opKeys := [pub3] } }
/-- keyOn with bytes in the shared partition and one running command. -/
def keyRun (b : List Byte) (r : Running) : State := (withRun keyOn r).setBytes 0x10080000 b
/-- A command of the host. -/
def hostCmd (q c : Nat) (p : List Byte) : Running := { ring := q, entry := { seq := 5, master := 3, code := c, tag := 9, payload := fit 48 p }, level := 3, takenAt := 0 }
/-- An authority command that names one write, of TMP_CLR, signed by scalar 3. -/
def authBody : List Byte := [1, 1, 0, 0] ++ leBytes 8 77 ++ leBytes 4 1 ++ leBytes 4 Reg.TMP_CLR_LOCK.addr ++ leBytes 4 1 ++ leBytes 4 1
/-- The command whole. -/
def authBytes : List Byte := beBytes 92 0x10100004D000000000000000100000028001B400100000001000000424B94BCBA4BFD74EA217B2D162254AC497105C68D82AB1EFCAB7DE75A1C08790F77FB73C6D0FC90A171AE4B67967526020D5D492D4CD575E53FB0E85D28F2FB
/-- With the marks of the last query, so that nothing has arisen since. -/
def marked (s : State) : State := { s with pwr := { s.pwr with marks := s.sleepMarks } }
/-- The link UP between the two devices of a pair. -/
def pairUp (active : Bool) : State := { up.set Reg.TSU_CTRL_PAIRED 1 with tsu := { link := .up, role := if active then .active else .standby, kLink := List.replicate 16 7, partnerLost := false, synced := true, secondary := !active } }
/-- The next frame of the partner. -/
def fromPeer (s : State) (typ flags : Nat) (p : List Byte) : List Byte := sealFrame s.tsu.kLink (!s.tsu.secondary) { typ := typ, flags := flags, lseq := s.tsu.lseqRx + 1, ack := 0, txc := 9, payload := p }
/-- The frame that arrives. -/
def gotFrame (s : State) (typ : Nat) (b : List Byte) : Frame := ((s.frameIn typ b).1).getD { typ := 0, flags := 0, lseq := 0, ack := 0, txc := 0, payload := [] }
/-- The state that a command leaves. -/
def after (o : Host.Outcome State Fault Refusal) : State := match o with | .next t => t | _ => up

/-! ## Well-formed commands: one ill-formed term for each check -/

theorem test_ill_bus_master : (Instr.registerWrite 8 0x40050000 32 0).wellFormed = false := by decide
theorem test_ill_bus_address : (Instr.registerWrite 1 0x100000000 32 0).wellFormed = false := by decide
theorem test_ill_bus_width : (Instr.registerWrite 1 0x40050000 24 0).wellFormed = false := by decide
theorem test_ill_bus_value : (Instr.locketWindowWrite 1 0x30000000 8 256).wellFormed = false := by decide
theorem test_ill_master : (Instr.sleepQuery 0).wellFormed = false := by decide
theorem test_ill_unmapped : (Instr.unmappedAccess 3 0x100000000 false).wellFormed = false := by decide
theorem test_ill_supply : (Instr.brownout 65536).wellFormed = false := by decide
theorem test_ill_can_length : (Instr.canFrameReceived 0 5 true true false (List.replicate 9 0)).wellFormed = false := by decide
theorem test_ill_can_id : (Instr.canFrameReceived 0 0x800 false true false []).wellFormed = false := by decide
theorem test_ill_air_frame : (Instr.select (List.replicate 257 0)).wellFormed = false := by decide +kernel
theorem test_ill_link_frame : (Instr.mack (List.replicate 1065 0)).wellFormed = false := by decide +kernel
theorem test_ill_push : (Instr.push 1 (List.replicate 63 0) false).wellFormed = false := by decide +kernel
theorem test_ill_push_cut : (Instr.push 1 (List.replicate 64 0) true).wellFormed = false := by decide +kernel
theorem test_ill_words : (Instr.mbPut (List.replicate 256 0) false).wellFormed = false := by decide +kernel
theorem test_ill_firmware_data : (Instr.firmwareCommand 14 0 0 (List.replicate 41 0)).wellFormed = false := by decide +kernel
theorem test_ill_clasp_value : (Instr.claspWrite 1 0 0x100000000).wellFormed = false := by decide
theorem test_ill_sram_address : (Instr.sramEccError 1 0x100000000 0).wellFormed = false := by decide
theorem test_ill_carrier : (Instr.lfaCarrierWrite 1 0x100000000).wellFormed = false := by decide

/-! ## The worked examples of spec/, and standard vectors of the algorithms that it names -/

/-- 12_locket_parameter_store.md, a check byte, one error and two. -/
theorem test_ecc_check : eccCheck 5 = 0x05 := by decide +kernel
theorem test_ecc_one : eccDecode 1 5 = some (5, true) := by decide +kernel
theorem test_ecc_two : eccDecode 0 5 = none := by decide +kernel

/-- 13_journal.md, encoding and correcting one record. -/
theorem test_rs_parity : ofBe (rsParity (List.replicate 111 0 ++ [1])) = 0x3B0D68BD44D11E08A34129E56232243B := by decide +kernel
theorem test_rs_syndromes : (rsSyndromes (List.replicate 5 0 ++ [0x5A] ++ List.replicate 122 0)).take 3 = [0x5A, 0x15, 0x1D] := by decide +kernel

/-- 04_lf_field_array.md, a null on the driver's door glass. -/
theorem test_lf_target : (up.setI Reg.LFA_CH_CAL_GAIN 2 522).target 2 400 = 408 ∧ (up.setI Reg.LFA_CH_CAL_GAIN 6 505).target 6 900 = 888 := by decide +kernel
theorem test_lf_slot : fretSlot 0x007096 = { ch := 6, en := true, ampl := 900, phase := 0, clean := true } ∧
    fretSlot 0x403212 = { ch := 2, en := true, ampl := 400, phase := 128, clean := true } := by decide +kernel
theorem test_lf_phase : (up.setI Reg.LFA_CH_CAL_PHASE_OFS 2 3).targetPhase 2 128 = 131 ∧ (up.setI Reg.LFA_CH_CAL_PHASE_OFS 6 254).targetPhase 6 0 = 254 := by decide +kernel

/-- 07_uwb_ranging_distance_bound.md, ranging token A. -/
theorem test_bound : boundOf (roundTrip 8405459 8200 8240 1200) 1200 = 1200 ∧ boundOf (roundTrip 8405320 8190 8260 1200) 1200 = 851 := by decide +kernel

/-- 06_gelet_authentication_rolling_code.md, the proof of token A, row 1. -/
theorem test_proof_block :
    ofBe ((up.set Reg.GLT_GROUP_GROUP 0x3C41).proofBlock { number := 1, tag := 0x5D, template := 0, mode := 8, issuer := .core, openedAt := 0 }
      { handle := 0x71C4, nonce := 0x9E0A17F3 } 1 (List.replicate 6 0)) = 0x013C415D9E0A17F371C4000000000000 := by decide +kernel

/-- 01_architecture.md, decoding three host reads: the second and the third. -/
theorem test_read_unmapped : (up.busRead 3 0x401F0000 32).2.1 = 0xDEAD0FF5 ∧ (up.busRead 3 0x401F0000 32).1 = stPOLICY ∧
    (up.busRead 3 0x401F0000 32).2.2.reg Reg.SYS_BUSFAULT_INFO_MASTER = 3 ∧ (up.busRead 3 0x401F0000 32).2.2.reg Reg.SYS_BUSFAULT_ADDR_ADDR = 0x401F0000 := by decide +kernel
theorem test_read_reserved : ((up.set Reg.UWB_CTRL_EN 1).busRead 3 0x4009FF00 32).1 = stOK ∧ ((up.set Reg.UWB_CTRL_EN 1).busRead 3 0x4009FF00 32).2.1 = 0 ∧
    ((up.set Reg.UWB_CTRL_EN 1).busRead 3 0x4009FF00 32).2.2.reg Reg.SYS_BUSFAULT_INFO_COUNT = 0 := by decide +kernel

/-- FIPS 197, appendix C.1 and C.3. -/
theorem test_aes128 : ofBe (aesEncrypt (beBytes 16 0x000102030405060708090a0b0c0d0e0f) (beBytes 16 0x00112233445566778899aabbccddeeff)) = 0x69c4e0d86a7b0430d8cdb78070b4c55a := by
  decide +kernel
theorem test_aes256_inverse :
    ofBe (aesDecrypt (beBytes 32 0x000102030405060708090a0b0c0d0e0f101112131415161718191a1b1c1d1e1f) (beBytes 16 0x8ea2b7ca516745bfeafc49904b496089)) =
      0x00112233445566778899aabbccddeeff := by decide +kernel
/-- RFC 3394, 4.1. -/
theorem test_key_wrap : ofBe (aesWrap (beBytes 16 0x000102030405060708090A0B0C0D0E0F) (beBytes 16 0x00112233445566778899AABBCCDDEEFF)) =
    0x1FA68B0A8112B447AEF34BD8FB5A7B829D3E862371D2CFE5 := by decide +kernel
/-- FIPS 180-4: the digest of "abc". -/
theorem test_sha256 : ofBe (sha256 [0x61, 0x62, 0x63]) = 0xba7816bf8f01cfea414140de5dae2223b00361a396177a9cb410ff61f20015ad := by decide +kernel
/-- RFC 6979, A.2.5: the signature of "sample" on P-256. -/
theorem test_ecdsa : ofBe (ecdsaSign 0xC9AFA9D845BA75166B5C215767B1D6934E50C3DB36E89B127B8A622B120F6721 (sha256 [0x73, 0x61, 0x6d, 0x70, 0x6c, 0x65]) []) =
    0xEFD48B2AACB6A8FD1140DD9CD45E81D69D2C877B56AAF991C34D0EA84EAF3716F7CB1C942D657C41D436C7A1B6E29F65F3E900DBB9AFF4064DC4AB2F843ACDA8 := by decide +kernel
theorem test_ecdsa_verifies : ecdsaVerify (beBytes 64 0x60FED4BA255A9D31C961EB74C6356D68C049B8923B61FA6CE669622E60F29FB67903FE1008B8BC99A41AE9E95628BC64F2F1B20C2D7E9F5177A3C294D4462299)
    (sha256 [0x73, 0x61, 0x6d, 0x70, 0x6c, 0x65])
    (beBytes 64 0xEFD48B2AACB6A8FD1140DD9CD45E81D69D2C877B56AAF991C34D0EA84EAF3716F7CB1C942D657C41D436C7A1B6E29F65F3E900DBB9AFF4064DC4AB2F843ACDA8) = true := by decide +kernel

/-! ## Steps -/

/-- A step runs the front command; with an empty queue the clock moves. -/
theorem test_step_front : step { up with pending := [.vioUndervoltage], pins := { vsup := true, vio := true } } = execVioUndervoltage { up with pins := { vsup := true, vio := true } } := rfl
theorem test_step_idle : step up = .next { up with now := 1 } := rfl
/-- No word spells a command. -/
theorem test_decode_none : decodeTableWord 32 0x40050000 = none := rfl
theorem test_fetch_keeps : State.reset.withFetchWord 32 5 = State.reset := rfl
theorem witness_stepAlwaysAnswers_3 : ∃ s : State, s.pending = [] := ⟨up, rfl⟩

/-! ## Witnesses of the general statements -/
theorem witness_plainRegisterWrite_1 : ∃ (s : State) (a : Nat) (w : Nat) (n : Nat), s.awake = true ∧ regionOf a = some (.block n) ∧ a % 4 = 0 ∧ w < 2 ^ 32 ∧ s.blockOff n = false ∧ plainRegister a ∧ ((∀ p ∈ fieldsAt Reg.all a, s.guarded p = false)) :=
  ⟨up, Reg.PWR_IDLE_CFG_DAYS.addr, 5, 1, by unfold plainRegister; decide +kernel⟩
theorem witness_memoryWrite_1 : ∃ (s : State) (m : Nat) (a : Nat) (width : Nat) (v : Nat) (r : Region), s.onBus m = true ∧ regionOf a = some r ∧ r ≠ .locket ∧ ((∀ n, r ≠ .block n)) ∧ naturally a width = true ∧ s.memServes m a r true = true :=
  ⟨up, 2, 0x10080000, 32, 0x01020304, .shared, by decide +kernel, by decide +kernel, by decide, (fun _ h => by cases h), by decide +kernel, by decide +kernel⟩
theorem witness_unmappedAccess_1 : ∃ (s : State) (m : Nat) (a : Nat) (width : Nat) (v : Nat), s.onBus m = true ∧ a < 2 ^ 32 ∧ regionOf a = none :=
  ⟨up, 3, 0x401F0000, 32, 5, by decide +kernel⟩
theorem witness_debugLockedOut_1 : ∃ (s : State) (a : Nat) (width : Nat) (v : Nat), s.jtagLocked = true :=
  ⟨{ up with jtagLocked := true }, 0x10080000, 32, 7, by decide +kernel⟩
theorem witness_debugLockedOut_2 : ∃ (s : State) (b : Fin 8) (k : Fin 32) (v : Nat), s.jtagLocked = true :=
  ⟨{ up with jtagLocked := true, mbx := { boxes := [none, none, none, none, none, none, none, some { sender := 1, words := [3], placedAt := 0 }] } }, 7, 3, 0, by decide +kernel⟩
theorem witness_refusedAccesses_1 : ∃ (s : State) (m : Nat) (a : Nat) (width : Nat) (v : Nat), s.onBus m = true ∧ m ≤ 7 ∧ regionOf a = some .credential :=
  ⟨up, 1, crdBase, 32, 1, by decide +kernel⟩
theorem witness_refusedAccesses_2 : ∃ (s : State) (a : Nat) (w : Nat) (n : Nat) (p : Field × Nat), s.awake = true ∧ regionOf a = some (.block n) ∧ a % 4 = 0 ∧ w < 2 ^ 32 ∧ s.blockOff n = false ∧ (fieldsAt Reg.all a).find? (fun x => s.guarded x) = some p ∧ s.namedWord 1 a w p.1 = none :=
  ⟨up, Reg.JNL_ADMIN_KEY.addr, 0xF0, 20, (Reg.JNL_ADMIN_KEY, 0), by decide +kernel⟩
theorem witness_refusedAccesses_3 : ∃ (s : State) (m : Nat) (a : Nat) (v : Nat) (n : Nat) (write : Bool), s.onBus m = true ∧ m ≤ 7 ∧ regionOf a = some (.block n) ∧ a % 4 = 0 ∧ s.blockServes m n write = true ∧ s.blockOff n = true :=
  ⟨up, 1, Reg.UWB_PROFILE_CHAN.addr, 1, 9, true, by decide +kernel⟩
theorem witness_refusedAccesses_3_b : ∃ (s : State) (m : Nat) (a : Nat) (v : Nat) (n : Nat) (write : Bool), s.onBus m = true ∧ m ≤ 7 ∧ regionOf a = some (.block n) ∧ a % 4 = 0 ∧ s.blockServes m n write = true ∧ s.blockOff n = true :=
  ⟨up, 1, Reg.UWB_PROFILE_CHAN.addr, 1, 9, false, by decide +kernel⟩
theorem witness_stepKeepsForms_1 : ∃ (s : State) (t : State), CanonicalForms s ∧ step s = .next t :=
  ⟨{ up with pending := [.ping], jtagLocked := true }, { up with jtagLocked := true }, by unfold CanonicalForms; decide +kernel, rfl⟩
theorem witness_frameRoundTrip_2 : ∃ (k : List Byte) (d : Bool) (f : Frame), f.typ < 2 ^ 8 ∧ f.flags < 2 ^ 8 ∧ f.lseq < 2 ^ 32 ∧ f.ack < 2 ^ 32 ∧ f.txc < 2 ^ 64 :=
  ⟨List.replicate 32 7, true, { typ := 0x10, flags := 1, lseq := 5, ack := 6, txc := 2 ^ 64 - 1, payload := [1, 2, 3] }, by decide +kernel⟩
theorem witness_frameRoundTrip_2_b : ∃ (k : List Byte) (d : Bool) (f : Frame), f.typ < 2 ^ 8 ∧ f.flags < 2 ^ 8 ∧ f.lseq < 2 ^ 32 ∧ f.ack < 2 ^ 32 ∧ f.txc < 2 ^ 64 :=
  ⟨List.replicate 32 7, false, { typ := 1, flags := 255, lseq := 2 ^ 32 - 1, ack := 6, txc := 9, payload := [] }, by decide +kernel⟩

/-! ## Witnesses of the statements of chapter 3 -/
theorem witness_supplyCommands_1 : ∃ (s : State) (vio : Bool), s.pwr.phase = .off ∧ ((vio = true ∨ s.pins.vio = true)) ∧ ((vio = false ∨ s.pins.vsup = true)) ∧ s.pins.resetLow = false ∧ s.pins.pairRstLow = false :=
  ⟨{ pins := { vsup := true } }, true, by decide +kernel⟩
theorem witness_supplyCommands_1_b : ∃ (s : State) (vio : Bool), s.pwr.phase = .off ∧ ((vio = true ∨ s.pins.vio = true)) ∧ ((vio = false ∨ s.pins.vsup = true)) ∧ s.pins.resetLow = false ∧ s.pins.pairRstLow = false :=
  ⟨{ pins := { vio := true } }, false, by decide +kernel⟩
theorem witness_supplyCommands_3 : ∃ (s : State) (v : Nat), s.pins.vsup = true :=
  ⟨up, 250, by decide +kernel⟩
theorem witness_supplyCommands_4 : ∃ (s : State), s.pins.vsup = false :=
  ⟨{ pins := { vsup := false } }, by decide +kernel⟩
theorem witness_supplyCommands_7 : ∃ (s : State), s.mainUp = true ∧ s.pwr.vioLow = false :=
  ⟨up, by decide +kernel⟩
theorem witness_supplyCommands_8 : ∃ (s : State), s.pins.vio = false ∧ s.mainUp = true ∧ s.pwr.phase ≠ .noImage :=
  ⟨{ up with pins := { vsup := true, vio := false }, pwr := { phase := .run, vioLow := true }, gov := { rel := some { assertedAt := 0, form := 0, running := false, grant := 1 } } }, by decide +kernel⟩
theorem witness_resetClassesOfFields_1_A : ∃ (s : State) (c : ResetClass) (i : Instr), regsWf s.regs = true ∧ memoryWf s.mem = true ∧ (((c = .A ∧ i = .aonPowerLoss) ∨ (c = .B ∧ (∃ v, i = .brownout v) ∧ s.pins.vsup = true) ∨ (c = .P ∧ i = .resetNAssert ∧ (s.pwr.phase ≠ .off ∨ s.pwr.aonUp = true)) ∨ (c = .X ∧ i = .partnerReset ∧ (s.pwr.phase ≠ .off ∨ s.pwr.aonUp = true) ∧ s.tsu.resetDriveUntil ≤ s.now) ∨ (c = .S ∧ i = .softwareSystemReset 1 0xA5 ∧ s.mainUp = true))) :=
  ⟨(up.set Reg.PWR_IDLE_CFG_DAYS 9).set Reg.GOV_LAST_END 3, .A, .aonPowerLoss, by decide +kernel, by decide +kernel, .inl ⟨rfl, rfl⟩⟩
theorem witness_resetClassesOfFields_1_B : ∃ (s : State) (c : ResetClass) (i : Instr), regsWf s.regs = true ∧ memoryWf s.mem = true ∧ (((c = .A ∧ i = .aonPowerLoss) ∨ (c = .B ∧ (∃ v, i = .brownout v) ∧ s.pins.vsup = true) ∨ (c = .P ∧ i = .resetNAssert ∧ (s.pwr.phase ≠ .off ∨ s.pwr.aonUp = true)) ∨ (c = .X ∧ i = .partnerReset ∧ (s.pwr.phase ≠ .off ∨ s.pwr.aonUp = true) ∧ s.tsu.resetDriveUntil ≤ s.now) ∨ (c = .S ∧ i = .softwareSystemReset 1 0xA5 ∧ s.mainUp = true))) :=
  ⟨(up.set Reg.PWR_IDLE_CFG_DAYS 9).set Reg.GOV_LAST_END 3, .B, .brownout 250, by decide +kernel, by decide +kernel, .inr (.inl ⟨rfl, ⟨250, rfl⟩, rfl⟩)⟩
theorem witness_resetClassesOfFields_1_P : ∃ (s : State) (c : ResetClass) (i : Instr), regsWf s.regs = true ∧ memoryWf s.mem = true ∧ (((c = .A ∧ i = .aonPowerLoss) ∨ (c = .B ∧ (∃ v, i = .brownout v) ∧ s.pins.vsup = true) ∨ (c = .P ∧ i = .resetNAssert ∧ (s.pwr.phase ≠ .off ∨ s.pwr.aonUp = true)) ∨ (c = .X ∧ i = .partnerReset ∧ (s.pwr.phase ≠ .off ∨ s.pwr.aonUp = true) ∧ s.tsu.resetDriveUntil ≤ s.now) ∨ (c = .S ∧ i = .softwareSystemReset 1 0xA5 ∧ s.mainUp = true))) :=
  ⟨(up.set Reg.PWR_IDLE_CFG_DAYS 9).set Reg.GOV_LAST_END 3, .P, .resetNAssert, by decide +kernel, by decide +kernel, .inr (.inr (.inl ⟨rfl, rfl, by decide⟩))⟩
theorem witness_resetClassesOfFields_1_X : ∃ (s : State) (c : ResetClass) (i : Instr), regsWf s.regs = true ∧ memoryWf s.mem = true ∧ (((c = .A ∧ i = .aonPowerLoss) ∨ (c = .B ∧ (∃ v, i = .brownout v) ∧ s.pins.vsup = true) ∨ (c = .P ∧ i = .resetNAssert ∧ (s.pwr.phase ≠ .off ∨ s.pwr.aonUp = true)) ∨ (c = .X ∧ i = .partnerReset ∧ (s.pwr.phase ≠ .off ∨ s.pwr.aonUp = true) ∧ s.tsu.resetDriveUntil ≤ s.now) ∨ (c = .S ∧ i = .softwareSystemReset 1 0xA5 ∧ s.mainUp = true))) :=
  ⟨(up.set Reg.PWR_IDLE_CFG_DAYS 9).set Reg.GOV_LAST_END 3, .X, .partnerReset, by decide +kernel, by decide +kernel, .inr (.inr (.inr (.inl ⟨rfl, rfl, by decide, by decide⟩)))⟩
theorem witness_resetClassesOfFields_1_S : ∃ (s : State) (c : ResetClass) (i : Instr), regsWf s.regs = true ∧ memoryWf s.mem = true ∧ (((c = .A ∧ i = .aonPowerLoss) ∨ (c = .B ∧ (∃ v, i = .brownout v) ∧ s.pins.vsup = true) ∨ (c = .P ∧ i = .resetNAssert ∧ (s.pwr.phase ≠ .off ∨ s.pwr.aonUp = true)) ∨ (c = .X ∧ i = .partnerReset ∧ (s.pwr.phase ≠ .off ∨ s.pwr.aonUp = true) ∧ s.tsu.resetDriveUntil ≤ s.now) ∨ (c = .S ∧ i = .softwareSystemReset 1 0xA5 ∧ s.mainUp = true))) :=
  ⟨(up.set Reg.PWR_IDLE_CFG_DAYS 9).set Reg.GOV_LAST_END 3, .S, .softwareSystemReset 1 0xA5, by decide +kernel, by decide +kernel, .inr (.inr (.inr (.inr ⟨rfl, rfl, by decide +kernel⟩)))⟩
theorem witness_resetPins_1 : ∃ (s : State), s.pwr.phase ≠ .off :=
  ⟨up, by decide +kernel⟩
theorem witness_resetPins_2 : ∃ (s : State), s.pwr.phase ≠ .off ∧ s.tsu.resetDriveUntil ≤ s.now :=
  ⟨up, by decide +kernel⟩
theorem witness_resetPins_3 : ∃ (s : State) (n : Nat), s.pwr.phase = .held n ∧ s.pins.pairRstLow = false :=
  ⟨{ pwr := { phase := .held 2 }, pins := { resetLow := true } }, 2, by decide +kernel⟩
theorem witness_resetPins_4 : ∃ (s : State) (n : Nat), s.pwr.phase = .held n ∧ s.pins.resetLow = false :=
  ⟨{ pwr := { phase := .held 2 }, pins := { pairRstLow := true } }, 2, by decide +kernel⟩
theorem witness_resetPins_5 : ∃ (s : State), s.mainUp = true :=
  ⟨up, by decide +kernel⟩
theorem witness_resetPins_6 : ∃ (s : State) (m : Nat) (k : BitVec 8), (m ≠ 1 ∨ k ≠ 0xA5) ∧ s.mayWriteField m Reg.PWR_RST_REQ_KEY = true :=
  ⟨up, 1, 0x5A, by decide +kernel⟩
theorem witness_resetPins_6_b : ∃ (s : State) (m : Nat) (k : BitVec 8), (m ≠ 1 ∨ k ≠ 0xA5) ∧ s.mayWriteField m Reg.PWR_RST_REQ_KEY = true :=
  ⟨up, 2, 0xA5, by decide +kernel⟩
theorem witness_resetPins_7 : ∃ (s : State) (m : Nat) (k : BitVec 8), m ≤ 7 ∧ s.mayWriteField m Reg.PWR_RST_REQ_KEY = false :=
  ⟨up, 3, 0xA5, by decide +kernel⟩
theorem witness_powerUpStages_1 : ∃ (s : State) (a : Bool) (b : Bool) (c : Bool) (n : Nat), s.pwr.phase = .stage n ∧ n < 2 :=
  ⟨inPhase (.stage 1), true, true, false, 1, by decide +kernel⟩
theorem witness_powerUpStages_2 : ∃ (s : State) (a : Bool) (b : Bool) (c : Bool), s.pwr.phase = .stage 2 :=
  ⟨inPhase (.stage 2), true, true, false, by decide +kernel⟩
theorem witness_powerUpStages_3 : ∃ (s : State) (n : Nat), s.pwr.phase = .stage n ∧ s.pwr.stageAt + stageBound n s.secureKept < s.now ∧ n < 4 :=
  ⟨{ inPhase (.stage 3) with now := 2000000 }, 3, by decide +kernel⟩
theorem witness_powerUpStages_3_b : ∃ (s : State) (n : Nat), s.pwr.phase = .stage n ∧ s.pwr.stageAt + stageBound n s.secureKept < s.now ∧ n < 4 :=
  ⟨{ inPhase (.stage 0) with now := 2000000 }, 0, by decide +kernel⟩
theorem witness_powerUpStages_4 : ∃ (s : State) (a : Bool) (c : Bool), s.pwr.phase = .stage 3 ∧ s.pwr.wakeFrom = 0 ∧ s.glt.heldFrame = none :=
  ⟨inPhase (.stage 3), true, false, by decide +kernel⟩
theorem witness_powerUpStages_5 : ∃ (s : State) (c : Nat), s.pwr.phase = .bootFault c ∧ s.pwr.stageAt + 225000 ≤ s.now :=
  ⟨{ inPhase (.bootFault 2) with now := 225000, pins := { bootStat := some 0 } }, 2, by decide +kernel⟩
theorem witness_levelsAndCapo_1_up : ∃ (s : State), s.pwr.busy = false ∧ s.mainUp = true ∧ s.levelTarget ≠ s.pwr.granted :=
  ⟨{ up with pwr := { phase := .run, granted := 3, clkLevel := 3, vcoreLevel := 3 } }, by decide +kernel⟩
theorem witness_levelsAndCapo_1_down : ∃ (s : State), s.pwr.busy = false ∧ s.mainUp = true ∧ s.levelTarget ≠ s.pwr.granted :=
  ⟨{ up with pwr := { phase := .run, granted := 0, levelCap := 2, clkLevel := 0, vcoreLevel := 0 } }, by decide +kernel⟩
theorem witness_levelsAndCapo_2 : ∃ (s : State), s.pwr.busy = true :=
  ⟨{ up with pwr := { phase := .run, busy := true, nextLevel := some 3 } }, by decide +kernel⟩
theorem witness_levelsAndCapo_3 : ∃ (s : State), s.pwr.droop = false ∧ s.mainUp = true :=
  ⟨up, by decide +kernel⟩
theorem witness_levelsAndCapo_5 : ∃ (s : State) (tj : BitVec 8) (mw : BitVec 12), s.mainUp = true ∧ s.pwr.thermal = false ∧ tj.toNat < 219 :=
  ⟨up, 218, 4000, by decide +kernel⟩
theorem witness_levelsAndCapo_5_b : ∃ (s : State) (tj : BitVec 8) (mw : BitVec 12), s.mainUp = true ∧ s.pwr.thermal = false ∧ tj.toNat < 219 :=
  ⟨up, 100, 5, by decide +kernel⟩
theorem witness_levelsAndCapo_6 : ∃ (s : State) (tj : BitVec 8) (mw : BitVec 12), s.mainUp = true ∧ s.pwr.thermal = false ∧ 219 ≤ tj.toNat :=
  ⟨up, 219, 5, by decide +kernel⟩
theorem witness_levelsAndCapo_7 : ∃ (s : State) (x : Nat), s.pwr.coolSince = some x ∧ x + 100000 ≤ s.now ∧ ((0 < s.pwr.levelCap ∨ s.pwr.lfCap < 4)) :=
  ⟨{ up with now := 100000, pwr := { phase := .run, coolSince := some 0, levelCap := 1, lfCap := 1 } }, 0, by decide +kernel⟩
theorem witness_levelsAndCapo_7_b : ∃ (s : State) (x : Nat), s.pwr.coolSince = some x ∧ x + 100000 ≤ s.now ∧ ((0 < s.pwr.levelCap ∨ s.pwr.lfCap < 4)) :=
  ⟨{ up with now := 100000, pwr := { phase := .run, coolSince := some 0, lfCap := 3 } }, 0, by decide +kernel⟩
theorem witness_sleepHandshake_1 : ∃ (s : State) (m : Nat), ((m = 1 ∨ m = 2)) ∧ s.pwr.phase = .run ∧ s.pwr.querying = false :=
  ⟨up, 1, by decide +kernel⟩
theorem witness_sleepHandshake_2 : ∃ (s : State), s.pwr.querying = true :=
  ⟨{ up.set Reg.PWR_SLEEP_CTL_TARGET 1 with pwr := { phase := .run, querying := true } }, by decide +kernel⟩
theorem witness_sleepHandshake_2_b : ∃ (s : State), s.pwr.querying = true :=
  ⟨{ up.set Reg.PWR_SLEEP_CTL_TARGET 1 with pwr := { phase := .run, querying := true }, lfa := { waiting := [{ issuer := 1 }] } }, by decide +kernel⟩
theorem witness_sleepHandshake_3 : ∃ (s : State) (r : Running), s.running 0 2 = some r :=
  ⟨upCmd (cmd 0 2 [1]), cmd 0 2 [1], by decide +kernel⟩
theorem witness_sleepHandshake_4 : ∃ (s : State) (m : Nat), ((m = 1 ∨ m = 2)) ∧ s.pwr.phase = .run ∧ s.pwr.dip = false ∧ s.reg Reg.PWR_SLEEP_STAT_OUTCOME = 1 ∧ s.pwr.disturbed = none ∧ s.sleepArisen = none ∧ s.sleepRefusals (s.reg Reg.PWR_SLEEP_CTL_TARGET) none s.partnerAwake = [] :=
  ⟨marked ((up.set Reg.PWR_SLEEP_CTL_TARGET 2).set Reg.PWR_SLEEP_STAT_OUTCOME 1), 1, by decide +kernel⟩
theorem witness_sleepHandshake_5 : ∃ (s : State) (m : Nat), ((m = 1 ∨ m = 2)) ∧ s.pwr.phase = .run ∧ ((s.pwr.dip = true ∨ s.reg Reg.PWR_SLEEP_STAT_OUTCOME ≠ 1 ∨ s.pwr.disturbed ≠ none ∨ s.sleepArisen ≠ none)) :=
  ⟨up, 1, by decide +kernel⟩
theorem witness_sleepHandshake_5_b : ∃ (s : State) (m : Nat), ((m = 1 ∨ m = 2)) ∧ s.pwr.phase = .run ∧ ((s.pwr.dip = true ∨ s.reg Reg.PWR_SLEEP_STAT_OUTCOME ≠ 1 ∨ s.pwr.disturbed ≠ none ∨ s.sleepArisen ≠ none)) :=
  ⟨{ up with pwr := { phase := .run, dip := true } }, 2, by decide +kernel⟩
theorem witness_sleepHandshake_6 : ∃ (s : State) (n : Nat) (m : Nat), s.pwr.phase = .entering n ∧ s.sleepRefusals n none s.partnerAwake = [] ∧ s.sleepArisen = none ∧ m = (if s.pwr.storing = false ∧ n ≤ 2 ∧ s.sleepTarget.2 = true then 3 else n) :=
  ⟨marked (inPhase (.entering 1)), 1, 1, by decide +kernel⟩
theorem witness_sleepHandshake_7 : ∃ (s : State) (n : Nat) (b : Nat) (k : Nat) (l : List (Nat × Nat)), s.pwr.phase = .entering n ∧ s.sleepRefusals n none s.partnerAwake ++ s.sleepArisen.toList = (b, k) :: l :=
  ⟨marked { inPhase (.entering 1) with pwr := { phase := .entering 1, dip := true } }, 1, 1, 12, [], by decide +kernel⟩
theorem witness_sleepHandshake_8 : ∃ (s : State) (src : Fin 9) (i : Fin 16) (n : Nat), s.pwr.phase = .sleep n ∧ s.wakeEnabled src = true ∧ sleepAccepts n src = true ∧ ((src ≠ 7 ∨ ∃ h ∈ s.tmp.held, s.tmpResp h.sensor ≠ 0)) :=
  ⟨(inPhase (.sleep 2)).set Reg.PWR_WAKE_EN_TOUCH 1, 3, 7, 2, by decide +kernel⟩
theorem witness_sleepRegimes_3 : ∃ (s : State), s.pwr.dayAt + 86400000000 ≤ s.now :=
  ⟨{ inPhase (.sleep 1) with now := 86400000000 }, by decide +kernel⟩
theorem witness_sleepRegimes_3_b : ∃ (s : State), s.pwr.dayAt + 86400000000 ≤ s.now :=
  ⟨{ (inPhase (.sleep 1)).set Reg.PWR_IDLE_CFG_DAYS 1 with now := 86400000000 }, by decide +kernel⟩
theorem witness_sleepRegimes_5 : ∃ (s : State) (x : Nat), s.pwr.listenSince = some x ∧ x + 9900000 ≤ s.now ∧ s.pwr.phase = .run :=
  ⟨{ up with now := 9900000, pwr := { phase := .run, listenSince := some 0 } }, 0, by decide +kernel⟩
theorem witness_supplyDip_1 : ∃ (s : State) (v : Nat), s.pwr.dip = false ∧ s.mainUp = true :=
  ⟨up, 500, by decide +kernel⟩
theorem witness_supplyDip_2 : ∃ (s : State) (v : Nat) (n : Nat), s.pwr.dip = false ∧ s.pwr.phase = .sleep n ∧ n ≠ 4 :=
  ⟨inPhase (.sleep 1), 500, 1, by decide +kernel⟩
theorem witness_supplyDip_3 : ∃ (s : State) (v : Nat), s.pwr.dip = true :=
  ⟨{ up with pwr := { phase := .run, dip := true, dipMin := 450 } }, 500, by decide +kernel⟩
theorem witness_supplyDip_4 : ∃ (s : State) (x : Nat), s.pwr.dip = true ∧ s.pwr.dipRise = some x ∧ x + 180 ≤ s.now ∧ s.mainUp = true :=
  ⟨{ up with now := 180, pwr := { phase := .run, dip := true, dipRise := some 0 } }, 0, by decide +kernel⟩
theorem witness_supplyDip_5 : ∃ (s : State) (x : Nat), s.pwr.dip = true ∧ s.pwr.dipRise = some x ∧ x + 180 ≤ s.now ∧ s.mainUp = false :=
  ⟨{ inPhase (.sleep 1) with now := 180, pwr := { phase := .sleep 1, dip := true, dipRise := some 0 } }, 0, by decide +kernel⟩
theorem witness_sleepRegimes_1 : ∃ (s : State) (b : List Byte) (f : Frame), Arrives 0x40 b f s ∧ f.num 0 1 = 0 ∧ (heardOf 0x40 b s).isStandby = true ∧ (heardOf 0x40 b s).pwr.phase = .run :=
  ⟨pairUp false, beBytes 44 0x4001040001000000000000000900000000000000D0EEBEC54D8DED2256BC2EA2C9575475EC7A83592289930D, gotFrame (pairUp false) 64 (beBytes 44 0x4001040001000000000000000900000000000000D0EEBEC54D8DED2256BC2EA2C9575475EC7A83592289930D), by unfold Arrives heardOf; decide +kernel⟩
theorem witness_sleepRegimes_2 : ∃ (s : State) (b : List Byte) (f : Frame), Arrives 0x40 b f s ∧ f.num 0 1 = 1 ∧ (heardOf 0x40 b s).isStandby = false :=
  ⟨pairUp true, beBytes 44 0x40010400010000000000000009000000000000006208687F3B42B4ED6FC0ED3E4B13F9EC67310537577F6ECB, gotFrame (pairUp true) 64 (beBytes 44 0x40010400010000000000000009000000000000006208687F3B42B4ED6FC0ED3E4B13F9EC67310537577F6ECB), by unfold Arrives heardOf; decide +kernel⟩
theorem witness_sleepRegimes_4 : ∃ (s : State), s.now < s.pwr.dayAt + 86400000000 :=
  ⟨{ up with now := 100 }, by decide +kernel⟩
theorem witness_sleepRegimes_6 : ∃ (s : State), s.pwr.listenSince = none :=
  ⟨up, by decide +kernel⟩

/-! ## Witnesses of the statements of chapter 4 -/
theorem witness_lfaControl_1 : ∃ (s : State) (m : Nat), s.mayStore m Reg.LFA_CTRL_EN 0 = true ∧ s.flag Reg.LFA_CTRL_EN = false :=
  ⟨up.setI Reg.LFA_CH_CFG_EN 3 1, 1, by decide +kernel⟩
theorem witness_lfaControl_2 : ∃ (s : State) (m : Nat) (f : Nat), s.mayStore m Reg.LFA_CARRIER_FREQ 0 = true ∧ 100000 ≤ f ∧ f ≤ 150000 ∧ up.flag Reg.LFA_CTRL_EN = false :=
  ⟨up, 1, 100000, by decide +kernel⟩
theorem witness_lfaControl_2_b : ∃ (s : State) (m : Nat) (f : Nat), s.mayStore m Reg.LFA_CARRIER_FREQ 0 = true ∧ 100000 ≤ f ∧ f ≤ 150000 ∧ lfOn.flag Reg.LFA_CTRL_EN = true :=
  ⟨lfOn, 1, 150000, by decide +kernel⟩
theorem witness_lfaControl_3 : ∃ (s : State) (m : Nat) (q : LfSeq), s.lfa.seq = some q ∧ q.issuer ≠ 1 ∧ s.mayWriteField m Reg.LFA_CTRL_STOP = true :=
  ⟨{ lfOn with lfa := { seq := some { issuer := 2 } } }, 1, { issuer := 2 }, by decide +kernel⟩
theorem witness_lfaControl_4 : ∃ (s : State) (d : List (Nat × Nat)) (m : List (Nat × Nat × Nat)), s.flag Reg.LFA_CTRL_EN = true :=
  ⟨lfOn, [], [], by decide +kernel⟩
theorem witness_channelFaults_1 : ∃ (s : State) (b : Fin 4) (k : Nat), k < 4 :=
  ⟨lfOn, 3, 3, by decide +kernel⟩
theorem witness_channelFaults_3 : ∃ (s : State) (ch : Fin 16), s.drives ch.val = true :=
  ⟨{ lfOn with lfa := { fret := some fret3 } }, 3, by decide +kernel⟩
theorem witness_channelFaults_4 : ∃ (s : State) (ch : Fin 16) (cycle : Nat) (current : Nat) (phase : Nat) (f : Fret) (x : Nat × Nat × Nat), s.lfa.fret = some f ∧ f.slots.find? (fun y => y.1 == ch.val) = some x ∧ s.drives ch.val = true ∧ 8 < cycle ∧ nearPhase phase (s.targetPhase ch.val x.2.2) = false :=
  ⟨{ lfOn with lfa := { fret := some fret3 } }, 3, 9, 100, 5, fret3, (3, 100, 0), by decide +kernel⟩
theorem witness_pingsAndTouch_1 : ∃ (s : State) (p : Nat), s.pingPeriod = some p ∧ s.sleeping ≠ 2 ∧ s.flag Reg.LFA_CTRL_EN = true ∧ s.lfa.pings = [] ∧ s.lfa.pingAt + p ≤ s.now :=
  ⟨{ lfOn.set Reg.LFA_CTRL_RUN_PING 1 with now := 10000000 }, 1000 * lfOn.reg Reg.LFA_PING_PER_PER_RUN, by decide +kernel⟩
theorem witness_pingsAndTouch_2 : ∃ (s : State) (ch : Fin 16) (df : BitVec 16) (q : BitVec 8), ch.val ∈ s.lfa.ringing :=
  ⟨{ lfOn with lfa := { ringing := [3], seeding := [3] } }, 3, 0xFFFE, 40, by decide +kernel⟩
theorem witness_pingsAndTouch_3 : ∃ (s : State) (ch : Fin 16), (s.presence ch.val).present = true ∧ (s.presence ch.val).since + 1000000 * s.reg Reg.LFA_PRES_CFG_PRES_HOLD ≤ s.now :=
  ⟨{ lfOn.setI Reg.LFA_CH_RING_DF 2 0xFFFE with now := 4000000000, lfa := { presence := [(2, { present := true })] } }, 2, by decide +kernel⟩
theorem witness_pingsAndTouch_4 : ∃ (s : State) (k : Nat) (c : Nat), k < 8 ∧ c < 4096 ∧ bit (s.reg Reg.TCH_CTRL_EN) k = true ∧ s.sleeping ≤ 3 ∧ s.lfa.scanAt + 1000 * (if s.sleeping = 0 then s.reg Reg.TCH_SCAN_PER_RUN else s.reg Reg.TCH_SCAN_PER_SLEEP) ≤ s.now :=
  ⟨{ (up.set Reg.TCH_CTRL_EN 1).setI Reg.TCH_CFG_THRESH 0 50 with now := 10000000, lfa := { touch := [(0, { count := 3 })] } }, 0, 100, by decide +kernel⟩
theorem witness_pingsAndTouch_4_b : ∃ (s : State) (k : Nat) (c : Nat), k < 8 ∧ c < 4096 ∧ bit (s.reg Reg.TCH_CTRL_EN) k = true ∧ s.sleeping ≤ 3 ∧ s.lfa.scanAt + 1000 * (if s.sleeping = 0 then s.reg Reg.TCH_SCAN_PER_RUN else s.reg Reg.TCH_SCAN_PER_SLEEP) ≤ s.now :=
  ⟨{ (up.set Reg.TCH_CTRL_EN 1).setI Reg.TCH_CFG_THRESH 0 50 with now := 10000000, lfa := { touch := [(0, { count := 3, touched := true })] } }, 0, 20, by decide +kernel⟩
theorem witness_pingsAndTouch_5 : ∃ (s : State) (k : Fin 8), (s.touchOf k.val).touched = true ∧ (s.touchOf k.val).since + 29000000 ≤ s.now :=
  ⟨{ up with now := 29000000, lfa := { touch := [(7, { c := 77, touched := true })] } }, 7, by decide +kernel⟩
theorem witness_lfQueueCommands_1 : ∃ (s : State) (r : Running), s.lfCommand 2 1 2 = some r ∧ s.flag Reg.LFA_CTRL_EN = false ∧ r.num 4 4 = 16 ∧ s.rangeOk r.entry.master (r.num 0 4) 16 = true ∧ (descriptor (s.bytes (r.num 0 4) 16)).kind = 2 :=
  ⟨(upCmd (cmd 2 1 (leBytes 4 0x10080000 ++ leBytes 4 16))).setByte 0x10080000 2, cmd 2 1 (leBytes 4 0x10080000 ++ leBytes 4 16), by decide +kernel⟩
theorem witness_lfQueueCommands_2 : ∃ (s : State) (r : Running) (k : Nat), s.lfCommand 2 1 2 = some r ∧ s.flag Reg.LFA_CTRL_EN = true ∧ 1 ≤ k ∧ k ≤ 3 ∧ r.num 4 4 = 16 * k ∧ s.rangeOk r.entry.master (r.num 0 4) (16 * k) = true ∧ ((∀ i, i < k → (descriptor (s.bytes (r.num 0 4 + 16 * i) 16)).kind = 0 ∨ (descriptor (s.bytes (r.num 0 4 + 16 * i) 16)).kind = 2 ∨ (descriptor (s.bytes (r.num 0 4 + 16 * i) 16)).kind = 3)) :=
  ⟨(withRun lfOn (cmd 2 1 (leBytes 4 0x10080000 ++ leBytes 4 48))).setByte 0x10080000 2, cmd 2 1 (leBytes 4 0x10080000 ++ leBytes 4 48), 3, by decide +kernel⟩
theorem witness_lfQueueCommands_3 : ∃ (s : State) (r : Running) (k : Nat), s.lfCommand 2 1 2 = some r ∧ 1 ≤ k ∧ k ≤ 3 ∧ r.num 4 4 = 16 * k ∧ s.rangeOk r.entry.master (r.num 0 4) (16 * k) = true ∧ ((∃ i, i < k ∧ ((descriptor (s.bytes (r.num 0 4 + 16 * i) 16)).kind = 1 ∨ 4 ≤ (descriptor (s.bytes (r.num 0 4 + 16 * i) 16)).kind))) :=
  ⟨(withRun lfOn (cmd 2 1 (leBytes 4 0x10080000 ++ leBytes 4 16))).setByte 0x10080000 1, cmd 2 1 (leBytes 4 0x10080000 ++ leBytes 4 16), 1, by decide +kernel⟩
theorem witness_lfQueueCommands_4 : ∃ (s : State) (r : Running), s.running 2 2 = some r :=
  ⟨{ withRun lfOn (cmd 2 2 []) with lfa := { seq := some { issuer := 2 } } }, cmd 2 2 [], by decide +kernel⟩
theorem witness_lfQueueCommands_5 : ∃ (s : State) (r : Running), s.lfCommand 13 0x20 3 = some r ∧ s.flag Reg.LFA_CTRL_EN = true ∧ 1 ≤ r.num 4 1 ∧ r.num 4 1 ≤ 64 ∧ r.num 2 2 ≤ 1023 ∧ r.num 0 2 ≠ 0 :=
  ⟨withRun lfOn (cmd 13 0x20 [3, 0, 0, 1, 64]), cmd 13 0x20 [3, 0, 0, 1, 64], by decide +kernel⟩
theorem witness_lfQueueCommands_6 : ∃ (s : State) (r : Running), s.running 13 0x21 = some r ∧ s.rangeOk r.entry.master r.dest 128 = true ∧ 128 ≤ r.destLen :=
  ⟨upCmd (cmd 13 0x21 (List.replicate 40 0 ++ leBytes 4 0x10080000 ++ leBytes 4 128)), cmd 13 0x21 (List.replicate 40 0 ++ leBytes 4 0x10080000 ++ leBytes 4 128), by decide +kernel⟩

/-! ## Witnesses of the statements of chapter 5 -/
/-- An uplink frame with its LEN and CRC. -/
def upFrame (pre typ : Nat) (p : List Byte) : List Byte :=
  let b := leBytes 1 (p.length + 1) ++ leBytes 1 typ ++ p
  b ++ beBytes 2 (geletCrc pre b)
/-- A frame behind its PREAMBLE and SYNC. -/
def air (l : List Byte) : List Byte := [0xAA, 0xB3, 0x8E] ++ l
/-- GLT and both receivers enabled, LFA driving, template 0 of one burst. -/
def gltOn : State := ((((lfOn.set Reg.GLT_CTRL_EN 1).set Reg.UHF_CTRL_EN 3).set Reg.GLT_GROUP_GROUP 7).setByte (templateRam + 4) 1)
/-- An open session. -/
def sess0 : GSess := { number := 4, tag := 0x5A, template := 0, mode := 0, issuer := .core, openedAt := 0, q := 2, slotQ := 2 }
/-- A device with an open session at a step. -/
def inSess (g : GSess) : State := { gltOn with glt := { sess := some g } }
/-- A session with two tokens, one frame due. -/
def sessDue (d : Downlink) : GSess := { sess0 with step := .due d, toks := [{ handle := 0x1234 }, { handle := 0x4321, asked := true }] }
/-- A session whose replies are awaited. -/
def sessWait (typ : Nat) : GSess := { sess0 with step := .replies, toks := [{ handle := 0x1234, asked := true }], awaits := [{ handle := 0x1234, typ := typ, nominal := 256, span := 1024 }] }
/-- The engine's operation for a token's proof. -/
def proofOp : AeaOp := { cls := .timed, slot := 3, ring := ringGlt, cmd := checkId sess0 0x1234, isOpen := true, out := none, nonce := [], dest := 0 }
/-- A device whose lockout of place p has been recorded and has run. -/
def lockedAt (p : Nat) : State := { up.setByte (lktBase + lockAddr p + 7) 1 with now := 100000000000, glt := { restarted := [p] } }
/-- An authority window in which a write of GLT_LOCKOUT_CLR stands next. -/
def clearing (s : State) (v : Nat) : State :=
  { s with auth := some { source := .hf, ver := 1, ctr := 1, n := 2, left := [{ addr := Reg.GLT_LOCKOUT_CLR_DEVICE.addr, mask := 0xFFFFFFFF, value := v }, { addr := 0, mask := 0, value := 0 }], openedAt := s.now, phase := .writes } }
theorem witness_sessions_1 : ∃ (s : State) (m : Nat) (n : Fin 16), ((m = 1 ∨ m = 2)) ∧ SessionFree s n.val :=
  ⟨gltOn, 2, 0, by unfold SessionFree; decide +kernel⟩
theorem witness_sessions_2 : ∃ (s : State) (r : Running), s.que.running.find? (fun x => x.ring == 1 && x.entry.code == 1 && !x.started) = some r ∧ SessionFree s (r.num 0 1) :=
  ⟨withRun gltOn (cmd 1 1 [0]), cmd 1 1 [0], by unfold SessionFree; decide +kernel⟩
theorem witness_sessions_3 : ∃ (s : State) (r : Running) (g : GSess), s.que.running.find? (fun x => x.ring == 1 && x.entry.code == 1 && !x.started) = some r ∧ s.runningSeq 1 r.entry.seq = some r ∧ s.glt.sess = some g ∧ s.crdSwitching = false ∧ s.nor.drain = none :=
  ⟨withRun (inSess sess0) (cmd 1 1 [0]), cmd 1 1 [0], sess0, by decide +kernel⟩
theorem witness_sessions_4 : ∃ (s : State) (m : Nat) (g : GSess), ((m = 1 ∨ m = 2)) ∧ s.glt.sess = some g :=
  ⟨{ inSess sess0 with lfa := { seq := some { issuer := 1 } } }, 1, sess0, by decide +kernel⟩
theorem witness_sessions_5 : ∃ (s : State) (g : GSess), s.glt.sess = some g ∧ ((∀ x, g.step ≠ .aborted x)) ∧ g.ends = none ∧ NoBlocks s g.number ∧ g.openedAt + 1000 * s.reg Reg.GLT_SESS_CFG_T_MAX ≤ s.now :=
  ⟨{ inSess sess0 with now := 100000000 }, sess0, rfl, (fun _ h => by cases h), rfl, by unfold NoBlocks; decide +kernel, by decide +kernel⟩
theorem witness_sessions_6 : ∃ (s : State) (g : GSess) (x : Nat) (st : Nat) (c : Nat), s.glt.sess = some g ∧ g.step = .aborted x ∧ x + 2000000 ≤ s.now ∧ g.ends = some (st, c) ∧ s.pwr.dip = false ∧ st < 256 ∧ c < 256 :=
  ⟨{ inSess { sess0 with step := .aborted 0, ends := some (stPOWER, 9) } with now := 2000000 }, { sess0 with step := .aborted 0, ends := some (stPOWER, 9) }, 0, stPOWER, 9, by decide +kernel⟩
theorem witness_sessions_7 : ∃ (s : State) (m : Nat), s.mayWriteField m Reg.GLT_ERR_CLR_CLR = true :=
  ⟨gltOn.set Reg.GLT_ERR_CRC 3, 1, by decide +kernel⟩
theorem witness_downlinkFrames_1 : ∃ (s : State) (g : GSess), FrameDue s g .wake :=
  ⟨inSess (sessDue .wake), sessDue .wake, by unfold FrameDue; decide +kernel⟩
theorem witness_downlinkFrames_2 : ∃ (s : State) (g : GSess) (l : List Nat), FrameDue s g (.round l) :=
  ⟨inSess (sessDue (.round [0x1234])), sessDue (.round [0x1234]), [0x1234], by unfold FrameDue; decide +kernel⟩
theorem witness_downlinkFrames_3 : ∃ (s : State) (g : GSess) (l : List Nat), FrameDue s g (.challenge l) ∧ s.rngServes = true :=
  ⟨inSess (sessDue (.challenge [0x1234])), sessDue (.challenge [0x1234]), [0x1234], by unfold FrameDue; decide +kernel⟩
theorem witness_downlinkFrames_4 : ∃ (s : State) (g : GSess) (l : List Nat), FrameDue s g (.challenge l) ∧ s.rngServes = false :=
  ⟨{ inSess (sessDue (.challenge [0x1234])) with crypto := {} }, sessDue (.challenge [0x1234]), [0x1234], by unfold FrameDue; decide +kernel⟩
theorem witness_downlinkFrames_5 : ∃ (s : State) (g : GSess) (x : Nat), FrameDue s g (.measure x) :=
  ⟨inSess (sessDue (.measure 0)), sessDue (.measure 0), 0, by unfold FrameDue; decide +kernel⟩
theorem witness_downlinkFrames_6 : ∃ (s : State) (g : GSess) (h : Nat) (f : Nat) (n : Nat), FrameDue s g (.report h f n) :=
  ⟨inSess (sessDue (.report 0x1234 0 1)), sessDue (.report 0x1234 0 1), 0x1234, 0, 1, by unfold FrameDue; decide +kernel⟩
theorem witness_downlinkFrames_7 : ∃ (s : State) (g : GSess) (h : Nat), FrameDue s g (.halt h) :=
  ⟨inSess (sessDue (.halt 0xFFFF)), sessDue (.halt 0xFFFF), 0xFFFF, by unfold FrameDue; decide +kernel⟩
theorem witness_downlinkFrames_8 : ∃ (s : State) (g : GSess) (h : Nat), FrameDue s g (.again h) :=
  ⟨inSess (sessDue (.again 0x1234)), sessDue (.again 0x1234), 0x1234, by unfold FrameDue; decide +kernel⟩
theorem witness_downlinkFrames_9 : ∃ (s : State) (g : GSess) (h : Nat), FrameDue s g (.release h) :=
  ⟨inSess (sessDue (.release 0x1234)), sessDue (.release 0x1234), 0x1234, by unfold FrameDue; decide +kernel⟩
theorem witness_downlinkFrames_10 : ∃ (s : State) (g : GSess), FrameDue s g .nextSlot :=
  ⟨inSess (sessDue .nextSlot), sessDue .nextSlot, by unfold FrameDue; decide +kernel⟩
theorem witness_slotsAndReplies_1 : ∃ (s : State) (rx : Fin 3) (start : Nat) (h : Nat) (rssi : BitVec 8) (raw : List Byte) (f : List Byte) (g : GSess), airFrame (rx.val == 2) raw = some f ∧ s.glt.sess = some g ∧ g.step = .slots ∧ s.sessionHears g rx.val = true ∧ uplink g.tag f = (true, 0x81, beBytes 2 h) ∧ h < 65536 ∧ inWindowOf (bit g.mode 0) (if bit g.mode 0 then 128 else 256 + 512 * g.slot) start = true ∧ g.tok h = none ∧ g.single = none :=
  ⟨inSess { sess0 with step := .slots }, 0, 256, 0xFFFE, 20, air (upFrame 0x5A 0x81 [0xFF, 0xFE]), upFrame 0x5A 0x81 [0xFF, 0xFE], { sess0 with step := .slots }, by decide +kernel⟩
theorem witness_slotsAndReplies_2_a : ∃ (s : State) (e : Bool) (g : GSess), s.glt.sess = some g ∧ g.step = .slots ∧ g.slot + 1 < 2 ^ g.slotQ :=
  ⟨inSess { sess0 with step := .slots, single := some 5 }, false, { sess0 with step := .slots, single := some 5 }, by decide +kernel⟩
theorem witness_slotsAndReplies_2_b : ∃ (s : State) (e : Bool) (g : GSess), s.glt.sess = some g ∧ g.step = .slots ∧ g.slot + 1 < 2 ^ g.slotQ :=
  ⟨inSess { sess0 with step := .slots }, false, { sess0 with step := .slots }, by decide +kernel⟩
theorem witness_slotsAndReplies_2_c : ∃ (s : State) (e : Bool) (g : GSess), s.glt.sess = some g ∧ g.step = .slots ∧ g.slot + 1 < 2 ^ g.slotQ :=
  ⟨inSess { sess0 with step := .slots }, true, { sess0 with step := .slots }, by decide +kernel⟩
theorem witness_slotsAndReplies_3 : ∃ (s : State) (e : Bool) (g : GSess) (h : Nat), s.glt.sess = some g ∧ g.step = .slots ∧ 2 ^ g.slotQ ≤ g.slot + 1 ∧ g.single = some h ∧ g.noise = false ∧ g.abort = false :=
  ⟨inSess { sess0 with step := .slots, slot := 3, empty := 2, coll := 0, single := some 5 }, false, { sess0 with step := .slots, slot := 3, empty := 2, coll := 0, single := some 5 }, 5, by decide +kernel⟩
theorem witness_slotsAndReplies_4 : ∃ (s : State) (rx : Fin 3) (start : Nat) (rssi : BitVec 8) (raw : List Byte) (f : List Byte) (p : List Byte) (g : GSess) (w : Await) (k : GTok), airFrame (rx.val == 2) raw = some f ∧ s.glt.sess = some g ∧ g.step = .replies ∧ s.sessionHears g rx.val = true ∧ g.awaitAt start = some w ∧ w.typ = 0x83 ∧ uplink g.tag f = (true, 0x83, p) ∧ 16 ≤ p.length ∧ inWindowOf (bit g.mode 0) w.nominal start = true ∧ g.tok w.handle = some k ∧ g.abort = false :=
  ⟨inSess (sessWait 0x83), 0, 256, 20, air (upFrame 0x5A 0x83 (List.replicate 16 1)), upFrame 0x5A 0x83 (List.replicate 16 1), List.replicate 16 1, sessWait 0x83, { handle := 0x1234, typ := 0x83, nominal := 256, span := 1024 }, { handle := 0x1234, asked := true }, by decide +kernel⟩
theorem witness_slotsAndReplies_5 : ∃ (s : State) (rx : Fin 3) (start : Nat) (rssi : BitVec 8) (raw : List Byte) (f : List Byte) (p : List Byte) (g : GSess) (w : Await), airFrame (rx.val == 2) raw = some f ∧ s.glt.sess = some g ∧ g.step = .replies ∧ s.sessionHears g rx.val = true ∧ g.awaitAt start = some w ∧ w.typ = 0x85 ∧ uplink g.tag f = (true, 0x85, p) ∧ p ≠ [] ∧ inWindowOf (bit g.mode 0) w.nominal start = true ∧ g.abort = false :=
  ⟨inSess (sessWait 0x85), 0, 256, 20, air (upFrame 0x5A 0x85 (List.replicate 13 1)), upFrame 0x5A 0x85 (List.replicate 13 1), List.replicate 13 1, sessWait 0x85, { handle := 0x1234, typ := 0x85, nominal := 256, span := 1024 }, by decide +kernel⟩
theorem witness_slotsAndReplies_6 : ∃ (s : State) (g : GSess) (w : Await) (l : List Await), s.glt.sess = some g ∧ g.step = .replies ∧ g.awaits = w :: l ∧ g.abort = false :=
  ⟨inSess (sessWait 0x83), sessWait 0x83, { handle := 0x1234, typ := 0x83, nominal := 256, span := 1024 }, [], by decide +kernel⟩
theorem witness_slotsAndReplies_7 : ∃ (s : State) (g : GSess) (w : Await), s.glt.sess = some g ∧ g.step = .replies ∧ g.awaits = [w] ∧ g.abort = true ∧ g.ends = none :=
  ⟨inSess { sessWait 0x83 with abort := true }, { sessWait 0x83 with abort := true }, { handle := 0x1234, typ := 0x83, nominal := 256, span := 1024 }, by decide +kernel⟩
theorem witness_slotsAndReplies_8 : ∃ (s : State) (rx : Fin 2) (rssi : BitVec 8) (raw : List Byte) (f : List Byte), airFrame false raw = some f ∧ s.receives rx.val = true ∧ (uplink 0 f).1 = true ∧ (uplink 0 f).2.1 ∉ [0x81, 0x83, 0x85, 0x40] :=
  ⟨gltOn, 1, 20, air (upFrame 0 0x77 [1]), upFrame 0 0x77 [1], by decide +kernel⟩
theorem witness_proofChecks_1 : ∃ (s : State) (o : AeaOp) (g : GSess) (c : ProofCheck) (k : GTok), (s.engine 0).op = some o ∧ o.ring = ringGlt ∧ s.masksFlow = true ∧ s.glt.sess = some g ∧ g.checks.find? (fun x => checkId g x.handle == o.cmd) = some c ∧ g.tok c.handle = some k :=
  ⟨{ inSess { sess0 with step := .checking, toks := [{ handle := 0x1234, asked := true }], checks := [{ handle := 0x1234, payload := List.replicate 16 1, kek := 0, slot := 3 }] } with crypto := { rng := { state := .ok }, kat := [blkRNG], aea0 := { op := some proofOp } } }, proofOp, { sess0 with step := .checking, toks := [{ handle := 0x1234, asked := true }], checks := [{ handle := 0x1234, payload := List.replicate 16 1, kek := 0, slot := 3 }] }, { handle := 0x1234, payload := List.replicate 16 1, kek := 0, slot := 3 }, { handle := 0x1234, asked := true }, by decide +kernel⟩
theorem witness_proofChecks_1_wp : ∃ (s : State) (o : AeaOp) (g : GSess) (c : ProofCheck) (k : GTok), (s.engine 0).op = some o ∧ o.ring = ringGlt ∧ s.masksFlow = true ∧ s.glt.sess = some g ∧ g.checks.find? (fun x => checkId g x.handle == o.cmd) = some c ∧ g.tok c.handle = some k :=
  ⟨{ inSess { sess0 with step := .checking, toks := [{ handle := 0x1234, asked := true }], checks := [{ handle := 0x1234, payload := List.replicate 16 1, kek := 0, slot := 3 }] } with pins := { wpLow := true }, crypto := { rng := { state := .ok }, kat := [blkRNG], aea0 := { op := some proofOp } } }, proofOp, { sess0 with step := .checking, toks := [{ handle := 0x1234, asked := true }], checks := [{ handle := 0x1234, payload := List.replicate 16 1, kek := 0, slot := 3 }] }, { handle := 0x1234, payload := List.replicate 16 1, kek := 0, slot := 3 }, { handle := 0x1234, asked := true }, by decide +kernel⟩
theorem witness_telegrams_1 : ∃ (s : State) (rx : Fin 2) (rssi : BitVec 8) (raw : List Byte) (f : List Byte) (p : List Byte), airFrame false raw = some f ∧ s.pwr.phase = .run ∧ s.receives rx.val = true ∧ uplink 0 f = (true, 0x40, p) ∧ p.length = 12 ∧ ((rx.val = 0 → s.glt.tuned = none)) ∧ NewTelegram s p ∧ s.glt.held = none ∧ s.glt.queue = [] ∧ s.masksFlow = true ∧ s.enginesFailed = false ∧ (s.freeEngine .timed).isSome = true ∧ s.lktRefuses = false ∧ s.findSid (ofBe (p.take 4)) = none :=
  ⟨{ gltOn.set Reg.AEA_CTRL_EN 3 with crypto := { rng := { state := .ok }, kat := [blkRNG, blkAEA] } }, 1, 20, air (upFrame 0 0x40 (List.replicate 12 3)), upFrame 0 0x40 (List.replicate 12 3), List.replicate 12 3, by unfold NewTelegram; decide +kernel⟩
theorem witness_telegrams_3 : ∃ (s : State) (rx : Fin 2) (rssi : BitVec 8) (raw : List Byte) (f : List Byte) (p : List Byte), airFrame false raw = some f ∧ s.pwr.phase = .run ∧ s.receives rx.val = true ∧ uplink 0 f = (true, 0x40, p) ∧ p.length = 12 ∧ ((rx.val = 0 → s.glt.tuned = none)) ∧ ¬NewTelegram s p :=
  ⟨{ gltOn with glt := { trains := [{ bytes := List.replicate 12 3, at_ := 0 }] } }, 1, 20, air (upFrame 0 0x40 (List.replicate 12 3)), upFrame 0 0x40 (List.replicate 12 3), List.replicate 12 3, by unfold NewTelegram; decide +kernel⟩
theorem witness_telegrams_2 : ∃ (s : State) (rx : Fin 2) (rssi : BitVec 8) (raw : List Byte) (f : List Byte) (p : List Byte) (n : Nat), airFrame false raw = some f ∧ s.pwr.phase = .sleep n ∧ 1 ≤ n ∧ n ≤ 3 ∧ s.receives rx.val = true ∧ s.wakeEnabled 2 = true ∧ uplink 0 f = (true, 0x40, p) ∧ p.length = 12 ∧ ((rx.val = 0 → s.glt.tuned = none)) ∧ NewTelegram s p :=
  ⟨{ gltOn.set Reg.PWR_WAKE_EN_UHF 1 with pwr := { phase := .sleep 2 }, glt := { sniff := some (0, 0, true) } }, 0, 20, air (upFrame 0 0x40 (List.replicate 12 3)), upFrame 0 0x40 (List.replicate 12 3), List.replicate 12 3, 2, by unfold NewTelegram; decide +kernel⟩
theorem witness_telegrams_4 : ∃ (s : State) (h : HeldTelegram) (w : LktWrite), s.glt.held = some h ∧ (s.settle .telegram).1 = some w ∧ w.state.ok = true ∧ h.accepted = true ∧ s.glt.queue = [] :=
  ⟨{ gltOn with pins := { holdupReady := true }, lkt := { writes := [{ writer := .telegram, items := [], placed := true, at_ := 0 }] }, glt := { held := some { cred := 3, ctr := 5, btn := 1, old := 4, accepted := true, resync := false } } }, { cred := 3, ctr := 5, btn := 1, old := 4, accepted := true, resync := false }, { writer := .telegram, items := [], placed := true, at_ := 0, state := .accepted }, by decide +kernel⟩
theorem witness_lockoutsEnd_1 : ∃ (s : State) (p : Fin 129), s.lktRefuses = false ∧ s.lockRecorded p.val = true ∧ s.lockSeconds ≤ s.lockAge p.val :=
  ⟨lockedAt 0, 0, by decide +kernel⟩
theorem witness_lockoutsEnd_1_b : ∃ (s : State) (p : Fin 129), s.lktRefuses = false ∧ s.lockRecorded p.val = true ∧ s.lockSeconds ≤ s.lockAge p.val :=
  ⟨lockedAt 128, 128, by decide +kernel⟩
theorem witness_lockoutsEnd_2 : ∃ (s : State) (p : Fin 129), (s.lockRecorded p.val = false ∨ s.lockAge p.val + 1 < s.lockSeconds) :=
  ⟨up, 7, by decide +kernel⟩
theorem witness_lockoutsEnd_6 : ∃ (s : State) (m : Nat) (i : Fin 4096), m ≤ 7 ∧ (m ≠ 1 ∨ s.auth = none) :=
  ⟨lockedAt 0, 1, 3, by decide +kernel⟩
theorem witness_uhfReception_1 : ∃ (s : State) (e : Bool), 1 ≤ s.sleeping ∧ s.sleeping ≤ 3 ∧ s.pwr.dip = false ∧ bit (s.reg Reg.UHF_CTRL_EN) (s.reg Reg.UHF_CTRL_SNIFF) = true ∧ s.glt.sniffAt + (if s.sleeping = 3 then 980000 else 1000 * s.reg Reg.UHF_SNIFF_PER) ≤ s.now :=
  ⟨{ gltOn with now := 2000000, pwr := { phase := .sleep 3 } }, true, by decide +kernel⟩
theorem witness_uhfReception_2 : ∃ (s : State) (r : Nat) (x : Nat), s.glt.sniff = some (r, x, true) ∧ x + 16800 ≤ s.now :=
  ⟨{ gltOn with now := 16800, pwr := { phase := .sleep 3 }, glt := { sniff := some (0, 0, true) } }, 0, 0, by decide +kernel⟩
theorem witness_uhfReception_3 : ∃ (s : State) (rx : Fin 2) (v : BitVec 8), s.receives rx.val = true ∧ signed 8 (s.reg Reg.UHF_JAM_THRESH) < v.toInt :=
  ⟨gltOn, 1, 0x7F, by decide +kernel⟩
theorem witness_uhfReception_4 : ∃ (s : State) (rx : Fin 2) (v : BitVec 8), s.receives rx.val = true ∧ v.toInt < signed 8 (s.reg Reg.UHF_JAM_THRESH) :=
  ⟨{ gltOn with glt := { uhf1 := { jam := true } } }, 1, 0x80, by decide +kernel⟩
theorem witness_lockoutsEnd_3 : ∃ (s : State), s.lktRefuses = false ∧ ClearNamed s 1 ∧ s.lockRecorded 128 = true :=
  ⟨clearing (lockedAt 128) 1, by decide +kernel, ⟨{ addr := Reg.GLT_LOCKOUT_CLR_DEVICE.addr, mask := 0xFFFFFFFF, value := 1 }, by decide +kernel, by decide +kernel⟩, by decide +kernel⟩
theorem witness_lockoutsEnd_4 : ∃ (s : State) (i : Fin 4096) (p : Nat), s.lktRefuses = false ∧ ClearNamed s (2 + 65536 * i.val) ∧ s.credPlace i.val = some p :=
  ⟨clearing (lockedAt 0) 2, 0, 0, by decide +kernel, ⟨{ addr := Reg.GLT_LOCKOUT_CLR_DEVICE.addr, mask := 0xFFFFFFFF, value := 2 }, by decide +kernel, by decide +kernel⟩, by decide +kernel⟩
theorem witness_lockoutsEnd_5 : ∃ (s : State), s.lktRefuses = false ∧ ClearNamed s 4 :=
  ⟨clearing ((lockedAt 5).setByte (lktBase + lockAddr 128 + 7) 1) 4, by decide +kernel, ⟨{ addr := Reg.GLT_LOCKOUT_CLR_DEVICE.addr, mask := 0xFFFFFFFF, value := 4 }, by decide +kernel, by decide +kernel⟩⟩

/-! ## Witnesses of the statements of chapter 7 -/
/-- UWB on with two ports. -/
def uwbOn : State := (up.set Reg.UWB_CTRL_EN 1).set Reg.UWB_CTRL_PORT_EN 3
/-- Keys of a handle. -/
def ukeys0 : UKeys := { session := 4, handle := 0x1234, tag := 0x5A, kSes := List.replicate 32 1, kSts := List.replicate 16 2, vSts := List.replicate 16 3 }
/-- A running block. -/
def block0 : UBlock := { session := 4, handle := 0x1234, number := 0, ports := [0, 1], base := 0, startedAt := 0 }
/-- A running block after its first poll. -/
def block1 : UBlock := { session := 4, handle := 0x1234, number := 0, ports := [0, 1], base := 0, startedAt := 0, polls := [(0, 100, 5)] }
/-- A running block after all its polls. -/
def block2 : UBlock := { session := 4, handle := 0x1234, number := 0, ports := [0, 1], base := 0, startedAt := 0, polls := [(0, 100, 5), (1, 200, 6)] }
/-- A session that VRD judges. -/
def sessVrd : GSess := { number := 4, tag := 0x5A, template := 0, mode := 0, issuer := .core, openedAt := 10 }
/-- VRD enabled, a session open. -/
def vrdOn : State := { up.set Reg.VRD_CTRL_EN 1 with now := 20, glt := { sess := some sessVrd } }
/-- A PRESENT proposal. -/
def prop3 : Proposal := { typ := 3, session := 4, cmd := none, trig := none, acceptedAt := 20 }
/-- An ENTRY proposal with its trigger. -/
def prop1 : Proposal := { typ := 1, session := 4, cmd := none, trig := some { zone := 1, ref := 0, latched := 5, start := 5 }, acceptedAt := 20 }
theorem witness_rangingBlocks_1_q : ∃ (s : State) (m : Nat) (h : BitVec 16) (k : UKeys), ((m = 1 ∨ m = 2)) ∧ s.uwb.keys.reverse.find? (fun x => x.handle == h.toNat) = some k ∧ s.flag Reg.UWB_CTRL_EN = true ∧ k.blocks + (s.uwb.waiting.filter (fun w => w.session == k.session && w.handle == k.handle)).length < s.reg Reg.UWB_SCHED_MAX_BLOCKS ∧ s.uwb.waiting.length < 8 :=
  ⟨{ uwbOn with uwb := { keys := [ukeys0] } }, 1, 0x1234, ukeys0, by decide +kernel⟩
theorem witness_rangingBlocks_1_f : ∃ (s : State) (m : Nat) (h : BitVec 16) (k : UKeys), ((m = 1 ∨ m = 2)) ∧ s.uwb.keys.reverse.find? (fun x => x.handle == h.toNat) = some k ∧ s.flag Reg.UWB_CTRL_EN = true ∧ k.blocks + (s.uwb.waiting.filter (fun w => w.session == k.session && w.handle == k.handle)).length < s.reg Reg.UWB_SCHED_MAX_BLOCKS ∧ 8 ≤ s.uwb.waiting.length :=
  ⟨{ uwbOn.set Reg.UWB_SCHED_MAX_BLOCKS 20 with uwb := { keys := [ukeys0], waiting := List.replicate 8 { session := 4, handle := 0x4321 } } }, 1, 0x1234, ukeys0, by decide +kernel⟩
theorem witness_rangingBlocks_2 : ∃ (s : State) (w : UWait) (l : List UWait) (k : UKeys), s.uwb.block = none ∧ s.uwb.scan = none ∧ s.uwb.cal = none ∧ s.uwb.waiting = w :: l ∧ w.go = none ∧ s.flag Reg.UWB_CTRL_EN = true ∧ s.lfAllowed = true ∧ s.replyDue w.handle = false ∧ s.ukeys w.session w.handle = some k ∧ s.usablePorts ≠ [] :=
  ⟨{ uwbOn with uwb := { keys := [ukeys0], waiting := [{ session := 4, handle := 0x1234 }] } }, { session := 4, handle := 0x1234 }, [], ukeys0, by decide +kernel⟩
theorem witness_rangingBlocks_3 : ∃ (s : State) (tx : BitVec 40) (b : UBlock) (p : Nat), s.uwb.block = some b ∧ b.ports[b.polls.length]? = some p ∧ b.startedAt + (b.polls.length + 1) * s.reg Reg.UWB_SCHED_PERIOD ≤ s.now ∧ s.replyDue b.handle = false ∧ b.onTime (s.reg Reg.UWB_SCHED_PERIOD) tx.toNat = true :=
  ⟨{ uwbOn with now := 100000, uwb := { keys := [ukeys0], block := some block0 } }, 31948800, block0, 0, by decide +kernel⟩
theorem witness_rangingBlocks_3_b : ∃ (s : State) (tx : BitVec 40) (b : UBlock) (p : Nat), s.uwb.block = some b ∧ b.ports[b.polls.length]? = some p ∧ b.startedAt + (b.polls.length + 1) * s.reg Reg.UWB_SCHED_PERIOD ≤ s.now ∧ s.replyDue b.handle = false ∧ b.onTime (s.reg Reg.UWB_SCHED_PERIOD) tx.toNat = true :=
  ⟨{ uwbOn with now := 100000, uwb := { keys := [ukeys0], block := some block1 } }, 63897700, block1, 1, by decide +kernel⟩
theorem witness_rangingBlocks_4 : ∃ (s : State) (tx : BitVec 40) (b : UBlock), s.uwb.block = some b ∧ b.onTime (s.reg Reg.UWB_SCHED_PERIOD) tx.toNat = false :=
  ⟨{ uwbOn with now := 100000, uwb := { keys := [ukeys0], block := some block1 } }, 31949100, block1, by decide +kernel⟩
theorem witness_rangingBlocks_5_ok : ∃ (s : State) (port : Fin 4) (rx : BitVec 40) (qual : BitVec 8) (fp : BitVec 8) (fpDiff : Nat) (lead : Nat) (eps : Int) (phase : Int) (b : UBlock) (p : Nat × Nat × Nat), s.uwb.block = some b ∧ b.polls.getLast? = some p ∧ port.val ∈ b.ports ∧ b.rxOf p.1 port.val = none :=
  ⟨{ uwbOn with uwb := { keys := [ukeys0], block := some block1 } }, 1, 50, 255, 30, 0, 0, 0, 0, block1, (0, 100, 5), by decide +kernel⟩
theorem witness_rangingBlocks_5_qual : ∃ (s : State) (port : Fin 4) (rx : BitVec 40) (qual : BitVec 8) (fp : BitVec 8) (fpDiff : Nat) (lead : Nat) (eps : Int) (phase : Int) (b : UBlock) (p : Nat × Nat × Nat), s.uwb.block = some b ∧ b.polls.getLast? = some p ∧ port.val ∈ b.ports ∧ b.rxOf p.1 port.val = none :=
  ⟨{ uwbOn.set Reg.UWB_RANGE_CFG_STS_QMIN 80 with uwb := { keys := [ukeys0], block := some block1 } }, 0, 50, 79, 30, 0, 0, 0, 0, block1, (0, 100, 5), by decide +kernel⟩
theorem witness_rangingBlocks_5_fp : ∃ (s : State) (port : Fin 4) (rx : BitVec 40) (qual : BitVec 8) (fp : BitVec 8) (fpDiff : Nat) (lead : Nat) (eps : Int) (phase : Int) (b : UBlock) (p : Nat × Nat × Nat), s.uwb.block = some b ∧ b.polls.getLast? = some p ∧ port.val ∈ b.ports ∧ b.rxOf p.1 port.val = none :=
  ⟨{ (uwbOn.set Reg.UWB_RANGE_CFG_STS_QMIN 80).set Reg.UWB_RANGE_CFG_FP_AGREE 8 with uwb := { keys := [ukeys0], block := some block1 } }, 0, 50, 80, 30, 1001, 32000, 0, 0, block1, (0, 100, 5), by decide +kernel⟩
theorem witness_rangingBlocks_6 : ∃ (s : State) (b : UBlock), s.uwb.block = some b ∧ b.polls.length = b.ports.length ∧ b.forPeer = false ∧ s.mirrorsNow = false ∧ NoAbort s :=
  ⟨{ uwbOn with uwb := { keys := [ukeys0], block := some block2 } }, block2, by unfold NoAbort; decide +kernel⟩
theorem witness_rangingBlocks_7 : ∃ (s : State) (b : UBlock), s.uwb.block = some b ∧ b.cut = none ∧ b.forPeer = false ∧ s.mirrorsNow = false ∧ NoAbort s :=
  ⟨{ uwbOn with uwb := { keys := [ukeys0], block := some block1 } }, block1, by unfold NoAbort; decide +kernel⟩
theorem witness_rangingBlocks_8 : ∃ (s : State) (m : Nat), s.mayWriteField m Reg.UWB_ERR_CLR_CLR = true :=
  ⟨uwbOn.set Reg.UWB_ERR_DEV 4, 1, by decide +kernel⟩
theorem witness_rangingQueue_1 : ∃ (s : State) (l : List (Nat × Nat × Int × Int × Int)) (r : Running), s.running 3 1 = some r ∧ s.runningSeq 3 r.entry.seq = some r ∧ s.uwbIdle = true ∧ s.uwb.cal = none ∧ s.uwb.scan = none ∧ s.lfAllowed = true ∧ 1 ≤ r.num 2 1 ∧ r.num 2 1 ≤ 64 ∧ portsOf s (r.num 0 1) ≠ [] ∧ ((s.startCmd r).useSlot (r.num 1 1) useDERIVE [1] 3).1 = 0 :=
  ⟨{ withRun (uwbOn.set Reg.KEY_CTRL_EN 1) (cmd 3 1 [3, 9, 4]) with key := { slots := [(9, aesSlot 2 3)] } }, [(0, 1, 8388700, 5, 100), (0, 0, 8388600, 5, 90)], cmd 3 1 [3, 9, 4], by decide +kernel⟩
theorem witness_rangingQueue_2 : ∃ (s : State) (l : List (Nat × Nat × Int × Int × Int)) (x : UCal), s.uwbIdle = true ∧ s.lfAllowed = true ∧ s.uwb.cal = some x :=
  ⟨{ withRun uwbOn (cmd 3 1 [3, 9, 4]) with uwb := { cal := some { cmd := 5, ports := [0, 1], kSts := List.replicate 16 2, vSts := List.replicate 16 3, blocks := 4 } } }, [(0, 1, 8388700, 5, 100)], { cmd := 5, ports := [0, 1], kSts := List.replicate 16 2, vSts := List.replicate 16 3, blocks := 4 }, by decide +kernel⟩
theorem witness_rangingQueue_3 : ∃ (s : State) (l : List (Nat × Nat × Int × Int × Int)) (r : Running), s.running 3 1 = some r ∧ s.uwbIdle = true ∧ s.uwb.cal = none ∧ s.uwb.scan = none ∧ s.lfAllowed = true ∧ ((r.num 2 1 = 0 ∨ 64 < r.num 2 1 ∨ portsOf s (r.num 0 1) = [])) :=
  ⟨withRun uwbOn (cmd 3 1 [3, 9, 65]), [], cmd 3 1 [3, 9, 65], by decide +kernel⟩
theorem witness_rangingQueue_4 : ∃ (s : State) (r : Running), s.que.running.find? (fun x => x.ring == 3 && x.entry.code == 2 && !x.started) = some r ∧ s.uwbIdle = true ∧ s.uwb.scan = none ∧ s.uwb.cal = none ∧ 1 ≤ r.num 2 2 ∧ r.num 2 2 ≤ 1000 ∧ r.num 0 1 ≤ 1 :=
  ⟨withRun uwbOn (cmd 3 2 [0, 3, 232, 3]), cmd 3 2 [0, 3, 232, 3], by decide +kernel⟩
theorem witness_rangingQueue_5 : ∃ (s : State) (meas : List (BitVec 8 × BitVec 8)) (x : UScan) (r : Running), s.uwb.scan = some x ∧ x.until_ ≤ s.now ∧ s.runningSeq 3 x.cmd = some r :=
  ⟨{ withRun uwbOn (cmd 3 2 [0, 3, 1, 0]) with now := 1000, uwb := { scan := some { cmd := 5, ports := [0, 1], until_ := 1000 } } }, [(0x85, 0x90)], { cmd := 5, ports := [0, 1], until_ := 1000 }, cmd 3 2 [0, 3, 1, 0], by decide +kernel⟩
theorem witness_rangingQueue_6 : ∃ (s : State) (r : Running), s.running 3 3 = some r ∧ s.uwbIdle = true :=
  ⟨withRun uwbOn (cmd 3 3 []), cmd 3 3 [], by decide +kernel⟩
theorem witness_rangingQueue_7 : ∃ (s : State) (l : List (Nat × Nat × Int × Int × Int)), s.uwbIdle = false :=
  ⟨{ uwbOn with uwb := { block := some block0 } }, [], by decide +kernel⟩
theorem witness_verdicts_1 : ∃ (s : State) (v : Solve) (l : List Solve), s.loc.due = v :: l :=
  ⟨{ up with loc := { due := [{ session := 4, handle := 0x1234, block := some 0 }] } }, { session := 4, handle := 0x1234, block := some 0 }, [], by decide +kernel⟩
theorem witness_verdicts_1_on : ∃ (s : State) (v : Solve) (l : List Solve), s.loc.due = v :: l :=
  ⟨{ up.set Reg.LOC_CTRL_EN 1 with loc := { due := [{ session := 4, handle := 0x1234, block := some 0 }] } }, { session := 4, handle := 0x1234, block := some 0 }, [], by decide +kernel⟩
theorem witness_verdicts_3 : ∃ (s : State) (m : Nat) (typ : BitVec 3), ((m = 1 ∨ m = 2)) ∧ s.propRefused typ.toNat (s.reg Reg.VRD_PROP_SESS_SESSION) ≠ 0 :=
  ⟨up, 1, 1, by decide +kernel⟩
theorem witness_verdicts_4 : ∃ (s : State) (m : Nat) (typ : BitVec 3), ((m = 1 ∨ m = 2)) ∧ Accepts s typ.toNat (s.reg Reg.VRD_PROP_SESS_SESSION) :=
  ⟨vrdOn.set Reg.VRD_PROP_SESS_SESSION 4, 1, 3, by unfold Accepts; decide +kernel⟩
theorem witness_verdicts_5 : ∃ (s : State) (r : Running), s.que.running.find? (fun x => x.ring == 1 && x.entry.code == 2 && !x.started) = some r ∧ s.runningSeq 1 r.entry.seq = some r ∧ s.glt.sess = none ∧ s.glt.last = none :=
  ⟨withRun up (cmd 1 2 [1, 4, 0, 0, 0]), cmd 1 2 [1, 4, 0, 0, 0], by decide +kernel⟩
theorem witness_verdicts_6 : ∃ (s : State) (r : Running), s.que.running.find? (fun x => x.ring == 1 && x.entry.code == 2 && !x.started) = some r ∧ Accepts s (r.num 0 1) (r.num 1 4) :=
  ⟨withRun vrdOn (cmd 1 2 [3, 4, 0, 0, 0]), cmd 1 2 [3, 4, 0, 0, 0], by unfold Accepts; decide +kernel⟩
theorem witness_verdicts_7 : ∃ (s : State) (r : Running), s.running 1 3 = some r :=
  ⟨withRun up (cmd 1 3 []), cmd 1 3 [], by decide +kernel⟩
theorem witness_verdicts_8 : ∃ (s : State) (b : Bool) (g : GSess) (p : Proposal) (d : Nat), s.vrdSession = some g ∧ s.vrd.pending.find? (fun x => x.typ == (if b then 2 else 1) && x.decided.isNone && !x.deadlineDone) = some p ∧ s.deadlineOf p = some d ∧ d ≤ s.now ∧ g.handles.any (fun h => s.tokenReady g h && (s.judgeToken g p h).1 == 0) = false :=
  ⟨{ vrdOn with now := 100000000, vrd := { pending := [prop1] } }, false, sessVrd, prop1, 5 + 1000 * vrdOn.reg Reg.VRD_DEADLINE_ENTRY, by decide +kernel⟩
theorem witness_verdicts_9_no : ∃ (s : State) (p : Proposal) (d : Decision), s.vrd.pending.findSome? (fun x => x.decided.map (fun y => (x, y))) = some (p, d) ∧ ((s.pwr.dip = true → d.chosen = none)) :=
  ⟨{ vrdOn with vrd := { pending := [{ prop3 with decided := some { status := stAUTH, cause := 5, chosen := none, flags := 0, at_ := 20, cands := [] } }] } }, { prop3 with decided := some { status := stAUTH, cause := 5, chosen := none, flags := 0, at_ := 20, cands := [] } }, { status := stAUTH, cause := 5, chosen := none, flags := 0, at_ := 20, cands := [] }, by decide +kernel⟩
theorem witness_verdicts_9_yes : ∃ (s : State) (p : Proposal) (d : Decision), s.vrd.pending.findSome? (fun x => x.decided.map (fun y => (x, y))) = some (p, d) ∧ ((s.pwr.dip = true → d.chosen = none)) :=
  ⟨{ vrdOn with vrd := { pending := [{ prop3 with decided := some { status := stOK, cause := 0, chosen := some (2, 7, 0x1234), flags := 0, at_ := 20, cands := [] } }] } }, { prop3 with decided := some { status := stOK, cause := 0, chosen := some (2, 7, 0x1234), flags := 0, at_ := 20, cands := [] } }, { status := stOK, cause := 0, chosen := some (2, 7, 0x1234), flags := 0, at_ := 20, cands := [] }, by decide +kernel⟩
theorem witness_verdicts_10 : ∃ (s : State) (p : Proposal) (d : Decision), s.vrd.pending.findSome? (fun x => x.decided.map (fun y => (x, y))) = some (p, d) ∧ s.pwr.dip = true ∧ d.chosen ≠ none :=
  ⟨{ vrdOn with pwr := { phase := .run, dip := true }, vrd := { pending := [{ prop3 with decided := some { status := stOK, cause := 0, chosen := some (2, 7, 0x1234), flags := 0, at_ := 20, cands := [] } }] } }, { prop3 with decided := some { status := stOK, cause := 0, chosen := some (2, 7, 0x1234), flags := 0, at_ := 20, cands := [] } }, { status := stOK, cause := 0, chosen := some (2, 7, 0x1234), flags := 0, at_ := 20, cands := [] }, by decide +kernel⟩

/-! ## Witnesses of the statements of chapter 9 -/
/-- A ticket's payload: type, number, expiry. -/
def ticketOf (typ num expiry : Nat) : List Byte := fit 48 (leBytes 1 typ ++ [2, 7, 0] ++ leBytes 4 4 ++ leBytes 4 num ++ leBytes 6 expiry)
/-- GOV enabled with its counter ring, a Signet key, and nonces. -/
def govOn : State :=
  { ((((up.set Reg.GOV_CTRL_EN 1).set Reg.KEY_CTRL_EN 1).set Reg.GOV_SIGNET_CFG_KEY_SLOT 9).set Reg.GOV_SIGNET_CFG_BUS 1).set Reg.KEY_NONCE_CFG_DEVICE 3 with
    lkt := { rings := [{ num := 1, base := 16, pages := 16, newest := 41 }] }, key := { slots := [(9, aesSlot 0 2)], invocNext := 10, invocTop := 20 } }
/-- GOV with a ticket in Q_44. -/
def govWith (p : List Byte) : State := { govOn with que := { rings := [(44, [{ payload := p }])] } }
/-- GOV whose counter write is settled, accepted or refused. -/
def govCounter (st : Settled) : State :=
  { govOn with pins := { holdupReady := true, relA := some false, relBn := some true }, gov := { ticket := some { payload := ticketOf 2 6 1000, grant := 42 } }, lkt := { rings := [{ num := 1, base := 16, pages := 16, newest := 42 }], writes := [{ writer := .grantCounter, items := [], placed := true, at_ := 0, state := st }] } }
/-- GOV whose Signet is being sealed. -/
def govSeal (typ : Nat) : State :=
  { govOn with gov := { ticket := some { payload := ticketOf typ 6 1000, grant := 42, phase := .seal } }, crypto := { rng := { state := .ok }, kat := [blkRNG], aea0 := { op := some { cls := .safety, slot := 9, ring := ringGov, cmd := 6, isOpen := false, out := none, nonce := [], dest := 0 } } } }
/-- An asserted release. -/
def release0 : Release := { assertedAt := 0, form := 0, running := false, grant := 42 }
/-- A device with a release asserted. -/
def releasing (r : Release) : State := { up with now := 100000000, pins := { relA := some true, relBn := some false }, gov := { rel := some r } }
/-- A Signet in a controller. -/
def signet0 : Signet := { frame := { id := 5, xtd := false, fd := true, brs := false, data := [] }, grant := 42, kind := 1, copy := 0, left := 0, queued := true, at_ := 0, told := false }
/-- Both controllers on, with FD. -/
def canUp : State := ((up.setI Reg.CAN_CTRL_EN 0 1).setI Reg.CAN_CTRL_EN 1 1).setI Reg.CAN_CTRL_FD 1 1
theorem witness_tickets_1_stale : ∃ (s : State) (e : Entry) (l : List Entry) (st : Nat) (c : Nat), s.gov.ticket = none ∧ s.ring 44 = e :: l ∧ s.tsu.handover = none ∧ blkGOV ∉ s.fences.inReset ∧ s.ticketOutcome e.payload = some (st, c) :=
  ⟨{ govWith (ticketOf 2 6 5) with now := 6 }, { payload := ticketOf 2 6 5 }, [], stSTALE, 1, by decide +kernel⟩
theorem witness_tickets_1_off : ∃ (s : State) (e : Entry) (l : List Entry) (st : Nat) (c : Nat), s.gov.ticket = none ∧ s.ring 44 = e :: l ∧ s.tsu.handover = none ∧ blkGOV ∉ s.fences.inReset ∧ s.ticketOutcome e.payload = some (st, c) :=
  ⟨{ up with que := { rings := [(44, [{ payload := ticketOf 2 6 5 }])] } }, { payload := ticketOf 2 6 5 }, [], stPOLICY, 2, by decide +kernel⟩
theorem witness_tickets_1_spent : ∃ (s : State) (e : Entry) (l : List Entry) (st : Nat) (c : Nat), s.gov.ticket = none ∧ s.ring 44 = e :: l ∧ s.tsu.handover = none ∧ blkGOV ∉ s.fences.inReset ∧ s.ticketOutcome e.payload = some (st, c) :=
  ⟨{ govWith (ticketOf 2 6 5) with key := { slots := [(9, { aesSlot 0 2 with state := .spent })] } }, { payload := ticketOf 2 6 5 }, [], stSPENT, 9, by decide +kernel⟩
theorem witness_tickets_2 : ∃ (s : State) (e : Entry) (l : List Entry), s.gov.ticket = none ∧ s.ring 44 = e :: l ∧ s.tsu.handover = none ∧ blkGOV ∉ s.fences.inReset ∧ s.ticketOutcome e.payload = none :=
  ⟨govWith (ticketOf 2 6 5), { payload := ticketOf 2 6 5 }, [], by decide +kernel⟩
theorem witness_tickets_3 : ∃ (s : State) (x : GovTicket) (w : LktWrite), s.gov.ticket = some x ∧ x.phase = .counter ∧ (s.settle .grantCounter).1 = some w ∧ w.state.ok = false :=
  ⟨govCounter (.refused 5), { payload := ticketOf 2 6 1000, grant := 42 }, { writer := .grantCounter, items := [], placed := true, at_ := 0, state := .refused 5 }, by decide +kernel⟩
theorem witness_tickets_4 : ∃ (s : State) (x : GovTicket) (w : LktWrite), s.gov.ticket = some x ∧ x.phase = .counter ∧ (s.settle .grantCounter).1 = some w ∧ w.state.ok = true ∧ s.nonceRefused = false ∧ s.key.invocNext < s.key.invocTop ∧ s.slotCause s.signetSlot useSEAL [0, 1] 2 = 0 ∧ (s.slot s.signetSlot).count < (s.slot s.signetSlot).ceiling :=
  ⟨govCounter .waiting, { payload := ticketOf 2 6 1000, grant := 42 }, { writer := .grantCounter, items := [], placed := true, at_ := 0, state := .accepted }, by decide +kernel⟩
theorem witness_tickets_5_start : ∃ (s : State) (x : GovTicket) (e : Nat), s.gov.ticket = some x ∧ x.phase = .seal ∧ s.engineOf ringGov (ticketNumber x.payload) = some e :=
  ⟨govSeal 2, { payload := ticketOf 2 6 1000, grant := 42, phase := .seal }, 0, by decide +kernel⟩
theorem witness_tickets_5_entry : ∃ (s : State) (x : GovTicket) (e : Nat), s.gov.ticket = some x ∧ x.phase = .seal ∧ s.engineOf ringGov (ticketNumber x.payload) = some e :=
  ⟨govSeal 1, { payload := ticketOf 1 6 1000, grant := 42, phase := .seal }, 0, by decide +kernel⟩
theorem witness_releaseEnds_1 : ∃ (s : State) (e : Entry) (l : List Entry), s.ring 44 = e :: l ∧ s.gov.ticket = none ∧ s.tsu.handover = none ∧ blkGOV ∉ s.fences.inReset ∧ TicketPasses s e.payload :=
  ⟨govWith (ticketOf 2 6 5), { payload := ticketOf 2 6 5 }, [], by unfold TicketPasses; decide +kernel⟩
theorem witness_releaseEnds_2 : ∃ (s : State) (x : GovTicket) (w : LktWrite), s.gov.ticket = some x ∧ x.phase = .counter ∧ s.lkt.writes.find? (fun y => y.writer == .grantCounter) = some w ∧ w.state = .waiting ∧ w.placed = true ∧ s.pins.wpLow = false ∧ s.pins.holdupReady = true ∧ s.mirrorDone w.mseq = true ∧ s.nonceRefused = false ∧ s.key.invocNext < s.key.invocTop ∧ s.slotCause s.signetSlot useSEAL [0, 1] 2 = 0 ∧ (s.slot s.signetSlot).count < (s.slot s.signetSlot).ceiling :=
  ⟨govCounter .waiting, { payload := ticketOf 2 6 1000, grant := 42 }, { writer := .grantCounter, items := [], placed := true, at_ := 0 }, by decide +kernel⟩
theorem witness_releaseEnds_3 : ∃ (s : State) (x : GovTicket) (o : AeaOp), s.gov.ticket = some x ∧ x.phase = .seal ∧ s.masksFlow = true ∧ (s.engine 0).op = some o ∧ o.ring = ringGov ∧ o.cmd = ticketNumber x.payload :=
  ⟨govSeal 2, { payload := ticketOf 2 6 1000, grant := 42, phase := .seal }, { cls := .safety, slot := 9, ring := ringGov, cmd := 6, isOpen := false, out := none, nonce := [], dest := 0 }, by decide +kernel⟩
theorem witness_releaseEnds_6 : ∃ (s : State) (r : Release), s.gov.rel = some r ∧ r.running = false ∧ r.assertedAt + 1000000 * s.reg Reg.GOV_REL_CFG_START_WAIT ≤ s.now :=
  ⟨releasing release0, release0, by decide +kernel⟩
theorem witness_releaseEnds_7 : ∃ (s : State) (r : Release) (x : Nat), s.gov.rel = some r ∧ r.running = true ∧ r.lowSince = some x ∧ x + 10000 * s.reg Reg.GOV_REL_CFG_RUN_DROP ≤ s.now :=
  ⟨releasing { release0 with running := true, lowSince := some 0 }, { release0 with running := true, lowSince := some 0 }, 0, by decide +kernel⟩
theorem witness_releaseEnds_8 : ∃ (s : State) (a : Bool) (b : Bool), s.pins.relA = some a ∧ s.pins.relBn = some b :=
  ⟨{ releasing release0 with gov := { rel := some release0, mismatch := 2 } }, true, false, by decide +kernel⟩
theorem witness_releaseEnds_9 : ∃ (s : State) (a : Bool) (b : Bool) (x : Bool) (y : Bool), s.pins.relA = some x ∧ s.pins.relBn = some y ∧ (x, y) ≠ (a, b) ∧ 2 ≤ s.gov.mismatch :=
  ⟨{ releasing release0 with gov := { rel := some release0, mismatch := 2 } }, true, true, true, false, by decide +kernel⟩
theorem witness_releaseEnds_10 : ∃ (s : State) (a : Bool) (b : Bool) (x : Bool) (y : Bool), s.pins.relA = some x ∧ s.pins.relBn = some y ∧ (x, y) ≠ (a, b) ∧ s.gov.mismatch < 2 :=
  ⟨{ releasing release0 with gov := { rel := some release0, mismatch := 1 } }, true, true, true, false, by decide +kernel⟩
theorem witness_signetsOnCan_1 : ∃ (s : State) (c : Fin 2) (g : Signet), (s.canCtl c.val).signets = [g] ∧ g.queued = true ∧ g.left = 0 ∧ s.canOn c.val = true ∧ s.regI Reg.CAN_CTRL_FD c.val = 1 :=
  ⟨{ canUp with can := { c1 := { signets := [signet0] } } }, 1, signet0, by decide +kernel⟩
theorem witness_signetsOnCan_1_b : ∃ (s : State) (c : Fin 2) (g : Signet), (s.canCtl c.val).signets = [g] ∧ g.queued = true ∧ g.left = 0 ∧ s.canOn c.val = true ∧ s.regI Reg.CAN_CTRL_FD c.val = 1 :=
  ⟨{ canUp with can := { c1 := { signets := [{ signet0 with told := true }] } } }, 1, { signet0 with told := true }, by decide +kernel⟩
theorem witness_signetsOnCan_2 : ∃ (s : State) (c : Fin 2) (g : Signet), (s.canCtl c.val).signets = [g] ∧ g.queued = false ∧ g.at_ + 9000 ≤ s.now :=
  ⟨{ canUp with now := 9000, can := { c1 := { signets := [{ signet0 with queued := false }] } } }, 1, { signet0 with queued := false }, by decide +kernel⟩
theorem witness_signetsOnCan_3 : ∃ (s : State) (c : Fin 2) (g : Signet), (s.canCtl c.val).signets = [g] ∧ g.queued = true ∧ g.left = 0 ∧ g.at_ + 50000 ≤ s.now :=
  ⟨{ canUp with now := 50000, can := { c1 := { signets := [signet0] } } }, 1, signet0, by decide +kernel⟩
theorem witness_signetsOnCan_4 : ∃ (s : State) (c : Fin 2) (tx : Bool) (eight : Bool), s.canOn c.val = true :=
  ⟨{ canUp with can := { c1 := { tec := 248 } } }, 1, true, true, by decide +kernel⟩
theorem witness_signetsOnCan_4_b : ∃ (s : State) (c : Fin 2) (tx : Bool) (eight : Bool), s.canOn c.val = true :=
  ⟨canUp, 0, false, false, by decide +kernel⟩
theorem witness_signetsOnCan_5 : ∃ (s : State) (c : Fin 2), s.canState c.val = 2 :=
  ⟨{ canUp with can := { c1 := { tec := 255, rec_ := 9, busOff := true } } }, 1, by decide +kernel⟩
theorem witness_canFrames_1 : ∃ (s : State) (r : Running), s.que.running.find? (fun x => x.ring == 12 && x.entry.code == 1 && !x.started) = some r ∧ r.num 0 1 ≤ 1 ∧ r.num 6 1 = 0 ∧ r.num 8 1 ≤ 8 ∧ r.num 5 1 = 0 ∧ r.num 1 4 < 2 ^ 11 ∧ s.signetId (r.num 1 4) false = false :=
  ⟨withRun canUp (cmd 12 1 ([0] ++ leBytes 4 0x123 ++ [0, 0, 0, 3, 1, 2, 3])), cmd 12 1 ([0] ++ leBytes 4 0x123 ++ [0, 0, 0, 3, 1, 2, 3]), by decide +kernel⟩
theorem witness_canFrames_2 : ∃ (s : State) (r : Running), s.que.running.find? (fun x => x.ring == 12 && x.entry.code == 1 && !x.started) = some r ∧ ((1 < r.num 0 1 ∨ 64 < r.num 8 1 ∨ s.signetId (r.num 1 4) (r.num 5 1 == 1) = true)) :=
  ⟨withRun canUp (cmd 12 1 ([2] ++ leBytes 4 0x123 ++ [0, 0, 0, 3, 1, 2, 3])), cmd 12 1 ([2] ++ leBytes 4 0x123 ++ [0, 0, 0, 3, 1, 2, 3]), by decide +kernel⟩
theorem witness_canFrames_2_b : ∃ (s : State) (r : Running), s.que.running.find? (fun x => x.ring == 12 && x.entry.code == 1 && !x.started) = some r ∧ ((1 < r.num 0 1 ∨ 64 < r.num 8 1 ∨ s.signetId (r.num 1 4) (r.num 5 1 == 1) = true)) :=
  ⟨withRun canUp (cmd 12 1 ([0] ++ leBytes 4 0x123 ++ [0, 0, 0, 65])), cmd 12 1 ([0] ++ leBytes 4 0x123 ++ [0, 0, 0, 65]), by decide +kernel⟩
theorem witness_canFrames_2_id : ∃ (s : State) (r : Running), s.que.running.find? (fun x => x.ring == 12 && x.entry.code == 1 && !x.started) = some r ∧ ((1 < r.num 0 1 ∨ 64 < r.num 8 1 ∨ s.signetId (r.num 1 4) (r.num 5 1 == 1) = true)) :=
  ⟨withRun (canUp.setI Reg.GOV_SIGNET_ID_ID 2 0x123) (cmd 12 1 ([0] ++ leBytes 4 0x123 ++ [0, 0, 0, 3, 1, 2, 3])), cmd 12 1 ([0] ++ leBytes 4 0x123 ++ [0, 0, 0, 3, 1, 2, 3]), by decide +kernel⟩
theorem witness_canFrames_3 : ∃ (s : State) (c : Fin 2) (q : Nat) (f : CanFrame) (l : List (Nat × CanFrame)) (r : Running), (s.canCtl c.val).txq = (q, f) :: l ∧ s.canOn c.val = true ∧ ((∀ g ∈ (s.canCtl c.val).signets, g.queued = false)) ∧ s.runningSeq 12 q = some r :=
  ⟨{ withRun canUp (cmd 12 1 [0]) with can := { c0 := { txq := [(5, { id := 3, xtd := false, fd := false, brs := false, data := [1] })] } } }, 0, 5, { id := 3, xtd := false, fd := false, brs := false, data := [1] }, [], cmd 12 1 [0], by decide +kernel⟩
theorem witness_canFrames_4 : ∃ (s : State) (r : Running), s.que.running.find? (fun x => x.ring == 12 && x.entry.code == 2 && !x.started) = some r ∧ r.num 0 1 ≤ 1 ∧ r.num 1 1 ≤ 15 ∧ s.runningSeq 12 r.entry.seq = some r :=
  ⟨withRun canUp (cmd 12 2 [1, 15]), cmd 12 2 [1, 15], by decide +kernel⟩
theorem witness_canFrames_5 : ∃ (s : State) (c : Fin 2) (id : BitVec 29) (xtd : Bool) (brs : Bool) (d : List Byte) (r : Running), s.canOn c.val = true ∧ d.length ≤ 8 ∧ s.que.running = [r] ∧ r.ring = 12 ∧ r.entry.code = 2 ∧ r.started = true ∧ r.num 0 1 = c.val ∧ s.canPasses c.val (r.num 1 1) id.toNat = true :=
  ⟨withRun (canUp.setI Reg.CAN_FILT_EN 18 1) { cmd 12 2 [1, 2] with started := true }, 1, 0x123, true, false, [1, 2, 3], { cmd 12 2 [1, 2] with started := true }, by decide +kernel⟩
theorem witness_canFrames_6 : ∃ (s : State) (r : Running), s.running 12 3 = some r ∧ r.num 0 1 ≤ 1 :=
  ⟨withRun canUp (cmd 12 3 [1]), cmd 12 3 [1], by decide +kernel⟩
theorem witness_releaseOnlyBySignet_1 : ∃ (c : Instr) (s : State) (t : State), exec c s = .next t ∧ t.pins.relA = some true :=
  ⟨.signetSealed, govSeal 2, after (execSignetSealed (govSeal 2)), rfl, by decide +kernel⟩

/-! ## Witnesses of the statements of chapter 10 -/
/-- A challenge of zeros, and the signature that proves MAKER to it. -/
def proof5 : List Byte := beBytes 64 0x6D4D0DEED1FC2DF2B31C1D4BC8AE8DB7EFD9FE2BFBC190F12541EB8362209F42C2D11E0E56F2D5F771021C31C3C525F7F77206E08998FF53AC76C8E499EFFB07
/-- PRIV_PROVE's operands. -/
def proveArgs : List Byte := [3, 0] ++ leBytes 4 0x10080000 ++ leBytes 4 64
/-- A device that has a challenge outstanding. -/
def challenged (sig : List Byte) : State := { keyRun sig (hostCmd 10 2 proveArgs) with priv := { challenge := some { bytes := List.replicate 16 0, at_ := 0 } } }
/-- KEY_LOAD's operands: slot 9, AES-256 for SEAL, owner 2. -/
def loadArgs : List Byte := [9] ++ leBytes 4 (16 + 64 + 2 * 4096 + 20 * 2 ^ 20) ++ leBytes 4 1 ++ leBytes 4 0x10080000 ++ leBytes 4 64 ++ leBytes 4 0x10080040 ++ leBytes 4 40
/-- The secret that scalar 11 shares with the device. -/
def shared11 : List Byte := beBytes 32 0x5821B002DBA277251A9D18EB72D5C720F4EFE021B38029C017D871340893BE7B
/-- Its wrapped key. -/
def loadBytes : List Byte := beBytes 104 0x3ED113B7883B4C590638379DB0C21CDA16742ED0255048BF433391D374BC21D19099209ACCC4C8A224C843AFA4F4C68A090D04DA5E9889DAE2F8EEFCE82A374059E4E0BC7A2A0656DB0872D51F6E90EDDAD7DF189B77E857E22033E4C173984ECA7E1DCB64914C41
/-- An authority window with one write to come. -/
def window (w : AuthWrite) (wait : Option AuthWrite) : Auth := { source := .hf, ver := 1, ctr := 1, n := 1, left := [w], waiting := wait, openedAt := 0, phase := .writes }
/-- A learning at a phase. -/
def learn0 (p : LearnPhase) (m : Option Nat) : Learn := { cmd := some 5, bank := [], issued := [], generation := 2, count := 1, phase := p, since := 0, mseq := m }
/-- A learning set of one unused entry, before its signature. -/
def setBody : List Byte :=
  leBytes 4 0x53445243 ++ [1, 0] ++ leBytes 2 1 ++ leBytes 4 2 ++ leBytes 4 0 ++ leBytes 8 77 ++ leBytes 8 0 ++ pub11 ++ aesWrap (setWrapKey shared11 2 77) (List.replicate 32 0xAB) ++ List.replicate 184 0
/-- The set with its signature by the authority. -/
def setBytes1 : List Byte := beBytes 384 0x435244530100010002000000000000004D0000000000000000000000000000003ED113B7883B4C590638379DB0C21CDA16742ED0255048BF433391D374BC21D19099209ACCC4C8A224C843AFA4F4C68A090D04DA5E9889DAE2F8EEFCE82A37409E8373CD31137D1F6B438C8418480612EAC569BB1CADF6A826A1E9164A53324804AA546E5DA558990000000000000000000000000000000000000000000000000000000000000000000000000000000000000000000000000000000000000000000000000000000000000000000000000000000000000000000000000000000000000000000000000000000000000000000000000000000000000000000000000000000000000000000000000000000000000000000000000000000000000000000000000000000000000000000000000000000000000000000000000000000035468FE34DF1C2CF166476B4FC7572933B3B35A0B0281159D3BD74895A89A9B7FBF3A74C5309BBB8D671FB72B597D36F06A188D357C2CBF28788B793E277078F
theorem witness_elevation_1 : ∃ (s : State) (r : Running), s.running 10 1 = some r ∧ s.rngServes = true :=
  ⟨withRun keyOn (hostCmd 10 1 []), hostCmd 10 1 [], by decide +kernel⟩
theorem witness_elevation_2_ok : ∃ (s : State) (r : Running) (c : Challenge), s.running 10 2 = some r ∧ s.proveLocked = false ∧ ((r.num 0 1 = 2 ∨ r.num 0 1 = 3)) ∧ r.num 6 4 = 64 ∧ r.entry.master = 3 ∧ s.rangeOk 3 (r.num 2 4) 64 = true ∧ s.priv.challenge = some c ∧ s.now < c.at_ + 10000000 ∧ s.pkeVerifies = true ∧ s.inTurn pkeHolds r = true ∧ ecdsaVerify (s.proveKey (r.num 0 1) (r.num 1 1)) (sha256 (proveMessage s.devnum c.bytes (r.num 0 1) (r.num 1 1) 3)) (s.bytes (r.num 2 4) 64) = true :=
  ⟨challenged proof5, hostCmd 10 2 proveArgs, { bytes := List.replicate 16 0, at_ := 0 }, by decide +kernel⟩
theorem witness_elevation_2_bad : ∃ (s : State) (r : Running) (c : Challenge), s.running 10 2 = some r ∧ s.proveLocked = false ∧ ((r.num 0 1 = 2 ∨ r.num 0 1 = 3)) ∧ r.num 6 4 = 64 ∧ r.entry.master = 3 ∧ s.rangeOk 3 (r.num 2 4) 64 = true ∧ s.priv.challenge = some c ∧ s.now < c.at_ + 10000000 ∧ s.pkeVerifies = true ∧ s.inTurn pkeHolds r = true ∧ ecdsaVerify (s.proveKey (r.num 0 1) (r.num 1 1)) (sha256 (proveMessage s.devnum c.bytes (r.num 0 1) (r.num 1 1) 3)) (s.bytes (r.num 2 4) 64) = false :=
  ⟨challenged [], hostCmd 10 2 proveArgs, { bytes := List.replicate 16 0, at_ := 0 }, by decide +kernel⟩
theorem witness_elevation_3 : ∃ (s : State) (r : Running) (p : Nat × Nat × Nat × Nat), s.running 10 3 = some r ∧ r.entry.master = 3 ∧ s.priv.proofs.find? (fun x => x.1 == r.num 0 4 && x.2.1 == r.num 4 2 && decide (s.now ≤ x.2.2.2 + 60000000)) = some p :=
  ⟨{ withRun up (hostCmd 10 3 (leBytes 4 4 ++ leBytes 2 0x1234)) with now := 60000000, priv := { proofs := [(4, 0x1234, 7, 0)] } }, hostCmd 10 3 (leBytes 4 4 ++ leBytes 2 0x1234), (4, 0x1234, 7, 0), by decide +kernel⟩
theorem witness_elevation_4 : ∃ (s : State) (r : Running), s.running 10 4 = some r ∧ r.entry.master = 3 :=
  ⟨{ withRun up (hostCmd 10 4 []) with priv := { elevated := some (3, 0) }, lkt := { grants := [{ master := 3, region := 2, write := true, since := 0 }, { master := 2, region := 2, write := true, since := 0 }] } }, hostCmd 10 4 [], by decide +kernel⟩
theorem witness_anchorsAndHallmark_1 : ∃ (s : State) (r : Running), s.running 10 0x11 = some r ∧ s.areaDamaged 0 = false ∧ s.rangeOk r.entry.master r.dest 132 = true ∧ 132 ≤ r.destLen :=
  ⟨withRun keyOn (hostCmd 10 0x11 (List.replicate 40 0 ++ leBytes 4 0x10080000 ++ leBytes 4 132)), hostCmd 10 0x11 (List.replicate 40 0 ++ leBytes 4 0x10080000 ++ leBytes 4 132), by decide +kernel⟩
theorem witness_anchorsAndHallmark_2 : ∃ (s : State) (r : Running), s.running 10 0x11 = some r ∧ s.areaDamaged 0 = true :=
  ⟨{ withRun keyOn (hostCmd 10 0x11 []) with lkt := { damaged := [selectorGroup 0] } }, hostCmd 10 0x11 [], by decide +kernel⟩
theorem witness_anchorsAndHallmark_3 : ∃ (s : State) (r : Running), s.running 10 0x12 = some r ∧ r.started = false ∧ s.pkeFree = true ∧ s.inTurn pkeHolds r = true ∧ (s.useSlot 254 useSIGN [2] 0).1 = 0 :=
  ⟨withRun keyOn (cmd 10 0x12 []), cmd 10 0x12 [], by decide +kernel⟩
theorem witness_anchorsAndHallmark_4 : ∃ (s : State) (r : Running), s.running 10 0x13 = some r ∧ r.started = false ∧ s.pkeFree = true ∧ s.inTurn pkeHolds r = true ∧ (s.useSlot 254 useSIGN [2] 0).1 = 0 :=
  ⟨withRun keyOn (cmd 10 0x13 []), cmd 10 0x13 [], by decide +kernel⟩
theorem witness_anchorsAndHallmark_5 : ∃ (s : State) (r : Running), s.running 9 2 = some r :=
  ⟨upCmd (cmd 9 2 []), cmd 9 2 [], by decide +kernel⟩
theorem witness_anchorsAndHallmark_6 : ∃ (s : State) (r : Running), s.running 10 0x22 = some r :=
  ⟨withRun keyOn (cmd 10 0x22 [254]), cmd 10 0x22 [254], by decide +kernel⟩
theorem witness_keySlots_1 : ∃ (s : State) (r : Running) (x : List Byte) (k : List Byte), s.running 10 0x20 = some r ∧ r.started = false ∧ (keyLoadArgs r).allowed = true ∧ s.rangeOk r.entry.master (keyLoadArgs r).eph 64 = true ∧ s.rangeOk r.entry.master (keyLoadArgs r).wrap (keyLoadArgs r).wrapLen = true ∧ s.flag Reg.KEY_CTRL_EN = true ∧ s.slotRaw (keyLoadArgs r).slot = {} ∧ bits (keyLoadArgs r).attrs 12 3 ≤ r.level ∧ s.key.vaultJob = none ∧ s.pkeFree = true ∧ s.inTurn pkeHolds r = true ∧ (s.freeEngine .bulk).isSome = true ∧ (s.useSlot 253 useECDH [2] 0).1 = 0 ∧ ecdh (ofBe (s.slotRaw 253).key) (s.bytes (keyLoadArgs r).eph 64) = some x ∧ aesUnwrap (loadWrapKey x s.devnum (keyLoadArgs r).slot (keyLoadArgs r).ctr) (s.bytes (keyLoadArgs r).wrap (keyLoadArgs r).wrapLen) = some k ∧ s.inFlightCmds (keyLoadArgs r).slot = [] ∧ s.pins.wpLow = false ∧ s.lkt.worn = false :=
  ⟨keyRun loadBytes (cmd 10 0x20 loadArgs), cmd 10 0x20 loadArgs, shared11, List.replicate 32 0xAB, by decide +kernel⟩
theorem witness_keySlots_2 : ∃ (s : State) (n : Fin 256) (l : PendingLoad), (s.slotRaw n.val).state = .draining ∧ (s.slotRaw n.val).load = some l ∧ s.inFlightCmds n.val = [] ∧ s.key.vaultJob = none ∧ s.pins.wpLow = false ∧ s.lkt.worn = false :=
  ⟨{ keyOn with key := { slots := [(9, { aesSlot 0 0 with state := .draining, load := some { cmd := 5, key := [1], attrs := 16, ctr := 2 } })] } }, 9, { cmd := 5, key := [1], attrs := 16, ctr := 2 }, by decide +kernel⟩
theorem witness_keySlots_3 : ∃ (s : State) (r : Running), s.running 10 0x21 = some r ∧ r.num 0 1 < 248 ∧ (s.slot (r.num 0 1)).state ≠ .empty ∧ (s.slot (r.num 0 1)).owner ≤ r.level :=
  ⟨{ withRun keyOn (cmd 10 0x21 [9]) with key := { slots := [(9, aesSlot 0 0)] } }, cmd 10 0x21 [9], by decide +kernel⟩
theorem witness_keySlots_4 : ∃ (s : State) (n : BitVec 8), n.toNat < 248 ∧ s.auth = none :=
  ⟨{ keyOn with key := { slots := [(247, aesSlot 0 0)] } }, 247, by decide +kernel⟩
theorem witness_keySlots_5_anchor : ∃ (s : State) (n : BitVec 8) (k : BitVec 8) (m : Nat), s.auth = none ∧ m ≤ 7 ∧ ((m ≠ 1 ∨ k = 0x5A ∧ (n = 253 ∨ n = 254))) :=
  ⟨keyOn, 253, 0x5A, 1, by decide +kernel⟩
theorem witness_keySlots_5_app : ∃ (s : State) (n : BitVec 8) (k : BitVec 8) (m : Nat), s.auth = none ∧ m ≤ 7 ∧ ((m ≠ 1 ∨ k = 0x5A ∧ (n = 253 ∨ n = 254))) :=
  ⟨keyOn, 9, 0x5A, 2, by decide +kernel⟩
theorem witness_keySlots_6 : ∃ (s : State) (n : BitVec 8) (k : BitVec 8), k ≠ 0x5A ∧ s.auth = none :=
  ⟨keyOn, 9, 0x5B, by decide +kernel⟩
theorem witness_authorityCommands_1_bad : ∃ (s : State) (r : Running), s.auth = none ∧ s.pkeVerifies = true ∧ s.hft.waits ≠ .auth ∧ s.que.running.find? (fun x => x.ring == 10 && x.entry.code == 0x10 && !x.started) = some r ∧ s.inTurn pkeHolds r = true ∧ s.runningSeq 10 r.entry.seq = some r ∧ s.rangeOk r.entry.master (r.num 0 4) (r.num 4 4) = true ∧ r.num 4 4 ≤ 400 ∧ authFormat (s.bytes (r.num 0 4) (r.num 4 4)) = false :=
  ⟨keyRun [] (cmd 10 0x10 (leBytes 4 0x10080000 ++ leBytes 4 400)), cmd 10 0x10 (leBytes 4 0x10080000 ++ leBytes 4 400), by decide +kernel⟩
theorem witness_authorityCommands_1_ok : ∃ (s : State) (r : Running), s.auth = none ∧ s.pkeVerifies = true ∧ s.hft.waits ≠ .auth ∧ s.que.running.find? (fun x => x.ring == 10 && x.entry.code == 0x10 && !x.started) = some r ∧ s.inTurn pkeHolds r = true ∧ s.runningSeq 10 r.entry.seq = some r ∧ s.rangeOk r.entry.master (r.num 0 4) (r.num 4 4) = true ∧ r.num 4 4 ≤ 400 ∧ (s.authCheck (s.bytes (r.num 0 4) (r.num 4 4))).1 = stOK :=
  ⟨keyRun authBytes (cmd 10 0x10 (leBytes 4 0x10080000 ++ leBytes 4 92)), cmd 10 0x10 (leBytes 4 0x10080000 ++ leBytes 4 92), by decide +kernel⟩
theorem witness_authorityCommands_2 : ∃ (s : State) (w : Auth), s.auth = some w ∧ w.phase = .writes ∧ w.openedAt + 9000 ≤ s.now ∧ w.waiting = none :=
  ⟨{ up with now := 9000, auth := some (window { addr := 0, mask := 0, value := 0 } none) }, window { addr := 0, mask := 0, value := 0 } none, by decide +kernel⟩
theorem witness_authorityCommands_2_b : ∃ (s : State) (w : Auth), s.auth = some w ∧ w.phase = .writes ∧ w.openedAt + 9000 ≤ s.now ∧ w.waiting ≠ none :=
  ⟨{ up with now := 9000, auth := some (window { addr := 0, mask := 0, value := 0 } (some { addr := 0, mask := 0, value := 0 })) }, window { addr := 0, mask := 0, value := 0 } (some { addr := 0, mask := 0, value := 0 }), by decide +kernel⟩
theorem witness_authorityCommands_3 : ∃ (s : State) (w : AuthWrite), s.namedWrite 1 Reg.TMP_CLR_LOCK = some w ∧ bit (w.value &&& w.mask) 0 = true :=
  ⟨{ up with auth := some (window { addr := Reg.TMP_CLR_LOCK.addr, mask := 1, value := 1 } none), tmp := { locked := true } }, { addr := Reg.TMP_CLR_LOCK.addr, mask := 1, value := 1 }, by decide +kernel⟩
theorem witness_authorityCommands_4 : ∃ (s : State) (w : AuthWrite), s.namedWrite 1 Reg.TMP_LATCH_LATCH = some w :=
  ⟨{ up.set Reg.TMP_LATCH_LATCH 7 with auth := some (window { addr := Reg.TMP_LATCH_LATCH.addr, mask := 5, value := 4 } none) }, { addr := Reg.TMP_LATCH_LATCH.addr, mask := 5, value := 4 }, by decide +kernel⟩
theorem witness_authorityCommands_5 : ∃ (s : State) (m : Nat), m ≤ 7 ∧ (m ≠ 1 ∨ s.auth = none) :=
  ⟨up, 1, by decide +kernel⟩
theorem witness_learning_1 : ∃ (s : State) (r : Running), s.que.running.find? (fun x => x.ring == 9 && x.entry.code == 1 && !x.started) = some r ∧ s.runningSeq 9 r.entry.seq = some r ∧ s.flag Reg.PKE_STAT_KAT_FAIL = false ∧ s.pkeFree = true ∧ s.inTurn pkeHolds r = true ∧ (s.freeEngine .bulk).isSome = true ∧ s.rangeOk r.entry.master (r.num 0 4) (r.num 4 4) = true ∧ setFormat (s.bytes (r.num 0 4) (r.num 4 4)) = false :=
  ⟨keyRun [] (cmd 9 1 (leBytes 4 0x10080000 ++ leBytes 4 384)), cmd 9 1 (leBytes 4 0x10080000 ++ leBytes 4 384), by decide +kernel⟩
theorem witness_learning_2 : ∃ (s : State) (r : Running), s.que.running.find? (fun x => x.ring == 9 && x.entry.code == 1 && !x.started) = some r ∧ s.flag Reg.PKE_STAT_KAT_FAIL = false ∧ s.pkeFree = true ∧ s.inTurn pkeHolds r = true ∧ (s.freeEngine .bulk).isSome = true ∧ s.rangeOk r.entry.master (r.num 0 4) (r.num 4 4) = true ∧ ((s.startCmd r).learnCheck (s.bytes (r.num 0 4) (r.num 4 4)) false).1.cause = 0 ∧ s.mirrorsNow = false :=
  ⟨keyRun setBytes1 (cmd 9 1 (leBytes 4 0x10080000 ++ leBytes 4 384)), cmd 9 1 (leBytes 4 0x10080000 ++ leBytes 4 384), by decide +kernel⟩
theorem witness_learning_3 : ∃ (s : State) (l : Learn), s.crd.learn = some l ∧ l.phase = .quiet ∧ s.quietPoint = true :=
  ⟨{ up with crd := { learn := some (learn0 .quiet none) } }, learn0 .quiet none, by decide +kernel⟩
theorem witness_learning_4 : ∃ (s : State) (l : Learn) (c : Nat) (r : Running), s.crd.learn = some l ∧ l.phase = .quiet ∧ l.cmd = some c ∧ s.runningSeq 9 c = some r ∧ l.since + 2000000 ≤ s.now :=
  ⟨{ withRun up (cmd 9 1 []) with now := 2000000, crd := { learn := some (learn0 .quiet none) } }, learn0 .quiet none, 5, cmd 9 1 [], by decide +kernel⟩
theorem witness_learning_5 : ∃ (s : State) (l : Learn), s.crd.learn = some l ∧ l.cmd ≠ none ∧ l.mseq ≠ none ∧ l.since + 5000000 ≤ s.now ∧ l.phase = .partner :=
  ⟨{ withRun up (cmd 9 1 []) with now := 5000000, crd := { learn := some (learn0 .partner (some 3)) } }, learn0 .partner (some 3), by decide +kernel⟩
theorem witness_learning_5_b : ∃ (s : State) (l : Learn), s.crd.learn = some l ∧ l.cmd ≠ none ∧ l.mseq ≠ none ∧ l.since + 5000000 ≤ s.now ∧ l.phase = .writing :=
  ⟨{ withRun up (cmd 9 1 []) with now := 5000000, crd := { learn := some (learn0 .writing (some 3)) } }, learn0 .writing (some 3), by decide +kernel⟩

/-! ## Witnesses of the statements of chapter 11 -/
/-- Both AEAD engines on and tested, slot 9 for SEAL and OPEN, slot 253 and 254 of P-256. -/
def cryOn (dev : Bool) : State :=
  { ((((((up.set Reg.HSH_CTRL_EN 1).set Reg.KEY_CTRL_EN 1).set Reg.PKE_CTRL_EN 1).set Reg.AEA_CTRL_EN 3).set Reg.KEY_NONCE_CFG_DEVICE 3).setBytes 0x10080000 (List.replicate 32 3)) with
    crypto := { pkeKat := true, kat := [blkRNG, blkAEA, blkHSH], rng := { state := .ok } }, key := { slots := [(9, { aesSlot 0 0 with attrs := (aesSlot 0 0).attrs + 128 + (if dev then 2 ^ 19 else 0) }), (10, { state := .active, key := beBytes 32 7, attrs := 32 + 2 ^ 10 + 2 ^ 11 + 20 * 2 ^ 20, ceiling := 1000 })], invocNext := 10, invocTop := 20 } }

/-- Header and payload of 16 bytes each. -/
def ranges : List Byte := leBytes 4 0x10080000 ++ leBytes 4 16 ++ leBytes 4 0x10080010 ++ leBytes 4 16
/-- A seal with a nonce of the caller. -/
def sealCmd (c : Nat) : Running := cmd 4 c (destAt ([9, 1, 8, 13] ++ List.replicate 13 5 ++ ranges) 64)
/-- A seal with a nonce of the device. -/
def sealDev : Running := cmd 5 1 (destAt ([9, 0, 16] ++ ranges) 64)
/-- A BULK operation of Q_4. -/
def bulkOp (out : Option (List Byte)) : AeaOp := { cls := .bulk, slot := 9, ring := 4, cmd := 5, isOpen := false, out := out, nonce := [], dest := 0x10090000 }
/-- A PKE operation of Q_4. -/
def pkeOp (k : PkeKind) (cause : Nat) : PkeOp := { kind := k, slot := 10, ring := 4, cmd := 5, out := [1, 2, 3], cause := cause, dest := 0x10090000 }
/-- PKE holding an operation. -/
def pkeBusy (o : PkeOp) : State := { withRun (cryOn false) (cmd 4 4 []) with crypto := { pkeKat := true, pke := some o } }
/-- A collection of 1,024 raw bits, 0 and 1 in turn: it passes both tests. -/
def rawGood : BitVec 1024 := BitVec.ofNat 1024 ((2 ^ 1024 - 1) / 3)
/-- RNG in a state. -/
def rngIn (r : Rng) : State := { cryOn false with crypto := { kat := [blkRNG], rng := r } }
theorem witness_aeadCommands_1 : ∃ (s : State) (q : Fin 2) (r : Running) (e : Nat), s.running (4 + q.val) 1 = some r ∧ r.started = false ∧ (s.slot (r.num 0 1)).deviceNonce = false ∧ s.aeadCause r (aeadArgs r true) true false = 0 ∧ s.inTurn aeadHolds r = true ∧ s.freeEngine .bulk = some e ∧ (s.useSlot (aeadArgs r true).slot useSEAL [0, 1] 0).1 = 0 :=
  ⟨withRun (cryOn false) (sealCmd 1), 0, sealCmd 1, 0, by decide +kernel⟩
theorem witness_aeadCommands_2 : ∃ (s : State) (q : Fin 2) (r : Running) (e : Nat), s.running (4 + q.val) 1 = some r ∧ r.started = false ∧ (s.slot (r.num 0 1)).deviceNonce = true ∧ s.aeadCause r (aeadArgs r false) false false = 0 ∧ s.inTurn aeadHolds r = true ∧ s.freeEngine .bulk = some e ∧ s.nonceRefused = false ∧ s.key.invocNext < s.key.invocTop ∧ (s.useSlot (aeadArgs r false).slot useSEAL [0, 1] 0).1 = 0 :=
  ⟨withRun (cryOn true) sealDev, 1, sealDev, 0, by decide +kernel⟩
theorem witness_aeadCommands_3 : ∃ (s : State) (q : Fin 2) (r : Running) (e : Nat), s.running (4 + q.val) 2 = some r ∧ r.started = false ∧ s.aeadCause r (aeadArgs r true) true true = 0 ∧ s.inTurn aeadHolds r = true ∧ s.freeEngine .bulk = some e ∧ (s.useSlot (aeadArgs r true).slot useOPEN [0, 1] 0).1 = 0 :=
  ⟨withRun (cryOn false) (sealCmd 2), 0, sealCmd 2, 0, by decide +kernel⟩
theorem witness_aeadCommands_4_ok : ∃ (s : State) (e : Fin 2) (o : AeaOp) (r : Running), (s.engine e.val).op = some o ∧ ((o.ring = 4 ∨ o.ring = 5)) ∧ s.masksFlow = true ∧ s.runningSeq o.ring o.cmd = some r :=
  ⟨{ withRun (cryOn false) (sealCmd 1) with crypto := { rng := { state := .ok }, kat := [blkRNG, blkAEA], aea1 := { op := some (bulkOp (some [1, 2])) } } }, 1, bulkOp (some [1, 2]), sealCmd 1, by decide +kernel⟩
theorem witness_aeadCommands_4_tag : ∃ (s : State) (e : Fin 2) (o : AeaOp) (r : Running), (s.engine e.val).op = some o ∧ ((o.ring = 4 ∨ o.ring = 5)) ∧ s.masksFlow = true ∧ s.runningSeq o.ring o.cmd = some r :=
  ⟨{ withRun (cryOn false) (sealCmd 1) with crypto := { rng := { state := .ok }, kat := [blkRNG, blkAEA], aea1 := { op := some (bulkOp none) } } }, 1, bulkOp none, sealCmd 1, by decide +kernel⟩
theorem witness_aeadCommands_5 : ∃ (s : State) (e : Fin 2) (o : AeaOp) (w : AeaOp), (s.engine e.val).op = some o ∧ o.cls = .bulk ∧ s.crypto.aeaWait = [w] ∧ w.cls ≠ .bulk ∧ s.freeEngine .safety = none ∧ (s.engine e.val).susp = none ∧ s.engineUsable e.val = true ∧ blkAEA ∈ s.crypto.kat ∧ s.segmentRun o = true ∧ s.glt.queue = [] :=
  ⟨{ withRun (cryOn false) (sealCmd 1) with now := 1000000, crypto := { kat := [blkAEA], aea0 := { op := some (bulkOp none) }, aea1 := { op := some (bulkOp none) }, aeaWait := [{ bulkOp none with cls := .timed }] } }, 0, bulkOp none, { bulkOp none with cls := .timed }, by decide +kernel⟩
theorem witness_aeadCommands_6 : ∃ (s : State) (q : Fin 2) (r : Running), s.que.running.find? (fun x => x.ring == 4 + q.val && !x.started) = some r ∧ r.headAt + 1000 * s.reg Reg.AEA_CFG_BULK_WAIT ≤ s.now :=
  ⟨{ withRun (cryOn false) (sealCmd 1) with now := 10000000 }, 0, sealCmd 1, by decide +kernel⟩
theorem witness_aeadCommands_7 : ∃ (s : State) (m : Nat), s.mayWriteField m Reg.AEA_ERR_CLR_CLR = true :=
  ⟨(up.setI Reg.AEA_ERR_ABORTED 1 3).set Reg.AEA_MASK_STALLS 4, 1, by decide +kernel⟩
theorem witness_pkeCommands_1 : ∃ (s : State) (q : Fin 2) (r : Running), s.running (4 + q.val) 4 = some r ∧ r.started = false ∧ s.pkeCause r (r.num 0 1) useSIGN 32 64 = 0 ∧ s.pkeFree = true ∧ s.inTurn pkeHolds r = true ∧ (s.useSlot (r.num 0 1) useSIGN [2] 0).1 = 0 :=
  ⟨withRun (cryOn false) (cmd 4 4 (destAt ([10] ++ leBytes 4 0x10080000) 64)), 0, cmd 4 4 (destAt ([10] ++ leBytes 4 0x10080000) 64), by decide +kernel⟩
theorem witness_pkeCommands_2 : ∃ (s : State) (q : Fin 2) (r : Running), s.running (4 + q.val) 5 = some r ∧ r.started = false ∧ s.cryptoRange r.entry.master (r.num 0 4) 160 = true ∧ s.bulkLate r = false ∧ s.pkeVerifies = true ∧ s.inTurn pkeHolds r = true :=
  ⟨(withRun (cryOn false) (cmd 5 5 (leBytes 4 0x10080000))).setBytes 0x10080000 (publicKey 3 ++ List.replicate 32 1 ++ ecdsaSign 3 (List.replicate 32 1) []), 1, cmd 5 5 (leBytes 4 0x10080000), by decide +kernel⟩
theorem witness_pkeCommands_2_bad : ∃ (s : State) (q : Fin 2) (r : Running), s.running (4 + q.val) 5 = some r ∧ r.started = false ∧ s.cryptoRange r.entry.master (r.num 0 4) 160 = true ∧ s.bulkLate r = false ∧ s.pkeVerifies = true ∧ s.inTurn pkeHolds r = true :=
  ⟨(withRun (cryOn false) (cmd 5 5 (leBytes 4 0x10080000))).setBytes 0x10080000 (publicKey 3 ++ List.replicate 32 1 ++ ecdsaSign 3 (List.replicate 32 2) []), 1, cmd 5 5 (leBytes 4 0x10080000), by decide +kernel⟩
theorem witness_pkeCommands_3_ok : ∃ (s : State) (q : Fin 2) (r : Running), s.running (4 + q.val) 6 = some r ∧ r.started = false ∧ s.pkeCause r (r.num 0 1) useECDH 64 32 = 0 ∧ s.pkeFree = true ∧ s.inTurn pkeHolds r = true ∧ (s.useSlot (r.num 0 1) useECDH [2] 0).1 = 0 :=
  ⟨(withRun (cryOn false) (cmd 4 6 (destAt ([10] ++ leBytes 4 0x10080000) 32))).setBytes 0x10080000 pub3, 0, cmd 4 6 (destAt ([10] ++ leBytes 4 0x10080000) 32), by decide +kernel⟩
theorem witness_pkeCommands_3_bad : ∃ (s : State) (q : Fin 2) (r : Running), s.running (4 + q.val) 6 = some r ∧ r.started = false ∧ s.pkeCause r (r.num 0 1) useECDH 64 32 = 0 ∧ s.pkeFree = true ∧ s.inTurn pkeHolds r = true ∧ (s.useSlot (r.num 0 1) useECDH [2] 0).1 = 0 :=
  ⟨withRun (cryOn false) (cmd 4 6 (destAt ([10] ++ leBytes 4 0x10080000) 32)), 0, cmd 4 6 (destAt ([10] ++ leBytes 4 0x10080000) 32), by decide +kernel⟩
theorem witness_pkeCommands_4_ok : ∃ (s : State) (b : Bool) (o : PkeOp) (r : Running), s.crypto.pke = some o ∧ ((o.kind = .sign → b = true)) ∧ ((o.ring = 4 ∨ o.ring = 5)) ∧ s.runningSeq o.ring o.cmd = some r ∧ s.flag Reg.JNL_SEAL_CTL_GO = false ∧ s.tsu.helloRx = none :=
  ⟨pkeBusy (pkeOp .sign 0), true, pkeOp .sign 0, cmd 4 4 [], by decide +kernel⟩
theorem witness_pkeCommands_4_bad : ∃ (s : State) (b : Bool) (o : PkeOp) (r : Running), s.crypto.pke = some o ∧ ((o.kind = .sign → b = true)) ∧ ((o.ring = 4 ∨ o.ring = 5)) ∧ s.runningSeq o.ring o.cmd = some r ∧ s.flag Reg.JNL_SEAL_CTL_GO = false ∧ s.tsu.helloRx = none :=
  ⟨pkeBusy (pkeOp .verify 8), false, pkeOp .verify 8, cmd 4 4 [], by decide +kernel⟩
theorem witness_pkeCommands_5 : ∃ (s : State) (o : PkeOp), s.crypto.pke = some o ∧ o.kind = .sign :=
  ⟨pkeBusy (pkeOp .sign 0), pkeOp .sign 0, by decide +kernel⟩
theorem witness_pkeCommands_6 : ∃ (s : State), s.crypto.pkeKat = false ∧ s.crypto.pke = none ∧ blkPKE ∉ s.fences.inReset ∧ s.flag Reg.JNL_SEAL_CTL_GO = false ∧ s.tsu.helloRx = none :=
  ⟨up, by decide +kernel⟩
theorem witness_hashAndRandom_1 : ∃ (s : State) (q : Fin 2) (r : Running), s.running (4 + q.val) 3 = some r ∧ r.started = false ∧ r.num 4 4 ≤ 1048576 ∧ 32 ≤ r.destLen ∧ s.cryptoRange r.entry.master (r.num 0 4) (r.num 4 4) = true ∧ s.cryptoRange r.entry.master r.dest 32 = true ∧ s.flag Reg.HSH_STAT_KAT_FAIL = false ∧ s.hshServes = true ∧ s.bulkLate r = false ∧ s.inTurn hshHolds r = true :=
  ⟨withRun (cryOn false) (cmd 4 3 (destAt (leBytes 4 0x10080000 ++ leBytes 4 32) 32)), 0, cmd 4 3 (destAt (leBytes 4 0x10080000 ++ leBytes 4 32) 32), by decide +kernel⟩
theorem witness_hashAndRandom_2 : ∃ (s : State) (q : Fin 2) (h : HshOp) (r : Running), s.crypto.hsh.find? (fun x => x.ring == 4 + q.val) = some h ∧ s.runningSeq h.ring h.cmd = some r :=
  ⟨{ withRun (cryOn false) (cmd 5 3 []) with crypto := { hsh := [{ ring := 5, cmd := 5, digest := List.replicate 32 1, blocks := 1, dest := 0x10090000 }] } }, 1, { ring := 5, cmd := 5, digest := List.replicate 32 1, blocks := 1, dest := 0x10090000 }, cmd 5 3 [], by decide +kernel⟩
theorem witness_hashAndRandom_3 : ∃ (s : State) (q : Fin 2) (r : Running), s.running (4 + q.val) 7 = some r ∧ 1 ≤ r.num 0 2 ∧ r.num 0 2 ≤ 256 ∧ r.num 0 2 ≤ r.destLen ∧ s.cryptoRange r.entry.master r.dest (r.num 0 2) = true ∧ s.rngServes = true ∧ s.bulkLate r = false :=
  ⟨withRun (cryOn false) (cmd 4 7 (destAt [32, 0] 32)), 0, cmd 4 7 (destAt [32, 0] 32), by decide +kernel⟩
theorem witness_hashAndRandom_4 : ∃ (s : State) (q : Fin 2) (r : Running), s.running (4 + q.val) 8 = some r :=
  ⟨withRun (cryOn false) (cmd 5 8 []), 1, cmd 5 8 [], by decide +kernel⟩
theorem witness_hashAndRandom_5 : ∃ (s : State) (r : Running), s.running 13 0x30 = some r ∧ r.started = false ∧ s.crypto.rng.raw = none ∧ 3 ≤ r.level ∧ 1024 ≤ r.num 0 2 ∧ r.num 0 2 ≤ 4096 ∧ (r.num 0 2 + 7) / 8 ≤ r.destLen ∧ s.cryptoRange r.entry.master r.dest ((r.num 0 2 + 7) / 8) = true ∧ s.flag Reg.RNG_STAT_KAT_FAIL = false :=
  ⟨withRun (cryOn false) (cmd 13 0x30 (destAt [0, 4] 128)), cmd 13 0x30 (destAt [0, 4] 128), by decide +kernel⟩
theorem witness_hashAndRandom_6 : ∃ (s : State) (c : Nat) (n : Nat) (d : Nat) (r : Running), s.crypto.rng.raw = some (c, n, d) ∧ s.runningSeq 13 c = some r :=
  ⟨{ withRun (cryOn false) (cmd 13 0x30 []) with crypto := { rng := { raw := some (5, 1024, 0x10090000) } } }, 5, 1024, 0x10090000, cmd 13 0x30 [], by decide +kernel⟩
theorem witness_randomGenerator_1 : ∃ (s : State) (raw : BitVec 1024), s.crypto.rng.state = .startup ∧ healthy raw = true ∧ BootCounts s ∧ NothingWaits s ∧ s.key.genWaits = none :=
  ⟨{ rngIn {} with lkt := { rings := [{ num := 2, base := 32, pages := 2, newest := 6 }] } }, rawGood, by unfold NothingWaits BootCounts; decide +kernel⟩
theorem witness_randomGenerator_2 : ∃ (s : State) (raw : BitVec 1024), s.crypto.rng.state = .startup ∧ healthy raw = false ∧ ((s.pins.wpLow = true ∨ s.seedReads = false)) :=
  ⟨rngIn {}, 0, by decide +kernel⟩
theorem witness_randomGenerator_3 : ∃ (s : State) (raw : BitVec 1024), s.crypto.rng.state = .startup ∧ healthy raw = false ∧ s.seedReads = true ∧ BootCounts s ∧ NothingWaits s :=
  ⟨{ (rngIn {}).setByte (lktBase + seedAddr) 1 with lkt := { rings := [{ num := 2, base := 32, pages := 2, newest := 6 }] } }, 0, by unfold NothingWaits BootCounts; decide +kernel⟩
theorem witness_randomGenerator_4 : ∃ (s : State) (raw : BitVec 1024), s.crypto.rng.state = .ok ∧ healthy raw = false :=
  ⟨rngIn { state := .ok }, 0, by decide +kernel⟩
theorem witness_randomGenerator_5 : ∃ (s : State) (raw : BitVec 1024), healthy raw = true :=
  ⟨rngIn { state := .ok }, rawGood, by decide +kernel⟩
theorem witness_randomGenerator_6 : ∃ (s : State) (raw : BitVec 1024), s.crypto.rng.state = .restart :=
  ⟨rngIn { state := .restart, consecutive := 1 }, rawGood, by decide +kernel⟩
theorem witness_randomGenerator_6_b : ∃ (s : State) (raw : BitVec 1024), s.crypto.rng.state = .restart :=
  ⟨rngIn { state := .restart, consecutive := 2 }, 0, by decide +kernel⟩
theorem witness_randomGenerator_7 : ∃ (s : State) (raw : BitVec 1024), s.crypto.rng.failedAt + 990000 ≤ s.now :=
  ⟨{ rngIn { state := .failed } with now := 990000 }, rawGood, by decide +kernel⟩
theorem witness_randomGenerator_7_b : ∃ (s : State) (raw : BitVec 1024), s.crypto.rng.failedAt + 990000 ≤ s.now :=
  ⟨{ rngIn { state := .unseeded } with now := 990000 }, rawGood, by decide +kernel⟩
theorem witness_randomGenerator_8 : ∃ (s : State), s.crypto.rng.state = .ok ∧ 65536 ≤ s.crypto.rng.requests :=
  ⟨rngIn { state := .ok, requests := 65536 }, by decide +kernel⟩
theorem witness_randomGenerator_9 : ∃ (s : State), s.rngServes = true ∧ 2 ^ 20 ≤ (s.now - s.crypto.rng.maskAt) * s.coreMHz :=
  ⟨{ rngIn { state := .ok } with now := 1048576 }, by decide +kernel⟩
theorem witness_randomGenerator_10 : ∃ (s : State) (h : Bool), blkHSH ∉ s.crypto.kat ∧ blkHSH ∉ s.fences.inReset ∧ NothingWaits s :=
  ⟨{ up with crypto := {} }, false, by unfold NothingWaits; decide +kernel⟩
theorem witness_randomGenerator_10_b : ∃ (s : State) (h : Bool), blkHSH ∉ s.crypto.kat ∧ blkHSH ∉ s.fences.inReset ∧ NothingWaits s :=
  ⟨{ up with crypto := {} }, true, by unfold NothingWaits; decide +kernel⟩
theorem witness_randomGenerator_11 : ∃ (s : State) (x : Nat), s.key.genWaits = some x ∧ x + 1000000 ≤ s.now :=
  ⟨{ up with now := 1000000, key := { genWaits := some 0 } }, 0, by decide +kernel⟩

/-! ## Witnesses of the statements of chapter 12 -/
/-- The Locket mounted, region 2 open for reads and writes. -/
def lktUp : State := { (((((up.setI Reg.LKT_RGN_EN 2 1).setI Reg.LKT_RGN_BASE 2 64).setI Reg.LKT_RGN_PAGES 2 16).setI Reg.LKT_RGN_READ_OPEN 2 1).setI Reg.LKT_RGN_WRITE_OPEN 2 1) with lkt := { mounted := true } }
/-- The same with hold-up ready. -/
def lktHold : State := { lktUp with pins := { vsup := true, holdupReady := true } }
/-- The same under WP_N. -/
def lktWp : State := { lktUp with pins := { vsup := true, wpLow := true } }
/-- A waiting write. -/
def lktW (w : Writer) (placed : Bool) : LktWrite := { writer := w, items := [.group 0x200 7], placed := placed, at_ := 0 }
/-- Image ring 8. -/
def ring8 : Ring := { num := 8, base := 40, pages := 2, newest := 3 }
/-- The state in which master 1 opens region 2 with a password of zeros. -/
def lktPw (h : List Byte) : State := (List.range 4).foldl (fun t w => t.setI Reg.LKT_RPH_HASH (8 + w) (ofLe (slice h (4 * w) 4))) ((lktUp.setB Reg.LKT_UNLOCK_REGION 0 1 2))
/-- The hash of a password of zeros. -/
def pw0 : List Byte := pwHash 0 2 false (List.replicate 16 0)
/-- A sector with a number of slots used. -/
def usedSector (n : Nat) : Sector := { slots := List.replicate n { index := 1, kind := 0, last := false, seq := 1, data := 0, ecc := 0, valid := true } }
/-- A Q_6 command. -/
def q6 (c : Nat) (p : List Byte) : Running := cmd 6 c p
theorem witness_locketWrites_1_ok : ∃ (s : State) (m : Nat) (a : Nat) (width : Nat) (v : Nat), ((m = 1 ∨ m = 2 ∨ m = 3)) ∧ naturally a width = true ∧ lktBase ≤ a ∧ a < lktBase + 0x8000 ∧ v < 2 ^ width ∧ ((∀ i, i < width / 8 → s.mayWriteLkt m (a - lktBase + i) = true)) ∧ s.isStandby = false ∧ s.fieldBusy = false ∧ s.lktRoom (s.runItems (a - lktBase) (leBytes (width / 8) v)) = true ∧ s.partnerRoom (s.runItems (a - lktBase) (leBytes (width / 8) v)) = true :=
  ⟨lktHold, 1, lktBase + 0x1008, 32, 0x01020304, by decide +kernel⟩
theorem witness_locketWrites_1_wp : ∃ (s : State) (m : Nat) (a : Nat) (width : Nat) (v : Nat), ((m = 1 ∨ m = 2 ∨ m = 3)) ∧ naturally a width = true ∧ lktBase ≤ a ∧ a < lktBase + 0x8000 ∧ v < 2 ^ width ∧ ((∀ i, i < width / 8 → s.mayWriteLkt m (a - lktBase + i) = true)) ∧ s.isStandby = false ∧ s.fieldBusy = false :=
  ⟨lktWp, 2, lktBase + 0x1008, 32, 0x01020304, by decide +kernel⟩
theorem witness_locketWrites_2 : ∃ (s : State) (m : Nat) (a : Nat) (width : Nat) (v : Nat) (i : Nat), ((m = 1 ∨ m = 2 ∨ m = 3)) ∧ a < 2 ^ 32 ∧ i < width / 8 ∧ s.mayWriteLkt m (a - lktBase + i) = false :=
  ⟨lktUp, 3, lktBase + 0x100, 8, 1, 0, by decide +kernel⟩
theorem witness_locketWrites_2_b : ∃ (s : State) (m : Nat) (a : Nat) (width : Nat) (v : Nat) (i : Nat), ((m = 1 ∨ m = 2 ∨ m = 3)) ∧ a < 2 ^ 32 ∧ i < width / 8 ∧ s.mayWriteLkt m (a - lktBase + i) = false :=
  ⟨lktUp, 1, lktBase + 0xFFC, 64, 1, 0, by decide +kernel⟩
theorem witness_locketWrites_3 : ∃ (s : State) (x : LktWrite) (q : Nat) (r : Running), s.lkt.writes = [x] ∧ x.writer = .q6 q ∧ x.state = .waiting ∧ x.placed = true ∧ s.pins.holdupReady = true ∧ s.mirrorDone x.mseq = true ∧ s.pairDegraded = false ∧ x.lone = false ∧ s.runningSeq 6 q = some r :=
  ⟨{ withRun lktHold (q6 2 []) with lkt := { writes := [lktW (.q6 5) true] } }, lktW (.q6 5) true, 5, q6 2 [], by decide +kernel⟩
theorem witness_locketWrites_4 : ∃ (s : State) (x : LktWrite) (m : Nat), s.lkt.writes = [x] ∧ x.writer = .bus m ∧ m ≤ 7 ∧ ((m = 3 → s.hif.waits = [])) ∧ x.firstGroup < 0x1000 ∧ x.state = .waiting ∧ x.placed = false ∧ s.pins.wpLow = true :=
  ⟨{ lktWp with lkt := { writes := [lktW (.bus 1) false] } }, lktW (.bus 1) false, 1, by decide +kernel⟩
theorem witness_locketWrites_5 : ∃ (s : State), s.lkt.writes = [] :=
  ⟨lktUp, by decide +kernel⟩
theorem witness_locketWrites_6_ok : ∃ (s : State) (x : Ring), s.ringOf (s.reg Reg.LKT_RING_CTL_RING) = some x ∧ 8 ≤ x.num ∧ x.worn = false ∧ x.damaged = false ∧ s.ringHurt x.num = false ∧ x.newest < s.lkt.ringSetLo + 2 ^ 32 * s.lkt.ringSetHi ∧ s.lktRoom [.ring 8 9] = true ∧ s.partnerRoom [.ring 8 9] = true :=
  ⟨{ (lktHold.set Reg.LKT_RING_CTL_RING 8) with lkt := { rings := [ring8], ringSetLo := 9 } }, ring8, by decide +kernel⟩
theorem witness_locketWrites_6_low : ∃ (s : State) (x : Ring), s.ringOf (s.reg Reg.LKT_RING_CTL_RING) = some x ∧ 8 ≤ x.num ∧ x.worn = false ∧ x.damaged = false ∧ s.ringHurt x.num = false ∧ s.lkt.ringSetLo + 2 ^ 32 * s.lkt.ringSetHi ≤ x.newest :=
  ⟨{ (lktHold.set Reg.LKT_RING_CTL_RING 8) with lkt := { rings := [ring8], ringSetLo := 3 } }, ring8, by decide +kernel⟩
theorem witness_locketCommits_1_a : ∃ (s : State) (g : Nat) (l : List Backlog), s.lkt.backlog = .group g :: l ∧ fieldGroup g = false ∧ s.pins.vsup = true ∧ s.lkt.done = 0 :=
  ⟨{ lktUp with lkt := { backlog := [.group 0x200, .group 5], nextSeq := 4 } }, 0x200, [.group 5], by decide +kernel⟩
theorem witness_locketCommits_1_b : ∃ (s : State) (g : Nat) (l : List Backlog), s.lkt.backlog = .group g :: l ∧ fieldGroup g = false ∧ s.pins.vsup = true ∧ s.lkt.current = [(g, 9)] :=
  ⟨{ lktUp with lkt := { backlog := [.group 0x200, .group 5], nextSeq := 4, done := 1, current := [(0x200, 9)] } }, 0x200, [.group 5], by decide +kernel⟩
theorem witness_locketCommits_2 : ∃ (s : State) (ok : Bool), s.pins.vsup = false ∧ s.pwr.holdupOut = true ∧ ((s.hft.mode ≠ 2 ∨ s.aonLive = true)) :=
  ⟨{ pwr := { holdupOut := true } }, true, by decide +kernel⟩
theorem witness_locketCommits_3 : ∃ (s : State) (q : Nat) (r : Running) (p : Nat × Nat), s.lkt.backlog = [.index q] ∧ s.lkt.done = 1 ∧ s.lkt.current = [p] ∧ s.lkt.flushed = [] ∧ s.lkt.flushLone = false ∧ s.pairDegraded = false ∧ s.tsu.items = [] ∧ s.pins.vsup = true ∧ s.runningSeq 6 q = some r :=
  ⟨{ withRun lktUp (q6 5 []) with lkt := { backlog := [.index 5], done := 1, current := [(0xFFF, 5)] } }, 5, q6 5 [], (0xFFF, 5), by decide +kernel⟩
theorem witness_locketCommits_4_ok : ∃ (s : State) (k : Fin 4) (ok : Bool), (s.lkt.stream k).free < 512 :=
  ⟨{ lktUp with lkt := { mainA := { sectors := [usedSector 3, usedSector 4000] } } }, 0, true, by decide +kernel⟩
theorem witness_locketCommits_4_worn : ∃ (s : State) (k : Fin 4) (ok : Bool), (s.lkt.stream k).free < 512 ∧ ((s.lkt.stream k).reclaim ok).usable < 2 :=
  ⟨{ lktUp with lkt := { fieldB := { sectors := [usedSector 4000] } } }, 3, false, by decide +kernel⟩
theorem witness_locketCommits_5 : ∃ (s : State) (g : Nat), s.lkt.repairs = [g] ∧ fieldGroup g = false :=
  ⟨{ lktUp with lkt := { repairs := [0x200], mainA := { sectors := [{ slots := [{ index := 0x200, kind := 0, last := false, seq := 7, data := 0, ecc := 0, valid := true }] }] } } }, 0x200, by decide +kernel⟩
theorem witness_locketCommits_5_wp : ∃ (s : State) (g : Nat), s.lkt.repairs = [g] ∧ fieldGroup g = false :=
  ⟨{ lktWp with lkt := { repairs := [0x200] } }, 0x200, by decide +kernel⟩
theorem witness_locketCommands_1_ok : ∃ (s : State) (m : Nat) (k : Nat) (w : Bool), s.mayWriteField m Reg.LKT_UNLOCK_GO = true ∧ k = s.regB Reg.LKT_UNLOCK_REGION 0 m ∧ w = (s.regB Reg.LKT_UNLOCK_KIND 0 m == 1) ∧ Opens s m k w (storeGet [] s.lkt.pw m) :=
  ⟨lktPw pw0, 1, 2, false, by unfold Opens; decide +kernel⟩
theorem witness_locketCommands_1_bad : ∃ (s : State) (m : Nat) (k : Nat) (w : Bool), s.mayWriteField m Reg.LKT_UNLOCK_GO = true ∧ k = s.regB Reg.LKT_UNLOCK_REGION 0 m ∧ w = (s.regB Reg.LKT_UNLOCK_KIND 0 m == 1) ∧ ¬ Opens s m k w (storeGet [] s.lkt.pw m) :=
  ⟨lktPw (List.replicate 16 1), 1, 2, false, by unfold Opens; decide +kernel⟩
theorem witness_locketCommands_1_zero : ∃ (s : State) (m : Nat) (k : Nat) (w : Bool), s.mayWriteField m Reg.LKT_UNLOCK_GO = true ∧ k = s.regB Reg.LKT_UNLOCK_REGION 0 m ∧ w = (s.regB Reg.LKT_UNLOCK_KIND 0 m == 1) ∧ ¬ Opens s m k w (storeGet [] s.lkt.pw m) :=
  ⟨lktUp.setB Reg.LKT_UNLOCK_REGION 0 1 7, 1, 7, false, by unfold Opens; decide +kernel⟩
theorem witness_locketCommands_2_ok : ∃ (s : State) (r : Running), s.running 6 3 = some r ∧ r.num 0 1 < 8 ∧ Opens s r.entry.master (r.num 0 1) (r.num 1 1 == 1) (r.sub 2 16) :=
  ⟨withRun (lktPw pw0) (q6 3 [2, 0]), q6 3 [2, 0], by unfold Opens; decide +kernel⟩
theorem witness_locketCommands_2_bad : ∃ (s : State) (r : Running), s.running 6 3 = some r ∧ r.num 0 1 < 8 ∧ s.unlockRefused 1 = false ∧ ¬ Opens s r.entry.master (r.num 0 1) (r.num 1 1 == 1) (r.sub 2 16) :=
  ⟨withRun (lktPw pw0) (q6 3 [2, 0, 1]), q6 3 [2, 0, 1], by unfold Opens; decide +kernel⟩
theorem witness_locketCommands_2_lock : ∃ (s : State) (r : Running), s.running 6 3 = some r ∧ r.num 0 1 < 8 ∧ s.unlockRefused 1 = true :=
  ⟨{ withRun (lktPw pw0) (q6 3 [2, 0]) with lkt := { refusing := [(1, 0)] } }, q6 3 [2, 0], by decide +kernel⟩
theorem witness_locketCommands_3 : ∃ (s : State) (r : Running), s.running 6 4 = some r :=
  ⟨{ withRun lktUp (q6 4 [2, 1]) with lkt := { grants := [{ master := 1, region := 2, write := true, since := 0 }, { master := 2, region := 2, write := true, since := 0 }] } }, q6 4 [2, 1], by decide +kernel⟩
theorem witness_locketCommands_5_ok : ∃ (s : State) (r : Running), s.running 6 1 = some r ∧ r.num 0 4 < 0x8000 ∧ 0 < r.num 4 4 ∧ r.num 4 4 ≤ 256 ∧ s.rangeOk r.entry.master r.dest (r.num 4 4) = true ∧ ((∀ i, i < r.num 4 4 → s.mayReadLkt r.entry.master ((r.num 0 4 + i) % 0x8000) = true)) ∧ s.fieldBusy = false ∧ ((∀ i, i < r.num 4 4 → s.damagedRange ((r.num 0 4 + i) % 0x8000) 1 = false)) :=
  ⟨(withRun lktUp (q6 1 (destAt (leBytes 4 0x1008 ++ leBytes 4 8) 8))).setBytes (lktBase + 0x1008) [1, 2, 3], q6 1 (destAt (leBytes 4 0x1008 ++ leBytes 4 8) 8), by decide +kernel⟩
theorem witness_locketCommands_5_bad : ∃ (s : State) (r : Running), s.running 6 1 = some r ∧ r.num 0 4 < 0x8000 ∧ 0 < r.num 4 4 ∧ r.num 4 4 ≤ 256 ∧ s.rangeOk r.entry.master r.dest (r.num 4 4) = true ∧ ((∀ i, i < r.num 4 4 → s.mayReadLkt r.entry.master ((r.num 0 4 + i) % 0x8000) = true)) ∧ s.fieldBusy = false ∧ s.damagedRange 0x1008 1 = true :=
  ⟨{ (withRun lktUp (q6 1 (destAt (leBytes 4 0x1008 ++ leBytes 4 8) 8))) with lkt := { damaged := [0x201] } }, q6 1 (destAt (leBytes 4 0x1008 ++ leBytes 4 8) 8), by decide +kernel⟩
theorem witness_locketCommands_6 : ∃ (s : State) (r : Running), s.running 6 2 = some r ∧ r.started = false ∧ r.num 0 4 < 0x8000 ∧ 0 < r.num 8 4 ∧ r.num 8 4 ≤ 64 ∧ s.rangeOk r.entry.master (r.num 4 4) (r.num 8 4) = true ∧ ((∀ i, i < r.num 8 4 → s.mayWriteLkt r.entry.master (r.num 0 4 / 64 * 64 + (r.num 0 4 + i) % 64) = true)) ∧ s.fieldBusy = false ∧ s.pins.wpLow = false ∧ s.lkt.worn = false ∧ s.lktRoom (s.byteItems (pageWrite (r.num 0 4) (s.bytes (r.num 4 4) (r.num 8 4)))) = true ∧ s.partnerRoom (s.byteItems (pageWrite (r.num 0 4) (s.bytes (r.num 4 4) (r.num 8 4)))) = true :=
  ⟨(withRun lktHold (q6 2 (leBytes 4 0x103E ++ leBytes 4 0x10080000 ++ leBytes 4 4))).setBytes 0x10080000 [1, 2, 3, 4], q6 2 (leBytes 4 0x103E ++ leBytes 4 0x10080000 ++ leBytes 4 4), by decide +kernel⟩
theorem witness_locketCommands_7 : ∃ (s : State) (r : Running), s.running 6 5 = some r ∧ r.started = false ∧ Backlog.index r.entry.seq ∉ s.lkt.backlog :=
  ⟨withRun lktUp (q6 5 []), q6 5 [], by decide +kernel⟩
theorem witness_locketCommands_8 : ∃ (s : State) (r : Running), s.running 6 6 = some r :=
  ⟨withRun lktUp (q6 6 []), q6 6 [], by decide +kernel⟩
theorem witness_locketCommands_9_ok : ∃ (s : State) (r : Running) (x : Ring), s.running 6 7 = some r ∧ s.ringOf (r.num 0 1) = some x :=
  ⟨{ withRun lktUp (q6 7 [8]) with lkt := { rings := [ring8] } }, q6 7 [8], ring8, by decide +kernel⟩
theorem witness_locketCommands_9_bad : ∃ (s : State) (r : Running) (x : Ring), s.running 6 7 = some r ∧ s.ringOf (r.num 0 1) = some x ∧ x.damaged = true :=
  ⟨{ withRun lktUp (q6 7 [8]) with lkt := { rings := [{ ring8 with damaged := true }] } }, q6 7 [8], { ring8 with damaged := true }, by decide +kernel⟩
theorem witness_locketCommands_10 : ∃ (s : State) (m : Nat), s.mayWriteField m Reg.LKT_ERR_CLR_CLR = true :=
  ⟨(up.set Reg.LKT_ERR_STALLS 3).set Reg.LKT_ERR_CORRECTED 4, 1, by decide +kernel⟩

/-! ## Witnesses of the statements of chapter 13 -/
/-- A record of the journal. -/
def jr (seq typ slot : Nat) : JRec := { seq := seq, time := 0, typ := typ, source := 0, payload := List.replicate 64 1, chain := List.replicate 32 2, slot := slot }
/-- A record that waits. -/
def nr (typ : Nat) : NewRec := { typ := typ, master := 0, block := blkTMP, payload := [1, 2, 3] }
/-- The journal mounted over 1 Gbit. -/
def jOn (j : Jnl) : State := { up with jnl := { j with mounted := true, nandGbit := 1 } }
/-- With a running command. -/
def jRun (j : Jnl) (r : Running) : State := withRun (jOn j) r
/-- Named write of JNL_ADMIN. -/
def adminWrite (v : Nat) : State := { jOn {} with auth := some { source := .hf, ver := 1, ctr := 1, n := 1, left := [{ addr := Reg.JNL_ADMIN_KEY.addr, mask := 0xFF, value := v }], openedAt := 0, phase := .writes } }
/-- Slot 254 for JNL. -/
def jnlSlot : Slot := { state := .active, key := beBytes 32 7, attrs := 32 + 2 ^ (6 + useSIGN) + 65536 * 4 + 20 * 2 ^ 20, ceiling := 1000 }
/-- KEY and PKE serving, slot 9 sealing batches. -/
def jKey (j : Jnl) : State := { ((((jOn j).set Reg.AEA_CTRL_EN 3).set Reg.KEY_CTRL_EN 1).set Reg.PKE_CTRL_EN 1).set Reg.JNL_CFG_EXP_SLOT 9 with crypto := { pkeKat := true, kat := [blkRNG, blkAEA, blkHSH], rng := { state := .ok } }, key := { slots := [(9, { aesSlot useSEAL 4 with attrs := (aesSlot useSEAL 4).attrs + 2 ^ 19 }), (254, jnlSlot)], invocNext := 10, invocTop := 20 } }
/-- An export that reads one record. -/
def exporting (driver : Bool) : State := withRun ((jKey { nand := [jr 4 1 4], reading := some { cmd := 5, driver := driver, first := 4, recs := [jr 4 1 4], next := 5 } }).set Reg.KEY_NONCE_CFG_DEVICE 3) (cmd 8 1 (destAt [] 4096))
/-- A standby. -/
def jStandby (j : Jnl) : State := { up.set Reg.TSU_CTRL_PAIRED 1 with tsu := { role := .standby, link := .up, partnerLost := false, synced := true }, jnl := j }
/-- The reading of that export. -/
def theReading (driver : Bool) : Reading := { cmd := 5, driver := driver, first := 4, recs := [jr 4 1 4], next := 5 }
/-- The engine's operation for a batch. -/
def batchOp : AeaOp := { cls := .record, slot := 9, ring := 8, cmd := 5, isOpen := false, out := some (List.replicate 100 7), nonce := [], dest := 0x10090000 }
/-- An export whose batch engine 1 seals. -/
def sealing (driver : Bool) : State := { withRun (jOn { nand := [jr 4 1 4], reading := some { theReading driver with sealing := true } }) (cmd 8 1 (destAt [] 4096)) with crypto := { rng := { state := .ok }, kat := [blkRNG, blkAEA], aea1 := { op := some batchOp } } }
theorem witness_journalRecords_1 : ∃ (s : State) (n : NewRec) (l : List NewRec), Assigns s ∧ s.reg Reg.JNL_LOST_COUNT = 0 ∧ s.jnl.sealReq = [] ∧ s.jnl.sigReady = [] ∧ s.jnl.q46 = n :: l ∧ ((bulkType n.typ = false ∨ s.jnl.used < s.jnlN)) :=
  ⟨jOn { q46 := [nr 0x60, nr 0x50] }, nr 0x60, [nr 0x50], by unfold Assigns; decide +kernel⟩
theorem witness_journalRecords_1_b : ∃ (s : State) (n : NewRec) (l : List NewRec), Assigns s ∧ s.reg Reg.JNL_LOST_COUNT = 0 ∧ s.jnl.sealReq = [] ∧ s.jnl.sigReady = [] ∧ s.jnl.q46 = n :: l ∧ ((bulkType n.typ = false ∨ s.jnl.used < s.jnlN)) :=
  ⟨jOn { q46 := [nr 0x70], next := 7, lastTime := 1000 }, nr 0x70, [], by unfold Assigns; decide +kernel⟩
theorem witness_journalRecords_2 : ∃ (s : State), s.isStandby = false ∧ s.jnl.mounted = true ∧ s.jnl.foreign_ = false ∧ s.jnl.noNand = false ∧ s.crypto.kat.contains blkHSH = true ∧ s.jnl.used < s.jnlC ∧ s.jnl.next % 1024 = 1023 :=
  ⟨jOn { next := 1023 }, by decide +kernel⟩
theorem witness_journalRecords_3 : ∃ (s : State), Assigns s ∧ 0 < s.reg Reg.JNL_LOST_COUNT :=
  ⟨(jOn {}).set Reg.JNL_LOST_COUNT 2, by unfold Assigns; decide +kernel⟩
theorem witness_journalRecords_4 : ∃ (s : State) (n : NewRec) (l : List NewRec), s.isStandby = true ∧ s.tsu.partnerLost = false ∧ s.jnl.q46 = n :: l :=
  ⟨jStandby { q46 := [nr 0x60] }, nr 0x60, [], by decide +kernel⟩
theorem witness_journalRecords_5 : ∃ (s : State) (x : JRec) (l : List JRec), s.jnl.open_ = x :: l ∧ s.jnl.prog = [] ∧ x.at_ + 1000 * s.reg Reg.JNL_CFG_FLUSH_MS ≤ s.now :=
  ⟨{ jOn { open_ := [jr 1 1 5], slotNext := 6 } with now := 1000000 }, jr 1 1 5, [], by decide +kernel⟩
theorem witness_journalRecords_6 : ∃ (s : State), ((s.jnl.open_ = [] ∨ s.now < s.jnl.openSince + 1000 * s.reg Reg.JNL_CFG_FLUSH_MS)) :=
  ⟨jOn { open_ := [] }, by decide +kernel⟩
theorem witness_journalRecords_6_b : ∃ (s : State), ((s.jnl.open_ = [] ∨ s.now < s.jnl.openSince + 1000 * s.reg Reg.JNL_CFG_FLUSH_MS)) ∧ s.now < s.jnl.openSince + 1000 * s.reg Reg.JNL_CFG_FLUSH_MS :=
  ⟨(jOn { open_ := [jr 1 1 5] }).set Reg.JNL_CFG_FLUSH_MS 3, by decide +kernel⟩
theorem witness_journalRecords_7 : ∃ (s : State), s.jnl.prog ≠ [] ∧ s.mirrorDone s.jnl.progMseq = true ∧ ((∀ r ∈ s.jnl.open_, r.slot % 32 ≠ 31)) ∧ ((∀ r ∈ s.jnl.open_, r.typ ≠ 3)) ∧ s.jnl.flushes = [] ∧ s.pwr.querying = false ∧ s.tsu.jnlMacks = [] :=
  ⟨jOn { prog := [jr 1 1 5, jr 2 3 6] }, by decide +kernel⟩
theorem witness_journalRecords_8 : ∃ (s : State) (x : JRec) (c : Nat) (r : Running), s.jnl.prog = [x] ∧ x.cmd = some c ∧ s.runningSeq 7 c = some r ∧ s.mirrorDone s.jnl.progMseq = true ∧ s.jnl.open_ = [] ∧ s.tsu.jnlMacks = [] ∧ s.jnl.recWaits = [] ∧ s.jnl.flushes = [] ∧ s.jnl.progLone = false ∧ s.pairDegraded = false :=
  ⟨jRun { prog := [{ jr 1 0x4000 5 with cmd := some 5 }] } (cmd 7 1 []), { jr 1 0x4000 5 with cmd := some 5 }, 5, cmd 7 1 [], by decide +kernel⟩
theorem witness_journalRecords_9 : ∃ (s : State), s.jnl.prog ≠ [] :=
  ⟨jOn { prog := [jr 1 1 5] }, by decide +kernel⟩
theorem witness_journalRecords_10 : ∃ (s : State) (x : JRec) (l : List JRec) (ok : Bool), s.jnl.nand = x :: l :=
  ⟨jOn { nand := [jr 1 1 5, jr 2 1 2048], ackNext := 2 }, jr 1 1 5, [jr 2 1 2048], false, by decide +kernel⟩
theorem witness_journalRecords_10_b : ∃ (s : State) (x : JRec) (l : List JRec) (ok : Bool), s.jnl.nand = x :: l :=
  ⟨jOn { nand := [jr 1 1 5, jr 2 1 2048], ackNext := 1 }, jr 1 1 5, [jr 2 1 2048], true, by decide +kernel⟩
theorem witness_journalRecords_11 : ∃ (s : State) (h : SealHead) (l : List SealHead), s.jnl.heads = h :: l ∧ s.jnl.signing = none ∧ s.pkeFree = true ∧ (s.useSlot 254 useSIGN [2] 4).1 = 0 :=
  ⟨jKey { heads := [⟨3, List.replicate 32 9⟩] }, ⟨3, List.replicate 32 9⟩, [], by decide +kernel⟩
theorem witness_journalRecords_12 : ∃ (s : State), s.jnl.heads = [] :=
  ⟨jOn {}, by decide +kernel⟩
theorem witness_journalRecords_13 : ∃ (s : State) (m : Nat), m ≠ 1 ∧ m ≤ 7 :=
  ⟨jKey { heads := [⟨3, List.replicate 32 9⟩] }, 2, by decide +kernel⟩
theorem witness_journalRecords_14_blank : ∃ (s : State), s.jnl.mounted = false :=
  ⟨{ up with devnum := 7, jnl := { nandGbit := 1 } }, by decide +kernel⟩
theorem witness_journalRecords_14_foreign : ∃ (s : State), s.jnl.mounted = false ∧ s.reg Reg.JNL_HWM_RING ≠ 0 ∧ s.jnl.acceptedTop ≤ s.hwm :=
  ⟨{ up.set Reg.JNL_HWM_RING 8 with jnl := { nandGbit := 1, nand := [jr 1 1 5] }, lkt := { rings := [{ num := 8, base := 40, pages := 2, newest := 3 }] } }, by decide +kernel⟩
theorem witness_journalRecords_15 : ∃ (s : State) (ok : Bool), s.jnl.mounted = true :=
  ⟨jOn {}, true, by decide +kernel⟩
theorem witness_journalRecords_16_ok : ∃ (s : State) (w : AuthWrite), s.namedWrite 1 Reg.JNL_ADMIN_KEY = some w :=
  ⟨adminWrite 0xF0, { addr := Reg.JNL_ADMIN_KEY.addr, mask := 0xFF, value := 0xF0 }, by decide +kernel⟩
theorem witness_journalRecords_16_bad : ∃ (s : State) (w : AuthWrite), s.namedWrite 1 Reg.JNL_ADMIN_KEY = some w :=
  ⟨adminWrite 0xF1, { addr := Reg.JNL_ADMIN_KEY.addr, mask := 0xFF, value := 0xF1 }, by decide +kernel⟩
theorem witness_journalRecords_17 : ∃ (s : State) (m : Nat), m ≤ 7 ∧ (m ≠ 1 ∨ s.auth = none) :=
  ⟨adminWrite 0xF0, 2, by decide +kernel⟩
theorem witness_journalRecords_17_b : ∃ (s : State) (m : Nat), m ≤ 7 ∧ (m ≠ 1 ∨ s.auth = none) :=
  ⟨jOn {}, 1, by decide +kernel⟩
theorem witness_journalCommands_1_ok : ∃ (s : State) (r : Running), s.running 7 1 = some r ∧ r.started = false ∧ appendType r.entry.master r.level (r.num 0 2) = true :=
  ⟨jRun {} (cmd 7 1 (leBytes 2 0x4000 ++ leBytes 4 0x10080000 ++ leBytes 4 64)), cmd 7 1 (leBytes 2 0x4000 ++ leBytes 4 0x10080000 ++ leBytes 4 64), by decide +kernel⟩
theorem witness_journalCommands_1_bad : ∃ (s : State) (r : Running), s.running 7 1 = some r ∧ r.started = false ∧ appendType r.entry.master r.level (r.num 0 2) = false :=
  ⟨jRun {} (cmd 7 1 (leBytes 2 0xC000)), cmd 7 1 (leBytes 2 0xC000), by decide +kernel⟩
theorem witness_journalCommands_2 : ∃ (s : State) (r : Running), s.running 7 2 = some r ∧ r.started = false ∧ s.jnl.foreign_ = false ∧ s.jnl.noNand = false :=
  ⟨{ jRun { lastSealAt := some 0, lastSealSeq := 9 } (cmd 7 2 []) with now := 1000000 }, cmd 7 2 [], by decide +kernel⟩
theorem witness_journalCommands_2_b : ∃ (s : State) (r : Running), s.running 7 2 = some r ∧ r.started = false ∧ s.jnl.foreign_ = false ∧ s.jnl.noNand = false :=
  ⟨{ jRun { lastSealAt := some 0, lastSealSeq := 9 } (cmd 7 2 []) with now := 999999 }, cmd 7 2 [], by decide +kernel⟩
theorem witness_journalCommands_3_none : ∃ (s : State) (r : Running), s.running 7 3 = some r ∧ r.started = false ∧ s.jnl.foreign_ = false ∧ s.jnl.noNand = false ∧ s.jnl.prog = [] ∧ s.jnl.flushes = [] ∧ s.runningSeq 7 r.entry.seq = some r :=
  ⟨jRun {} (cmd 7 3 []), cmd 7 3 [], by decide +kernel⟩
theorem witness_journalCommands_3_some : ∃ (s : State) (r : Running), s.running 7 3 = some r ∧ r.started = false ∧ s.jnl.foreign_ = false ∧ s.jnl.noNand = false ∧ s.jnl.prog = [] ∧ s.jnl.flushes = [] ∧ s.runningSeq 7 r.entry.seq = some r :=
  ⟨jRun { open_ := [jr 1 1 5], next := 2 } (cmd 7 3 []), cmd 7 3 [], by decide +kernel⟩
theorem witness_journalCommands_4 : ∃ (s : State) (r : Running) (x : JRec) (l : List JRec), s.running 8 1 = some r ∧ r.started = false ∧ s.jnl.reading = none ∧ s.jnl.nand = x :: l ∧ 0 < r.num 6 1 ∧ r.num 6 1 ≤ 128 ∧ x.seq ≤ r.num 0 6 ∧ r.num 0 6 < s.jnl.acceptedTop ∧ s.rangeOk r.entry.master r.dest (80 + 128 * ((s.jnl.fromSeq (r.num 0 6)).take (r.num 6 1)).length) = true ∧ 80 + 128 * ((s.jnl.fromSeq (r.num 0 6)).take (r.num 6 1)).length ≤ r.destLen ∧ s.jnl.foreign_ = false ∧ s.jnl.noNand = false :=
  ⟨jRun { nand := [jr 4 1 4, jr 5 2 5] } (cmd 8 1 (destAt (leBytes 6 5 ++ [3]) 4096)), cmd 8 1 (destAt (leBytes 6 5 ++ [3]) 4096), jr 4 1 4, [jr 5 2 5], by decide +kernel⟩
theorem witness_journalCommands_5_ok : ∃ (s : State) (r : Running), s.running 8 3 = some r ∧ r.started = false ∧ s.jnl.reading = none ∧ s.priv.driver = some (7, 0) :=
  ⟨{ jRun { nand := [{ jr 4 0x20 4 with payload := List.replicate 16 0xFF ++ List.replicate 48 0 }, jr 5 0x20 5] } (cmd 8 3 (destAt [] 20000)) with priv := { driver := some (7, 0) } }, cmd 8 3 (destAt [] 20000), by decide +kernel⟩
theorem witness_journalCommands_5_bad : ∃ (s : State) (r : Running), s.running 8 3 = some r ∧ r.started = false ∧ s.jnl.reading = none :=
  ⟨jRun {} (cmd 8 3 []), cmd 8 3 [], by decide +kernel⟩
theorem witness_journalCommands_6 : ∃ (s : State) (errs : List (Nat × Nat × Byte)) (rd : Reading) (r : Running) (n : Nat) (e : Nat), s.jnl.reading = some rd ∧ rd.sealing = false ∧ s.runningSeq 8 rd.cmd = some r ∧ s.enginesFailed = false ∧ n = s.reg Reg.JNL_CFG_EXP_SLOT ∧ s.slotCause n useSEAL [0, 1] 4 = 0 ∧ (s.slot n).count < (s.slot n).ceiling ∧ (s.slot n).deviceNonce = true ∧ s.nonceRefused = false ∧ s.key.invocNext < s.key.invocTop ∧ s.crypto.aeaWait = [] ∧ s.freeEngine .record = some e :=
  ⟨exporting false, [], theReading false, cmd 8 1 (destAt [] 4096), 9, 0, by decide +kernel⟩
theorem witness_journalCommands_7_host : ∃ (s : State) (e : Fin 2) (o : AeaOp) (rd : Reading) (r : Running) (out : List Byte), (s.engine e.val).op = some o ∧ o.ring = 8 ∧ s.masksFlow = true ∧ s.jnl.reading = some rd ∧ s.runningSeq 8 o.cmd = some r ∧ o.out = some out :=
  ⟨sealing false, 1, batchOp, { theReading false with sealing := true }, cmd 8 1 (destAt [] 4096), List.replicate 100 7, by decide +kernel⟩
theorem witness_journalCommands_7_driver : ∃ (s : State) (e : Fin 2) (o : AeaOp) (rd : Reading) (r : Running) (out : List Byte), (s.engine e.val).op = some o ∧ o.ring = 8 ∧ s.masksFlow = true ∧ s.jnl.reading = some rd ∧ s.runningSeq 8 o.cmd = some r ∧ o.out = some out :=
  ⟨sealing true, 1, batchOp, { theReading true with sealing := true }, cmd 8 1 (destAt [] 4096), List.replicate 100 7, by decide +kernel⟩
theorem witness_journalCommands_8_ok : ∃ (s : State) (r : Running), s.running 8 2 = some r ∧ r.started = false ∧ s.reg Reg.JNL_CFG_RCPT = 0 ∧ s.jnl.foreign_ = false ∧ s.jnl.noNand = false :=
  ⟨jRun { ackNext := 4, next := 9, batches := [{ first := 4, count := 2, tag := List.replicate 16 3 }] } (cmd 8 2 (List.replicate 16 3)), cmd 8 2 (List.replicate 16 3), by decide +kernel⟩
theorem witness_journalCommands_8_bad : ∃ (s : State) (r : Running), s.running 8 2 = some r ∧ r.started = false ∧ s.reg Reg.JNL_CFG_RCPT = 0 ∧ s.jnl.foreign_ = false ∧ s.jnl.noNand = false :=
  ⟨jRun {} (cmd 8 2 (List.replicate 16 3)), cmd 8 2 (List.replicate 16 3), by decide +kernel⟩
theorem witness_journalCommands_9 : ∃ (s : State) (r : Running), s.running 8 4 = some r :=
  ⟨jRun {} (cmd 8 4 []), cmd 8 4 [], by decide +kernel⟩
theorem witness_journalCommands_10 : ∃ (s : State) (m : Nat), s.mayWriteField m Reg.JNL_ERR_CLR_CLR = true :=
  ⟨up.set Reg.JNL_ERR_DAMAGED 3, 1, by decide +kernel⟩

/-! ## Witnesses of the statements of chapter 14 -/
/-- A block of the reader with its CRC_A. -/
def tagFrame (pcb : Nat) (inf : List Byte) : List Byte := (BitVec.ofNat 8 pcb :: inf) ++ crcA (BitVec.ofNat 8 pcb :: inf)
/-- The tag in a field in RUN, in a state of its own. -/
def tagIn (h : Hft) : State := { ((keyOn.set Reg.HFT_CTRL_EN 1).set Reg.HFT_TAG_CFG_ENF_EN 1).set Reg.HFT_TAG_CFG_WS_EN 1 with hft := { h with field := true } }
/-- An open APDU. -/
def apdu (ins p1 p2 : Nat) (data : List Byte) (le : List Byte) : List Byte :=
  ([0, ins, p1, p2] ++ (if data.isEmpty then [] else [data.length])).map (BitVec.ofNat 8) ++ data ++ le
/-- The tag SECURED by a method under a key of ones. -/
def tagSec (method : Nat) : State := tagIn { st := .secured, method := method, key := List.replicate 16 1, mayWrite := true }
/-- A protected APDU of that session. -/
def smApdu (ins p1 p2 : Nat) (p : List Byte) (le : List Byte) : List Byte :=
  let c := ccmSeal (List.replicate 16 1) 8 (smNonce 1 0) [0x0C, BitVec.ofNat 8 ins, BitVec.ofNat 8 p1, BitVec.ofNat 8 p2] p
  ([0x0C, ins, p1, p2, p.length + 8]).map (BitVec.ofNat 8) ++ c.1 ++ c.2 ++ le
/-- The APDU that a frame brings. -/
def takenApdu (s : State) (f : List Byte) : Apdu := match s.tagTake f with | some x => x.1 | none => parseApdu []
/-- A reader certificate of the authority for scalar 20. -/
def cert : List Byte := beBytes 152 0x1020100000000000000000000000005000000000000000083A01A9378395BAB9BCD6A0AD03CC56D56E6B19250465A94A234DC4C6B28DA9A76E49B6DE2F73234AE6A5EB9D612B75C9F2202BB6923F54FF8240AAA86F640B853D8B9053932DE03240896AD2C55FFB80B903A8E9AE9B74AA7A751FF15AB1B441A1119AAB0CEB063DA3754401D0933FA844008815BD53D3D37CBE6DBA39857CB
/-- The reader's share of an enforcement authentication with a challenge of nines, the signature by scalar 20. -/
def enfSig : List Byte := beBytes 64 0xDCE4B6EF06FDFA63EEFD2B7F50BD09CC5085CCE8A12AFF33925F78C96C7F9A697C4AFA06C567B20D31ADC77F2FF5AD74629D1000C2E8519C5C4226C800977ABA
/-- The share with its signature. -/
def enfOk : Enf := { eR := pub21, sig := enfSig }
/-- The share with bytes that are no signature. -/
def enfBad : Enf := { eR := pub21, sig := pub21 }
/-- The tag during an enforcement authentication. -/
def tagEnf (e : Enf) (w : TagWait) : State := tagIn { st := .open_, uid := [8, 0, 0, 0], certs := [cert], nT := some (List.replicate 16 9), enf := some e, waits := w }
/-- The same after its PKE work, with a session key of threes. -/
def enfEnd : Enf := { enfOk with done := true, eT := pub22, k2 := List.replicate 16 3 }
/-- The tag of the reader's confirmation. -/
def confirmTag : List Byte := beBytes 8 0x807E4E4491C4D77
/-- The reader's proof of the workshop key of zeros. -/
def wsProof (nT : List Byte) (uid : List Byte) : List Byte :=
  List.replicate 16 4 ++ (ccmSeal (List.replicate 16 0) 8 ((6 : Byte) :: nT.take 12) ([0x57, 0x52] ++ nT ++ List.replicate 16 4 ++ uid) []).2
/-- The SECURED tag by the workshop method, with all of Field Memory in its range and hold-up ready. -/
def tagWrites (wp : Bool) : State := { (tagSec 2).set Reg.HFT_WR_RANGE_WS_PAGES 127 with pins := { vsup := true, vio := true, holdupReady := true, wpLow := wp } }
/-- A frame that brings an APDU gives it. -/
theorem takenHere {s : State} {f : List Byte} (h : (s.tagTake f).isSome = true) : ∃ u, s.tagTake f = some (takenApdu s f, u) := by
  cases hx : s.tagTake f with
  | none => simp [hx] at h
  | some x => exact ⟨x.2, by simp [takenApdu, hx]⟩
theorem witness_tagFrames_1 : ∃ (s : State), s.hft.field = false ∧ s.mainUp = true ∧ s.pwr.phase = .run :=
  ⟨up, by decide +kernel⟩
theorem witness_tagFrames_2 : ∃ (s : State), s.hft.field = true ∧ s.hft.stalls = [] ∧ s.pins.vio = true :=
  ⟨withRun (tagIn {}) ({ cmd 11 3 [] with started := true }), by decide +kernel⟩
theorem witness_tagFrames_2_b : ∃ (s : State), s.hft.field = true ∧ s.hft.stalls = [] ∧ s.pins.vio = true :=
  ⟨{ tagIn { st := .open_ } with lkt := { writes := [{ writer := .field, items := [], placed := true, at_ := 0 }, { writer := .bus 1, items := [], placed := true, at_ := 0 }] } }, by decide +kernel⟩
theorem witness_tagFrames_3 : ∃ (s : State), s.hft.field = true :=
  ⟨tagIn {}, by decide +kernel⟩
theorem witness_tagFrames_4 : ∃ (s : State), s.hft.field = false :=
  ⟨up, by decide +kernel⟩
theorem witness_tagFrames_6 : ∃ (s : State), s.tagOn = true ∧ s.hft.st = .idle :=
  ⟨tagIn { part3 := 0, uid := [8, 1, 2, 3] }, by decide +kernel⟩
theorem witness_tagFrames_6_b : ∃ (s : State), s.tagOn = true ∧ s.hft.st = .idle :=
  ⟨tagIn { part3 := 1, uid := [8, 1, 2, 3] }, by decide +kernel⟩
theorem witness_tagFrames_6_c : ∃ (s : State), s.tagOn = true ∧ s.hft.st = .idle :=
  ⟨tagIn { part3 := 2, uid := [8, 1, 2, 3] }, by decide +kernel⟩
theorem witness_tagFrames_7 : ∃ (s : State) (f : List Byte), s.tagOn = true ∧ s.hft.st = .active ∧ s.hft.fresh = true ∧ openTagFrame f = some [0xD0, 0x11, 0x00] :=
  ⟨tagIn { st := .active, fresh := true }, beBytes 5 0xD0110052A6, by decide +kernel⟩
theorem witness_tagFrames_8 : ∃ (s : State), s.tagOn = true ∧ s.hft.stalls = [] :=
  ⟨tagIn { st := .idle }, by decide +kernel⟩
theorem witness_tagFrames_8_b : ∃ (s : State), s.tagOn = true ∧ s.hft.stalls = [] :=
  ⟨tagIn { st := .secured, key := List.replicate 16 1 }, by decide +kernel⟩
theorem witness_tagFrames_9 : ∃ (s : State), s.tagOn = true ∧ s.hft.st ≠ .idle :=
  ⟨tagIn { st := .active, last := [1, 2, 3], rest := List.replicate 300 7 }, by decide +kernel⟩
theorem witness_tagFrames_9_b : ∃ (s : State), s.tagOn = true ∧ s.hft.st ≠ .idle :=
  ⟨tagIn { st := .open_, last := [1, 2, 3], rest := [5], bn := false, chain := [8] }, by decide +kernel⟩
theorem witness_tagFrames_10 : ∃ (s : State), s.hft.wtx = true ∧ s.hft.waits ≠ .none :=
  ⟨tagIn { st := .open_, wtx := true, waits := .write }, by decide +kernel⟩
theorem witness_tagFrames_11 : ∃ (s : State), s.hft.wtx = true ∧ s.hft.waits = .none ∧ s.hft.rest ≠ [] :=
  ⟨tagIn { st := .open_, wtx := true, rest := [5, 6] }, by decide +kernel⟩
theorem witness_tagFrames_12 : ∃ (s : State) (f : List Byte) (a : Apdu), ((∃ u, s.tagTake f = some (a, u))) ∧ (a.cla = 0 ∧ ∀ p ∈ tagCommands, p.1 ≠ a.ins) :=
  ⟨tagIn { st := .active }, beBytes 7 0x200990000B903, _, takenHere (by decide +kernel), by decide +kernel⟩
theorem witness_tagFrames_12_b : ∃ (s : State) (f : List Byte) (a : Apdu), ((∃ u, s.tagTake f = some (a, u))) ∧ a.cla ≠ 0 ∧ a.cla ≠ 0x0C :=
  ⟨tagIn { st := .active }, beBytes 7 0x380A40000425C, _, takenHere (by decide +kernel), by decide +kernel⟩
theorem witness_tagCommands_1 : ∃ (s : State) (f : List Byte) (a : Apdu), Taken f 0xA4 s a ∧ a.cla = 0 ∧ a.p1 = 4 ∧ a.p2 = 0x0C ∧ a.ok = true ∧ a.data = [0xF0, 0x53, 0x58, 0x44, 0x56, 0x37, 0x32, 0x34, 0x30] :=
  ⟨tagIn { st := .active }, beBytes 17 0x200A4040C09F05358445637323430FE9A, _, ⟨takenHere (by decide +kernel), by decide +kernel⟩, by decide +kernel⟩
theorem witness_tagCommands_2 : ∃ (s : State) (f : List Byte) (a : Apdu), Taken f 0x30 s a ∧ OpenForm a s 0 0 :=
  ⟨tagIn { st := .open_ }, beBytes 7 0x2003000007090, _, ⟨takenHere (by decide +kernel), by decide +kernel⟩, by unfold OpenForm; decide +kernel⟩
theorem witness_tagCommands_3 : ∃ (s : State) (f : List Byte) (a : Apdu), Taken f 0x84 s a ∧ OpenForm a s 0 0 ∧ a.le = 16 :=
  ⟨tagIn { st := .open_ }, beBytes 8 0x20084000010E670, _, ⟨takenHere (by decide +kernel), by decide +kernel⟩, by unfold OpenForm; decide +kernel⟩
theorem witness_tagCommands_4_ok : ∃ (s : State) (f : List Byte) (a : Apdu), Taken f 0x32 s a ∧ OpenForm a s 1 152 ∧ certIssuer a.data = 0 ∧ s.areaDamaged 0 = false ∧ ((certRole a.data = 1 ∨ certRole a.data = 2)) ∧ slice a.data 0 1 = [1] ∧ s.certInTime a.data = true ∧ s.pkeVerifies = true ∧ ecdsaVerify s.authorityKey (sha256 (a.data.take 88)) (a.data.drop 88) = true :=
  ⟨tagIn { st := .open_ }, beBytes 160 0x2003201009801020100000000000000000000000005000000000000000083A01A9378395BAB9BCD6A0AD03CC56D56E6B19250465A94A234DC4C6B28DA9A76E49B6DE2F73234AE6A5EB9D612B75C9F2202BB6923F54FF8240AAA86F640B853D8B9053932DE03240896AD2C55FFB80B903A8E9AE9B74AA7A751FF15AB1B441A1119AAB0CEB063DA3754401D0933FA844008815BD53D3D37CBE6DBA39857CB8D7A, _, ⟨takenHere (by decide +kernel), by decide +kernel⟩, by unfold OpenForm; decide +kernel⟩
theorem witness_tagCommands_4_bad : ∃ (s : State) (f : List Byte) (a : Apdu), Taken f 0x32 s a ∧ OpenForm a s 1 152 ∧ certIssuer a.data = 0 ∧ s.areaDamaged 0 = false ∧ ((certRole a.data = 1 ∨ certRole a.data = 2)) ∧ slice a.data 0 1 = [1] ∧ s.certInTime a.data = true ∧ s.pkeVerifies = true ∧ ecdsaVerify s.authorityKey (sha256 (a.data.take 88)) (a.data.drop 88) = false :=
  ⟨tagIn { st := .open_ }, beBytes 160 0x2003201009801020100000000000000000000000005000000000000000083A01A9378395BAB9BCD6A0AD03CC56D56E6B19250465A94A234DC4C6B28DA9A76E49B6DE2F73234AE6A5EB9D612B75C9F2202BB6923F54FF8240AAA86F640B853D8B9053932DE03240896AD01010101010101010101010101010101010101010101010101010101010101010101010101010101010101010101010101010101A349, _, ⟨takenHere (by decide +kernel), by decide +kernel⟩, by unfold OpenForm; decide +kernel⟩
theorem witness_tagCommands_5_ok : ∃ (s : State) (f : List Byte) (a : Apdu), Taken f 0x34 s a ∧ OpenForm a s 0 128 ∧ s.hft.fails < 3 ∧ s.enfAvailable = true ∧ s.readerCert ≠ none ∧ s.hft.nT ≠ none ∧ s.hft.mode = 0 :=
  ⟨tagIn { st := .open_, uid := [8, 0, 0, 0], certs := [cert], nT := some (List.replicate 16 9) }, beBytes 136 0x200340000803250FCF686637C7B2E4AC86EB473BCA53A582139F42B1523FD76364E67399E8342E7C342667D359397B3090D1D7EB88C897CD3C33B566A8215DE24A071D48C09DCE4B6EF06FDFA63EEFD2B7F50BD09CC5085CCE8A12AFF33925F78C96C7F9A697C4AFA06C567B20D31ADC77F2FF5AD74629D1000C2E8519C5C4226C800977ABA9C04, _, ⟨takenHere (by decide +kernel), by decide +kernel⟩, by unfold OpenForm; decide +kernel⟩
theorem witness_tagCommands_5_lock : ∃ (s : State) (f : List Byte) (a : Apdu), Taken f 0x34 s a ∧ OpenForm a s 0 128 ∧ 3 ≤ s.hft.fails :=
  ⟨tagIn { st := .open_, fails := 3 }, beBytes 136 0x200340000803250FCF686637C7B2E4AC86EB473BCA53A582139F42B1523FD76364E67399E8342E7C342667D359397B3090D1D7EB88C897CD3C33B566A8215DE24A071D48C09DCE4B6EF06FDFA63EEFD2B7F50BD09CC5085CCE8A12AFF33925F78C96C7F9A697C4AFA06C567B20D31ADC77F2FF5AD74629D1000C2E8519C5C4226C800977ABA9C04, _, ⟨takenHere (by decide +kernel), by decide +kernel⟩, by unfold OpenForm; decide +kernel⟩
theorem witness_tagCommands_6_bad : ∃ (s : State) (e : Enf) (c : List Byte) (nT : List Byte), s.hft.enf = some e ∧ s.readerCert = some c ∧ s.hft.nT = some nT ∧ s.hft.waits = .enf ∧ s.hft.mode = 0 ∧ s.pkeFree = true ∧ s.crypto.rng.state = .ok ∧ s.enfAvailable = true ∧ certKey c ≠ [] ∧ ecdsaVerify (certKey c) (sha256 ([0x48, 0x46, 0x52, 0x44] ++ nT ++ s.hft.uid ++ e.eR)) e.sig = false :=
  ⟨tagEnf (enfBad) .enf, enfBad, cert, List.replicate 16 9, by decide +kernel⟩
theorem witness_tagCommands_6_ok : ∃ (s : State) (e : Enf) (c : List Byte) (nT : List Byte), s.hft.enf = some e ∧ s.readerCert = some c ∧ s.hft.nT = some nT ∧ s.hft.waits = .enf ∧ s.hft.mode = 0 ∧ s.pkeFree = true ∧ s.crypto.rng.state = .ok ∧ s.enfAvailable = true ∧ certKey c ≠ [] ∧ ecdsaVerify (certKey c) (sha256 ([0x48, 0x46, 0x52, 0x44] ++ nT ++ s.hft.uid ++ e.eR)) e.sig = true ∧ pointOf e.eR ≠ none ∧ s.slotCause 253 useECDH [2] 0 = 0 ∧ (s.slot 253).count < (s.slot 253).ceiling ∧ s.slotCause 254 useSIGN [2] 0 = 0 ∧ (s.slot 254).count < (s.slot 254).ceiling ∧ ecdh (ofBe (s.slot 253).key) e.eR ≠ none :=
  ⟨{ tagEnf enfOk .enf with key := { keyOn.key with slots := [(253, { ecSlot 7 useECDH with attrs := (ecSlot 7 useECDH).attrs }), (254, ecSlot 7 4)] } }, enfOk, cert, List.replicate 16 9, by decide +kernel⟩
theorem witness_tagCommands_7_ok : ∃ (s : State) (f : List Byte) (a : Apdu) (e : Enf) (c : List Byte), Taken f 0x38 s a ∧ OpenForm a s 0 8 ∧ s.hft.fails < 3 ∧ s.enfAvailable = true ∧ s.hft.enf = some e ∧ s.readerCert = some c ∧ e.done = true ∧ (ccmSeal e.k2 8 (4 :: List.replicate 12 0) ((0x52 : Byte) :: (e.eR ++ e.eT)) []).2 = a.data :=
  ⟨tagEnf enfEnd .none, beBytes 16 0x200380000080807E4E4491C4D775B4B, _, enfEnd, cert, ⟨takenHere (by decide +kernel), by decide +kernel⟩, by unfold OpenForm; decide +kernel⟩
theorem witness_tagCommands_7_bad : ∃ (s : State) (f : List Byte) (a : Apdu) (e : Enf) (c : List Byte), Taken f 0x38 s a ∧ OpenForm a s 0 8 ∧ s.hft.fails < 3 ∧ s.enfAvailable = true ∧ s.hft.enf = some e ∧ s.readerCert = some c ∧ e.done = true ∧ (ccmSeal e.k2 8 (4 :: List.replicate 12 0) ((0x52 : Byte) :: (e.eR ++ e.eT)) []).2 ≠ a.data :=
  ⟨tagEnf enfEnd .none, beBytes 16 0x200380000080102030405060708D5E5, _, enfEnd, cert, ⟨takenHere (by decide +kernel), by decide +kernel⟩, by unfold OpenForm; decide +kernel⟩
theorem witness_tagCommands_8_ok : ∃ (s : State) (f : List Byte) (a : Apdu) (nT : List Byte), Taken f 0x3A s a ∧ OpenForm a s 0 24 ∧ s.hft.fails < 3 ∧ s.wsAvailable = true ∧ s.hft.nT = some nT ∧ (ccmSeal s.kWs 8 ((6 : Byte) :: nT.take 12) ([0x57, 0x52] ++ nT ++ a.data.take 16 ++ s.hft.uid) []).2 = a.data.drop 16 :=
  ⟨tagIn { st := .open_, uid := [8, 0, 0, 0], certs := [cert], nT := some (List.replicate 16 9) }, beBytes 32 0x2003A00001804040404040404040404040404040404EE98F80C5667594CE672, _, List.replicate 16 9, ⟨takenHere (by decide +kernel), by decide +kernel⟩, by unfold OpenForm; decide +kernel⟩
theorem witness_tagCommands_8_bad : ∃ (s : State) (f : List Byte) (a : Apdu) (nT : List Byte), Taken f 0x3A s a ∧ OpenForm a s 0 24 ∧ s.hft.fails < 3 ∧ s.wsAvailable = true ∧ s.hft.nT = some nT ∧ (ccmSeal s.kWs 8 ((6 : Byte) :: nT.take 12) ([0x57, 0x52] ++ nT ++ a.data.take 16 ++ s.hft.uid) []).2 ≠ a.data.drop 16 :=
  ⟨tagIn { st := .open_, uid := [8, 0, 0, 0], certs := [cert], nT := some (List.replicate 16 9) }, beBytes 32 0x2003A00001804040404040404040404040404040404040404040404040465CE, _, List.replicate 16 9, ⟨takenHere (by decide +kernel), by decide +kernel⟩, by unfold OpenForm; decide +kernel⟩
theorem witness_tagCommands_9_ok : ∃ (s : State) (f : List Byte) (a : Apdu), Taken f 0xB0 s a ∧ Opened a s [] ∧ 0 < a.le ∧ a.le ≤ 224 :=
  ⟨tagSec 1, beBytes 17 0x20CB01FBC08D3E3D7B035568EE204565D, _, ⟨takenHere (by decide +kernel), by decide +kernel⟩, by unfold Opened; decide +kernel⟩
theorem witness_tagCommands_9_far : ∃ (s : State) (f : List Byte) (a : Apdu), Taken f 0xB0 s a ∧ Opened a s [] ∧ 0 < a.le ∧ a.le ≤ 224 :=
  ⟨tagSec 1, beBytes 17 0x20CB01FBD08E11238F34630E7A904A88D, _, ⟨takenHere (by decide +kernel), by decide +kernel⟩, by unfold Opened; decide +kernel⟩
theorem witness_tagCommands_10_ok : ∃ (s : State) (f : List Byte) (a : Apdu) (p : List Byte) (k : Option Nat), Taken f 0xD6 s a ∧ Opened a s p ∧ 0 < p.length ∧ p.length ≤ 128 ∧ s.hft.noWrite = false ∧ s.isStandby = false :=
  ⟨tagWrites false, beBytes 20 0x20CD600060CE086DEC84BD2334324BF7C50C36F, _, [1, 2, 3, 4], none, ⟨takenHere (by decide +kernel), by decide +kernel⟩, by unfold Opened; decide +kernel⟩
theorem witness_tagCommands_10_far : ∃ (s : State) (f : List Byte) (a : Apdu) (p : List Byte) (k : Option Nat), Taken f 0xD6 s a ∧ Opened a s p ∧ 0 < p.length ∧ p.length ≤ 128 ∧ s.hft.noWrite = false ∧ s.isStandby = false :=
  ⟨tagWrites false, beBytes 20 0x20CD61FBD0CE086DEC8CBEB76147310FFA21E4F, _, [1, 2, 3, 4], some 1, ⟨takenHere (by decide +kernel), by decide +kernel⟩, by unfold Opened; decide +kernel⟩
theorem witness_tagCommands_11 : ∃ (s : State) (f : List Byte) (a : Apdu), Taken f 0x3C s a ∧ Opened a s [] ∧ a.p1 = 0 ∧ a.p2 = 0 :=
  ⟨tagSec 2, beBytes 16 0x20C3C0000087AD8F93888DE77063555, _, ⟨takenHere (by decide +kernel), by decide +kernel⟩, by unfold Opened; decide +kernel⟩
theorem witness_tagCommands_12 : ∃ (s : State) (f : List Byte) (a : Apdu), Taken f 0x36 s a ∧ Opened a s [] ∧ s.hft.method = 1 ∧ 0 < a.le ∧ a.le ≤ 224 :=
  ⟨tagSec 1, beBytes 17 0x20C36000008CB864D001A010F8A64AB32, _, ⟨takenHere (by decide +kernel), by decide +kernel⟩, by unfold Opened; decide +kernel⟩
theorem witness_tagCommands_13_part : ∃ (s : State) (f : List Byte) (a : Apdu) (p : List Byte), Taken f 0x42 s a ∧ Opened a s p ∧ a.p1 = 0 ∧ p ≠ [] ∧ p.length ≤ 200 ∧ s.hft.mode = 0 ∧ s.isStandby = false :=
  ⟨tagSec 1, beBytes 19 0x20C4200000BE086DE48D3499EDFDEC38CA17D, _, [1, 2, 3], ⟨takenHere (by decide +kernel), by decide +kernel⟩, by unfold Opened; decide +kernel⟩
theorem witness_tagCommands_13_whole : ∃ (s : State) (f : List Byte) (a : Apdu) (p : List Byte), Taken f 0x42 s a ∧ Opened a s p ∧ a.p1 = 0 ∧ p ≠ [] ∧ p.length ≤ 200 ∧ s.hft.mode = 0 ∧ s.isStandby = false ∧ (s.authCheck p).1 = stOK :=
  ⟨tagSec 1, beBytes 108 0x20C42000164E085DDCC1C4574197A1EC012D5096FDA6200EB5573B95CD486B1470D4306C63EE5002F1545B02A7CEF041D0757CCA6EB160EC2E6136B32B086B4FA8DB609930EC64D399AC9AA8754BE128BD14800D36EBCFF8645D3486DB5D2E4CFB451D59AABE0CB58E3CAD1, _, authBytes, ⟨takenHere (by decide +kernel), by decide +kernel⟩, by unfold Opened; decide +kernel⟩
theorem witness_tagCommands_14 : ∃ (s : State) (f : List Byte) (a : Apdu), Taken f 0x3E s a ∧ Opened a s [] ∧ a.p1 = 0 ∧ a.p2 = 0 :=
  ⟨tagSec 1, beBytes 16 0x20C3E000008EF865C886FF1772594D7, _, ⟨takenHere (by decide +kernel), by decide +kernel⟩, by unfold Opened; decide +kernel⟩
theorem witness_tagCommands_15 : ∃ (s : State) (x : Stall) (l : List Stall) (r : Running), s.hft.stalls = x :: l ∧ x.since + 4900 ≤ s.now ∧ s.hft.mode = 0 ∧ x.width = 0 ∧ s.runningSeq 6 x.addr = some r :=
  ⟨{ withRun (tagIn { stalls := [{ master := 1, write := false, addr := 5, width := 0, value := 0, since := 0 }] }) (cmd 6 2 []) with now := 4900 }, { master := 1, write := false, addr := 5, width := 0, value := 0, since := 0 }, [], cmd 6 2 [], by decide +kernel⟩
theorem witness_tagCommands_16 : ∃ (s : State), ((s.hft.stalls = [] ∨ ∃ x l, s.hft.stalls = x :: l ∧ s.now < x.since + 4900)) :=
  ⟨tagIn {}, .inl rfl⟩
theorem witness_tagCommands_16_b : ∃ (s : State), ((s.hft.stalls = [] ∨ ∃ x l, s.hft.stalls = x :: l ∧ s.now < x.since + 4900)) :=
  ⟨{ tagIn { stalls := [{ master := 1, write := false, addr := 5, width := 0, value := 0, since := 0 }] } with now := 4899 }, .inr ⟨_, _, rfl, by decide +kernel⟩⟩
theorem witness_tagCommands_17 : ∃ (s : State) (r : Running), s.running 11 1 = some r :=
  ⟨upCmd (cmd 11 1 []), cmd 11 1 [], by decide +kernel⟩
theorem witness_tagCommands_18 : ∃ (s : State) (r : Running), s.running 11 2 = some r ∧ s.hft.stalls = [] ∧ ((s.hft.st ≠ .secured ∨ s.hft.waits = .none)) :=
  ⟨withRun (tagSec 1) (cmd 11 2 []), cmd 11 2 [], by decide +kernel⟩
theorem witness_tagCommands_18_b : ∃ (s : State) (r : Running), s.running 11 2 = some r ∧ s.hft.stalls = [] ∧ ((s.hft.st ≠ .secured ∨ s.hft.waits = .none)) :=
  ⟨upCmd (cmd 11 2 []), cmd 11 2 [], by decide +kernel⟩
theorem witness_tagCommands_19 : ∃ (s : State) (r : Running), s.running 11 3 = some r ∧ r.started = false ∧ s.runningSeq 11 r.entry.seq = some r :=
  ⟨upCmd (cmd 11 3 []), cmd 11 3 [], by decide +kernel⟩
theorem witness_tagCommands_19_b : ∃ (s : State) (r : Running), s.running 11 3 = some r ∧ r.started = false ∧ s.runningSeq 11 r.entry.seq = some r :=
  ⟨withRun (tagSec 1) (cmd 11 3 []), cmd 11 3 [], by decide +kernel⟩
theorem witness_tagCommands_20 : ∃ (s : State) (m : Nat), s.mayWriteField m Reg.HFT_ERR_CLR_CLR = true :=
  ⟨up.set Reg.HFT_ERR_SM_FAIL 3, 1, by decide +kernel⟩

/-! ## Witnesses of the statements of chapter 15 -/
/-- A word of a Locket page that the host may read and write: region 2, open. -/
def eeUp : State := { (((((up.setI Reg.LKT_RGN_EN 2 1).setI Reg.LKT_RGN_BASE 2 64).setI Reg.LKT_RGN_PAGES 2 16).setI Reg.LKT_RGN_READ_OPEN 2 1).setI Reg.LKT_RGN_WRITE_OPEN 2 1).set Reg.HIF_EE_WEL 1 with lkt := { mounted := true }, pins := { vsup := true, vio := true, holdupReady := true } }
/-- A completion of the host's command. -/
def hostDone : Entry := { seq := 4, block := 1, code := 7, flags := 3, payload := List.replicate 48 5 }
/-- A ring with entries. -/
def withRing (q : Nat) (l : List Entry) : State := { up.set Reg.QUE_CTRL_EN 1 with que := { rings := [(q, l)] } }
/-- A full ring. -/
def fullRing (q : Nat) : State := withRing q (List.replicate (up.depth q) hostDone)
/-- A mailbox with a message. -/
def boxed (k sender : Nat) (s : State) : State := { s with mbx := { s.mbx with boxes := s.mbx.boxes.set k (some { sender := sender, words := [1, 2], placedAt := 0 }) } }
/-- The device in DV-5120 framing. -/
def legacy : State := up.set Reg.HIF_CFG_LEGACY 1
/-- A waiting command of the security core. -/
def wait1 (c : Nat) (m : Nat) : Entry := { seq := 5, master := m, code := c, tag := 9, payload := List.replicate 48 0 }
/-- A device asleep. -/
def dozing : State := inPhase (.sleep 1)
/-- A CAN with a pending command. -/
def bulkTaken (now : Nat) : State := { (up.set Reg.QUE_CFG_BULK_WAIT 100) with now := now, que := { running := [{ cmd 12 1 [] with takenAt := 0 }] } }
theorem witness_hostFrames_1 : ∃ (s : State) (a : BitVec 32), Served 0xB0 s ∧ s.fieldBusy = false ∧ ((s.hifSeen 0xB0).busRead 3 a.toNat 32).1 = stOK :=
  ⟨up.setBytes 0x10080000 [1, 2, 3, 4], 0x10080000, by unfold Served; decide +kernel⟩
theorem witness_hostFrames_2 : ∃ (s : State) (a : BitVec 32) (n : BitVec 8) (st : Nat), Served 0xB0 s ∧ s.fieldBusy = false ∧ claspsIn a.toNat (n.toNat + 1) ≤ 1 ∧ ((s.hifSeen 0xB0).busRead 3 a.toNat 32).1 = st ∧ st ≠ stOK :=
  ⟨up, 0, 2, stPOLICY, by unfold Served; decide +kernel⟩
theorem witness_hostFrames_3 : ∃ (s : State) (a : BitVec 32) (n : BitVec 8), Served 0xB0 s ∧ 1 < claspsIn a.toNat (n.toNat + 1) :=
  ⟨up, BitVec.ofNat 32 Reg.CLASP_OWNER.addr, 1, by unfold Served; decide +kernel⟩
theorem witness_hostFrames_4_ok : ∃ (s : State) (a : BitVec 32) (w : BitVec 32), Served 0xB1 s ∧ regionOf a.toNat ≠ some .locket ∧ ((s.hifSeen 0xB1).busWrite 3 a.toNat 32 w.toNat).1 = some stOK :=
  ⟨up, 0x10080000, 77, by unfold Served; decide +kernel⟩
theorem witness_hostFrames_4_bad : ∃ (s : State) (a : BitVec 32) (w : BitVec 32), Served 0xB1 s ∧ regionOf a.toNat ≠ some .locket ∧ ((s.hifSeen 0xB1).busWrite 3 a.toNat 32 w.toNat).1 = some stPOLICY :=
  ⟨up, 0, 77, by unfold Served; decide +kernel⟩
theorem witness_hostFrames_5_up : ∃ (s : State) (a : BitVec 32) (w : BitVec 32) (l : List (BitVec 32)), l.length < 256 ∧ Served 0xB1 s ∧ s.hifOpen = true ∧ regionOf a.toNat = some .locket ∧ a.toNat % 4 = 0 ∧ ((∀ i, i < 4 → s.mayWriteLkt 3 (a.toNat - lktBase + i) = true)) ∧ s.isStandby = false ∧ s.fieldBusy = false ∧ s.pins.wpLow = false ∧ s.lkt.worn = false ∧ s.lktRoom (s.runItems (a.toNat - lktBase) (leBytes 4 w.toNat)) = true ∧ s.linkMirrors = false ∧ ((∀ x ∈ s.lkt.writes, x.writer ≠ .bus 3)) :=
  ⟨eeUp, BitVec.ofNat 32 (lktBase + 0x1000), 77, [], by unfold Served; decide +kernel⟩
theorem witness_hostFrames_5_wait : ∃ (s : State) (a : BitVec 32) (w : BitVec 32) (l : List (BitVec 32)), l.length < 256 ∧ Served 0xB1 s ∧ s.hifOpen = true ∧ regionOf a.toNat = some .locket ∧ a.toNat % 4 = 0 ∧ ((∀ i, i < 4 → s.mayWriteLkt 3 (a.toNat - lktBase + i) = true)) ∧ s.isStandby = false ∧ s.fieldBusy = false ∧ s.pins.wpLow = false ∧ s.lkt.worn = false ∧ s.lktRoom (s.runItems (a.toNat - lktBase) (leBytes 4 w.toNat)) = true ∧ s.linkMirrors = false ∧ ((∀ x ∈ s.lkt.writes, x.writer ≠ .bus 3)) :=
  ⟨{ eeUp with pins := { vsup := true, vio := true } }, BitVec.ofNat 32 (lktBase + 0x1000), 77, [78], by unfold Served; decide +kernel⟩
theorem witness_hostFrames_6_ok : ∃ (s : State) (q : BitVec 8) (b : List Byte), Served 0xB2 s ∧ s.hifOpen = true ∧ s.blockOff blkQUE = false ∧ q.toNat < 16 ∧ (s.ring q.toNat).length < s.depth q.toNat :=
  ⟨up.set Reg.QUE_CTRL_EN 1, 6, [1, 2, 3], by unfold Served; decide +kernel⟩
theorem witness_hostFrames_6_full : ∃ (s : State) (q : BitVec 8) (b : List Byte), Served 0xB2 s ∧ s.hifOpen = true ∧ s.blockOff blkQUE = false ∧ q.toNat < 16 ∧ s.depth q.toNat ≤ (s.ring q.toNat).length :=
  ⟨fullRing 6, 6, [1, 2, 3], by unfold Served; decide +kernel⟩
theorem witness_hostFrames_7_one : ∃ (s : State) (q : BitVec 8), Served 0xB3 s ∧ s.hifOpen = true ∧ s.blockOff blkQUE = false ∧ 16 ≤ q.toNat ∧ q.toNat < 32 :=
  ⟨withRing 22 [wait1 1 1, hostDone], 22, by unfold Served; decide +kernel⟩
theorem witness_hostFrames_7_none : ∃ (s : State) (q : BitVec 8), Served 0xB3 s ∧ s.hifOpen = true ∧ s.blockOff blkQUE = false ∧ 16 ≤ q.toNat ∧ q.toNat < 32 :=
  ⟨withRing 22 [wait1 1 1], 22, by unfold Served; decide +kernel⟩
theorem witness_hostFrames_8 : ∃ (s : State), s.hifTakes = true ∧ s.flag Reg.HIF_CFG_QUAD = false :=
  ⟨up, by decide +kernel⟩
theorem witness_hostFrames_9 : ∃ (s : State) (op : BitVec 8), s.hifTakes = true ∧ s.opTaken op.toNat = false :=
  ⟨up, 0x90, by decide +kernel⟩
theorem witness_hostFrames_10 : ∃ (s : State) (op : BitVec 8), Served op.toNat s ∧ op ≠ 0x04 ∧ op ≠ 0x06 ∧ op ≠ 0xB4 :=
  ⟨up, 0xB0, by unfold Served; decide +kernel⟩
theorem witness_hostFrames_11 : ∃ (s : State), Served 0x06 s :=
  ⟨up, by unfold Served; decide +kernel⟩
theorem witness_hostFrames_12 : ∃ (s : State), Served 0x04 s :=
  ⟨eeUp, by unfold Served; decide +kernel⟩
theorem witness_hostFrames_13 : ∃ (s : State), Served 0x01 s :=
  ⟨eeUp, by unfold Served; decide +kernel⟩
theorem witness_hostFrames_14 : ∃ (s : State) (n : Nat), 0 < n ∧ Served 0x05 s :=
  ⟨eeUp, 2, by unfold Served; decide +kernel⟩
theorem witness_hostFrames_15_ok : ∃ (s : State) (a : BitVec 16) (n : Nat), Served 0x03 s ∧ (∀ i, i < n → s.eepromByte ((a.toNat + i) % 0x8000) = stOK) :=
  ⟨eeUp.setBytes (lktBase + 0x1000) [1, 2], 0x9000, 3, by unfold Served; decide +kernel⟩
theorem witness_hostFrames_15_bad : ∃ (s : State) (a : BitVec 16) (n : Nat), Served 0x03 s ∧ s.eepromByte (a.toNat % 0x8000) = stPOLICY :=
  ⟨eeUp, 0, 3, by unfold Served; decide +kernel⟩
theorem witness_hostFrames_16_ok : ∃ (s : State) (a : BitVec 16) (d : List Byte), Served 0x02 s ∧ d ≠ [] ∧ d.length ≤ 64 ∧ s.reg Reg.HIF_EE_WEL = 1 ∧ s.hifOpen = true ∧ (pageWrite (a.toNat % 0x8000) d).all (fun x => s.mayWriteLkt 3 x.1) = true ∧ s.lktRoom (s.byteItems (pageWrite (a.toNat % 0x8000) d)) = true ∧ s.partnerRoom (s.byteItems (pageWrite (a.toNat % 0x8000) d)) = true :=
  ⟨eeUp, 0x103E, [1, 2, 3, 4], by unfold Served; decide +kernel⟩
theorem witness_hostFrames_16_wel : ∃ (s : State) (a : BitVec 16) (d : List Byte), Served 0x02 s ∧ d ≠ [] ∧ d.length ≤ 64 :=
  ⟨eeUp.set Reg.HIF_EE_WEL 0, 0x103E, [1, 2, 3, 4], by unfold Served; decide +kernel⟩
theorem witness_hostFrames_17_ok : ∃ (s : State) (w : List (BitVec 32)), Served 0x90 s ∧ s.hifOpen = true ∧ s.blockOff 4 = false ∧ s.mbx.boxes.length = 8 ∧ w ≠ [] ∧ w.length ≤ 16 :=
  ⟨legacy, [5, 6], by unfold Served; decide +kernel⟩
theorem witness_hostFrames_17_full : ∃ (s : State) (w : List (BitVec 32)), Served 0x90 s ∧ s.hifOpen = true ∧ s.blockOff 4 = false ∧ s.mbx.boxes.length = 8 ∧ w ≠ [] ∧ w.length ≤ 16 :=
  ⟨boxed 1 3 legacy, [5, 6], by unfold Served; decide +kernel⟩
theorem witness_hostFrames_18 : ∃ (s : State) (m : Message), Served 0x91 s ∧ s.hifOpen = true ∧ s.blockOff 4 = false ∧ s.mbx.boxes.length = 8 ∧ s.box 2 = some m ∧ m.sender ≠ 4 :=
  ⟨boxed 2 1 legacy, { sender := 1, words := [1, 2], placedAt := 0 }, by unfold Served; decide +kernel⟩
theorem witness_hostFrames_20 : ∃ (s : State) (m : Nat), s.mayWriteField m Reg.HIF_ERR_CLR_CLR = true :=
  ⟨up.set Reg.HIF_ERR_SHORT 3, 1, by decide +kernel⟩
theorem witness_queuesMailboxesClasps_1_ok : ∃ (s : State) (m : Nat) (q : Nat), ((m = 1 ∨ m = 2)) ∧ q = s.regB Reg.QUE_ENQ_CTL_QUEUE 0 m ∧ q < 16 :=
  ⟨(up.setB Reg.QUE_ENQ_CTL_QUEUE 0 1 6).setB Reg.QUE_BUF_DATA 1 1 7, 1, 6, by decide +kernel⟩
theorem witness_queuesMailboxesClasps_1_full : ∃ (s : State) (m : Nat) (q : Nat), ((m = 1 ∨ m = 2)) ∧ q = s.regB Reg.QUE_ENQ_CTL_QUEUE 0 m ∧ q < 16 ∧ s.depth q ≤ (s.ring q).length :=
  ⟨(fullRing 6).setB Reg.QUE_ENQ_CTL_QUEUE 0 2 6, 2, 6, by decide +kernel⟩
theorem witness_queuesMailboxesClasps_2_one : ∃ (s : State) (m : Nat) (q : Nat), ((m = 1 ∨ m = 2)) ∧ q = s.regB Reg.QUE_DEQ_CTL_QUEUE 0 m ∧ 16 ≤ q ∧ q < 32 :=
  ⟨(withRing 22 [hostDone, { hostDone with flags := 1 }]).setB Reg.QUE_DEQ_CTL_QUEUE 0 1 22, 1, 22, by decide +kernel⟩
theorem witness_queuesMailboxesClasps_2_none : ∃ (s : State) (m : Nat) (q : Nat), ((m = 1 ∨ m = 2)) ∧ q = s.regB Reg.QUE_DEQ_CTL_QUEUE 0 m ∧ 16 ≤ q ∧ q < 32 :=
  ⟨(withRing 22 [hostDone]).setB Reg.QUE_DEQ_CTL_QUEUE 0 1 22, 1, 22, by decide +kernel⟩
theorem witness_queuesMailboxesClasps_3_run : ∃ (s : State) (q : Fin 16) (e : Entry) (l : List Entry), s.ring q.val = e :: l ∧ s.canTake q.val e = true ∧ (cmdRow q.val e.code).isSome = true ∧ True :=
  ⟨{ withRing 6 [wait1 1 1, hostDone] with lkt := { mounted := true } }, 6, wait1 1 1, [hostDone], by decide +kernel⟩
theorem witness_queuesMailboxesClasps_3_unknown : ∃ (s : State) (q : Fin 16) (e : Entry) (l : List Entry), s.ring q.val = e :: l ∧ s.canTake q.val e = true ∧ True :=
  ⟨{ withRing 6 [wait1 99 1, hostDone] with lkt := { mounted := true } }, 6, wait1 99 1, [hostDone], by decide +kernel⟩
theorem witness_queuesMailboxesClasps_3_level : ∃ (s : State) (q : Fin 16) (e : Entry) (l : List Entry), s.ring q.val = e :: l ∧ s.canTake q.val e = true ∧ s.levelOf e.master < 3 ∧ True :=
  ⟨withRing 2 [wait1 1 3], 2, wait1 1 3, [], by decide +kernel⟩
theorem witness_queuesMailboxesClasps_3_off : ∃ (s : State) (q : Fin 16) (e : Entry) (l : List Entry), s.ring q.val = e :: l ∧ s.canTake q.val e = false :=
  ⟨up.set Reg.QUE_CTRL_EN 0 |> fun s => { s with que := (withRing 6 [wait1 1 1]).que }, 6, wait1 1 1, [], by decide +kernel⟩
theorem witness_queuesMailboxesClasps_4 : ∃ (s : State) (q : Fin 16) (r : Running) (c : CmdRow), s.que.running = [r] ∧ r.ring = q.val ∧ r.started = false ∧ q.val < 14 ∧ q.val ≠ 4 ∧ q.val ≠ 5 ∧ cmdRow q.val r.entry.code = some c ∧ c.cls = .bulk :=
  ⟨bulkTaken 100000, 12, cmd 12 1 [], ⟨12, 1, 2, 0xF2, 23, .bulk⟩, by decide +kernel⟩
theorem witness_queuesMailboxesClasps_4_b : ∃ (s : State) (q : Fin 16) (r : Running) (c : CmdRow), s.que.running = [r] ∧ r.ring = q.val ∧ r.started = false ∧ q.val < 14 ∧ q.val ≠ 4 ∧ q.val ≠ 5 ∧ cmdRow q.val r.entry.code = some c ∧ c.cls = .bulk :=
  ⟨bulkTaken 99999, 12, cmd 12 1 [], ⟨12, 1, 2, 0xF2, 23, .bulk⟩, by decide +kernel⟩
theorem witness_queuesMailboxesClasps_5 : ∃ (s : State) (r : Running), s.running 0 1 = some r :=
  ⟨upCmd (cmd 0 1 []), cmd 0 1 [], by decide +kernel⟩
theorem witness_queuesMailboxesClasps_6 : ∃ (s : State) (r : Running), s.running 0 4 = some r :=
  ⟨upCmd (cmd 0 4 []), cmd 0 4 [], by decide +kernel⟩
theorem witness_queuesMailboxesClasps_7_ok : ∃ (s : State) (r : Running), s.running 0 3 = some r ∧ r.started = false :=
  ⟨upCmd (cmd 0 3 (leBytes 6 1000)), cmd 0 3 (leBytes 6 1000), by decide +kernel⟩
theorem witness_queuesMailboxesClasps_7_back : ∃ (s : State) (r : Running), s.running 0 3 = some r ∧ r.started = false ∧ s.rtcMs = some 2000 :=
  ⟨{ withRun up { cmd 0 3 (leBytes 6 1000) with level := 2 } with tim := { rtc := some (2000, 0) } }, { cmd 0 3 (leBytes 6 1000) with level := 2 }, by decide +kernel⟩
theorem witness_queuesMailboxesClasps_8_ok : ∃ (s : State) (r : Running), s.running 13 1 = some r :=
  ⟨upCmd (cmd 13 1 [6, 6]), cmd 13 1 [6, 6], by decide +kernel⟩
theorem witness_queuesMailboxesClasps_8_bad : ∃ (s : State) (r : Running), s.running 13 1 = some r :=
  ⟨upCmd (cmd 13 1 [6, 5]), cmd 13 1 [6, 5], by decide +kernel⟩
theorem witness_queuesMailboxesClasps_8_edge : ∃ (s : State) (r : Running), s.running 13 1 = some r :=
  ⟨upCmd (cmd 13 1 [15, 15]), cmd 13 1 [15, 15], by decide +kernel⟩
theorem witness_queuesMailboxesClasps_8_far : ∃ (s : State) (r : Running), s.running 13 1 = some r :=
  ⟨upCmd (cmd 13 1 [3, 40]), cmd 13 1 [3, 40], by decide +kernel⟩
theorem witness_queuesMailboxesClasps_9 : ∃ (s : State) (r : Running) (x : Bool) (st : BitVec 8) (c : BitVec 8) (d : List Byte), s.que.running = [r] ∧ r.ring = (if x then 15 else 14) :=
  ⟨upCmd (cmd 14 0x80 []), cmd 14 0x80 [], false, 1, 2, [3], by decide +kernel⟩
theorem witness_queuesMailboxesClasps_9_b : ∃ (s : State) (r : Running) (x : Bool) (st : BitVec 8) (c : BitVec 8) (d : List Byte), s.que.running = [r] ∧ r.ring = (if x then 15 else 14) :=
  ⟨upCmd (cmd 15 0x80 []), cmd 15 0x80 [], true, 0, 0, [], by decide +kernel⟩
theorem witness_queuesMailboxesClasps_10_ok : ∃ (s : State) (m : Nat) (d : Nat) (n : Nat), s.mayWriteField m Reg.MBX_TX_CTL_GO = true ∧ s.mbx.boxes.length = 8 ∧ d = s.regB Reg.MBX_TX_CTL_DEST 0 m ∧ n = s.regB Reg.MBX_TX_CTL_LEN 0 m ∧ 0 < n ∧ n ≤ 16 ∧ d < 4 ∧ m ∈ boxSenders d :=
  ⟨id (((up.setB Reg.MBX_TX_CTL_DEST 0 2 0).setB Reg.MBX_TX_CTL_LEN 0 2 2).setB Reg.MBX_TX_DATA 1 2 9), 2, 0, 2, by decide +kernel⟩
theorem witness_queuesMailboxesClasps_10_full : ∃ (s : State) (m : Nat) (d : Nat) (n : Nat), s.mayWriteField m Reg.MBX_TX_CTL_GO = true ∧ s.mbx.boxes.length = 8 ∧ d = s.regB Reg.MBX_TX_CTL_DEST 0 m ∧ n = s.regB Reg.MBX_TX_CTL_LEN 0 m ∧ 0 < n ∧ n ≤ 16 ∧ d < 4 ∧ m ∈ boxSenders d :=
  ⟨boxed 0 2 (((up.setB Reg.MBX_TX_CTL_DEST 0 2 0).setB Reg.MBX_TX_CTL_LEN 0 2 2).setB Reg.MBX_TX_DATA 1 2 9), 2, 0, 2, by decide +kernel⟩
theorem witness_queuesMailboxesClasps_11_mine : ∃ (s : State) (m : Nat) (k : Fin 8) (x : Message), s.box k.val = some x ∧ s.mbx.boxes.length = 8 ∧ boxReceiver k.val = m :=
  ⟨boxed 2 1 up, 3, 2, { sender := 1, words := [1, 2], placedAt := 0 }, by decide +kernel⟩
theorem witness_queuesMailboxesClasps_11_not : ∃ (s : State) (m : Nat) (k : Fin 8) (x : Message), s.box k.val = some x ∧ s.mbx.boxes.length = 8 ∧ boxReceiver k.val ≠ m :=
  ⟨boxed 2 1 up, 2, 2, { sender := 1, words := [1, 2], placedAt := 0 }, by decide +kernel⟩
theorem witness_queuesMailboxesClasps_12 : ∃ (s : State), s.crossing 1 (s.reg Reg.MBX_CFG_CROSS_US) = true ∧ s.mbx.cross.getLsbD 1 = false :=
  ⟨{ boxed 0 3 (boxed 2 1 up) with now := 1000000 }, by decide +kernel⟩
theorem witness_queuesMailboxesClasps_13 : ∃ (s : State) (i : Fin 4), s.crossing i.val (s.reg Reg.MBX_CFG_CROSS_US) = false :=
  ⟨up, 0, by decide +kernel⟩
theorem witness_queuesMailboxesClasps_13_b : ∃ (s : State) (i : Fin 4), s.crossing i.val (s.reg Reg.MBX_CFG_CROSS_US) = false :=
  ⟨up, 3, by decide +kernel⟩
theorem witness_queuesMailboxesClasps_14_free : ∃ (s : State) (m : Nat) (k : Fin 32), ((m = 1 ∨ m = 2 ∨ m = 3)) :=
  ⟨up, 3, 17, by decide +kernel⟩
theorem witness_queuesMailboxesClasps_14_held : ∃ (s : State) (m : Nat) (k : Fin 32), ((m = 1 ∨ m = 2 ∨ m = 3)) :=
  ⟨up.setI Reg.CLASP_OWNER 17 3, 3, 17, by decide +kernel⟩
theorem witness_queuesMailboxesClasps_14_other : ∃ (s : State) (m : Nat) (k : Fin 32), ((m = 1 ∨ m = 2 ∨ m = 3)) :=
  ⟨up.setI Reg.CLASP_OWNER 31 3, 1, 31, by decide +kernel⟩
theorem witness_hostFrames_19 : ∃ (s : State) (a : BitVec 32) (n : BitVec 8) (q : BitVec 8) (b : List Byte) (c : Instr), s.hifTakes = false ∧ c ∈ [.regRead a n, .regWrite a [] false, .push q b false, .pop q, .wren, .wrdi, .wrsr, .rdsr 1, .read 0 1, .write 0 b, .mbGet, .status] :=
  ⟨dozing, 0, 0, 0, [], .wren, by decide +kernel⟩

/-! ## Witnesses of the statements of chapter 16 -/
/-- Keying. -/
def linkKeying (k : List Byte) : State := { (List.range 16).foldl (fun t w => t.setI Reg.TSU_PEER_KEY_KEY w (ofLe (slice pub11 (4 * w) 4))) ((keyOn.set Reg.TSU_CTRL_PAIRED 1).set Reg.TSU_PEER_DEV_LO_LO 78) with tsu := { link := .keying, kLink := k } }
/-- A partner's HELLO. -/
def helloOf (dev id : Nat) : List Byte := sealFrame [] true { typ := 1, flags := 0, lseq := 0, ack := 0, txc := 0, payload := beBytes 8 dev ++ List.replicate 16 3 ++ leBytes 4 0 ++ [BitVec.ofNat 8 id, 0, 0, 0] }
/-- That frame, opened. -/
def helloFrame (dev id : Nat) : Frame := { typ := 1, flags := 0, lseq := 0, ack := 0, txc := 0, payload := beBytes 8 dev ++ List.replicate 16 3 ++ leBytes 4 0 ++ [BitVec.ofNat 8 id, 0, 0, 0] }
/-- An uplink frame of type t, prefix 3. -/
def upl (t : Byte) (p : List Byte) : List Byte := let b := BitVec.ofNat 8 (p.length + 1) :: t :: p; b ++ beBytes 2 (geletCrc 3 b)
/-- A session of this device, tag 3, over a pair's link. -/
def pairSess (single : Option Nat) : State := { pairUp true with glt := { sess := some { number := 1, tag := 3, template := 0, mode := 0, issuer := .core, openedAt := 0, single := single } } }
/-- Stage of a resynchronisation. -/
def staged (n : Nat) (items : List MirrorItem) : State := { pairUp true with tsu := { (pairUp true).tsu with stage := n, synced := false, items := items } }
theorem witness_pairLink_2 : ∃ (s : State), s.tsu.link = .training ∧ s.rngServes = true :=
  ⟨{ up with tsu := { link := .training } }, by decide +kernel⟩
theorem witness_pairLink_3 : ∃ (s : State), s.tsu.link ≠ .training :=
  ⟨pairUp true, by decide +kernel⟩
theorem witness_pairLink_4_dev : ∃ (s : State) (b : List Byte) (f : Frame), s.tsu.link = .keying ∧ openFrame s.tsu.kLink (!s.tsu.secondary) b = .ok f ∧ f.typ = 1 ∧ f.payload.length = 32 ∧ ofBe (slice f.payload 0 8) ≠ s.peerDev :=
  ⟨linkKeying [], beBytes 56 0x100200000000000000000000000000000000000000000000000004F0303030303030303030303030303030300000000010000001E52D204, helloFrame 79 1, by decide +kernel⟩
theorem witness_pairLink_4_id : ∃ (s : State) (b : List Byte) (f : Frame), s.tsu.link = .keying ∧ openFrame s.tsu.kLink (!s.tsu.secondary) b = .ok f ∧ f.typ = 1 ∧ f.payload.length = 32 ∧ ofBe (slice f.payload 0 8) = s.peerDev ∧ f.num 28 1 = ofBool s.tsu.secondary :=
  ⟨linkKeying [], beBytes 56 0x100200000000000000000000000000000000000000000000000004E03030303030303030303030303030303000000000000000075A5E519, helloFrame 78 0, by decide +kernel⟩
theorem witness_pairLink_4_ok : ∃ (s : State) (b : List Byte) (f : Frame), s.tsu.link = .keying ∧ openFrame s.tsu.kLink (!s.tsu.secondary) b = .ok f ∧ f.typ = 1 ∧ f.payload.length = 32 ∧ ofBe (slice f.payload 0 8) = s.peerDev ∧ f.num 28 1 ≠ ofBool s.tsu.secondary ∧ s.pkeServes = true ∧ s.slotCause 253 useECDH [2] 0 = 0 ∧ (s.slot 253).count < (s.slot 253).ceiling ∧ ecdh (ofBe (s.slot 253).key) s.peerKey ≠ none :=
  ⟨{ linkKeying [] with key := { (linkKeying []).key with slots := [(253, ecSlot 7 useECDH), (254, ecSlot 7 4)] } }, beBytes 56 0x100200000000000000000000000000000000000000000000000004E03030303030303030303030303030303000000000100000010C259A1, helloFrame 78 1, by decide +kernel⟩
theorem witness_pairLink_5 : ∃ (s : State), s.tsu.link = .keying ∧ s.reg Reg.TSU_STAT_REFUSE ≠ 0 ∧ s.tsu.helloAt + 1000000 ≤ s.now :=
  ⟨{ (linkKeying [1]).set Reg.TSU_STAT_REFUSE 2 with now := 1000000 }, by decide +kernel⟩
theorem witness_pairLink_6_ok : ∃ (s : State) (b : List Byte), s.tsu.link = .keying ∧ s.tsu.kLink ≠ [] ∧ (match openFrame s.tsu.kLink (!s.tsu.secondary) b with | .ok f => f.typ == 2 | _ => false) = true ∧ True :=
  ⟨linkKeying (List.replicate 16 7), beBytes 40 0x2000000010000000000000009000000000000006081AFE6B4C890E871709E26425F39DBDA73D661, by decide +kernel⟩
theorem witness_pairLink_6_tag : ∃ (s : State) (b : List Byte), s.tsu.link = .keying ∧ s.tsu.kLink ≠ [] ∧ openFrame s.tsu.kLink (!s.tsu.secondary) b = .error .tag :=
  ⟨linkKeying (List.replicate 16 7), beBytes 40 0x200000000000000000000000000000000000000E802A11A54E8039AF674BEF41B830319B85632F9, by decide +kernel⟩
theorem witness_pairLink_7_crc : ∃ (s : State) (b : List Byte), ((s.tsu.link = .keying ∨ s.tsu.link = .up)) ∧ openFrame s.tsu.kLink (!s.tsu.secondary) b = .error .crc :=
  ⟨pairUp true, List.replicate 40 1, by decide +kernel⟩
theorem witness_pairLink_7_tag : ∃ (s : State) (b : List Byte), ((s.tsu.link = .keying ∨ s.tsu.link = .up)) ∧ openFrame s.tsu.kLink (!s.tsu.secondary) b = .error .tag :=
  ⟨{ pairUp true with tsu := { (pairUp true).tsu with partnerLost := true } }, beBytes 40 0x300000000000000000000000000000000000000AD77FAF100D9D29AADC587BF46B99EF28380232B, by decide +kernel⟩
theorem witness_pairLink_8 : ∃ (s : State) (x : Nat), s.tsu.link = .down ∧ s.tsu.retrainAt = some x ∧ s.flag Reg.TSU_CTRL_EN = true ∧ x ≤ s.now :=
  ⟨{ up.set Reg.TSU_CTRL_EN 1 with now := 5, tsu := { link := .down, retrainAt := some 5 } }, 5, by decide +kernel⟩
theorem witness_pairLink_9 : ∃ (s : State), s.tsu.link = .up :=
  ⟨pairUp true, by decide +kernel⟩
theorem witness_pairLink_10 : ∃ (s : State) (x : Frame), s.tsu.link = .up ∧ s.tsu.unacked = [x] ∧ s.tsu.ackAt + 45 ≤ s.now :=
  ⟨{ pairUp true with tsu := { (pairUp true).tsu with unacked := [{ typ := 0x13, flags := 1, lseq := 1, ack := 0, txc := 3, payload := [1] }] }, now := 45 }, { typ := 0x13, flags := 1, lseq := 1, ack := 0, txc := 3, payload := [1] }, by decide +kernel⟩
theorem witness_pairLink_11 : ∃ (s : State) (b : List Byte) (f : Frame), Arrives 3 b f s :=
  ⟨pairUp true, beBytes 72 0x300200001000000000000000900000000000000620C6874C67163C426CC64E18DD2BE4B150943522E2B2B017B194047BFA600E3D8ED2F3A38C04E695B56AB8E068DF8E400BE12DF, gotFrame (pairUp true) 3 (beBytes 72 0x300200001000000000000000900000000000000620C6874C67163C426CC64E18DD2BE4B150943522E2B2B017B194047BFA600E3D8ED2F3A38C04E695B56AB8E068DF8E400BE12DF), by unfold Arrives; decide +kernel⟩
theorem witness_pairLink_12 : ∃ (s : State), s.tsu.link = .up :=
  ⟨pairUp true, by decide +kernel⟩
theorem witness_pairLink_13 : ∃ (s : State), s.paired = true ∧ ((s.tsu.link ≠ .up ∨ s.tsu.lastRx + 4800 ≤ s.now)) ∧ s.tsu.partnerLost = false ∧ PairQuiet s :=
  ⟨{ pairUp true with now := 4800 }, by unfold PairQuiet; decide +kernel⟩
theorem witness_pairLink_14 : ∃ (s : State), s.tsu.link = .up ∧ s.now < s.tsu.lastRx + 4800 :=
  ⟨{ pairUp true with now := 4799 }, by decide +kernel⟩
theorem witness_pairLink_15_no : ∃ (s : State) (l : Bool), s.paired = true ∧ s.tsu.secondary = true ∧ s.tsu.role = .active ∧ s.tsu.drivesArb = true ∧ s.tsu.testsDone = 0 ∧ s.tsu.claimedAt + 1000 ≤ s.now ∧ s.gov.ticket = none ∧ s.vrd.pending = [] :=
  ⟨{ pairUp true with tsu := { (pairUp true).tsu with secondary := true, drivesArb := true }, now := 1000 }, false, by decide +kernel⟩
theorem witness_pairLink_15_yes : ∃ (s : State) (l : Bool), s.paired = true ∧ s.tsu.secondary = true ∧ s.tsu.role = .active ∧ s.tsu.drivesArb = true ∧ s.tsu.testsDone = 0 ∧ s.tsu.claimedAt + 1000 ≤ s.now ∧ s.gov.ticket = none ∧ s.vrd.pending = [] :=
  ⟨{ pairUp true with tsu := { (pairUp true).tsu with secondary := true, drivesArb := true }, now := 1000 }, true, by decide +kernel⟩
theorem witness_pairLink_16 : ∃ (s : State) (h : Bool), s.tsu.drivesArb = false ∧ s.tsu.arbHigh ≠ h :=
  ⟨pairUp false, false, by decide +kernel⟩
theorem witness_pairLink_17 : ∃ (s : State), s.paired = true ∧ s.tsu.role = .standby ∧ s.tsu.drivesArb = false ∧ s.tsu.arbHigh = true ∧ s.tsu.arbHighSince + 900 ≤ s.now ∧ s.mainUp = true ∧ s.pins.wpLow = false ∧ s.lkt.worn = false ∧ ((∃ x, s.ringOf 1 = some x ∧ x.worn = false)) ∧ s.lktRoom [.ring 1 (s.ringValue 1 + 65536)] = true ∧ s.mainUp = true :=
  ⟨{ pairUp false with now := 900, lkt := { rings := [{ num := 1, base := 16, pages := 16, newest := 6 }] } }, by decide +kernel, by decide +kernel, by decide +kernel, by decide +kernel, by decide +kernel, by decide +kernel, by decide +kernel, by decide +kernel, ⟨_, rfl, rfl⟩, by decide +kernel, by decide +kernel⟩
theorem witness_pairLink_18 : ∃ (s : State), ((s.tsu.role ≠ .standby ∨ s.tsu.arbHigh = false ∨ s.now < s.tsu.arbHighSince + 900)) ∧ s.now < s.tsu.arbHighSince + 900 :=
  ⟨{ pairUp false with now := 899 }, by decide +kernel⟩
theorem witness_pairLink_18_b : ∃ (s : State), ((s.tsu.role ≠ .standby ∨ s.tsu.arbHigh = false ∨ s.now < s.tsu.arbHighSince + 900)) :=
  ⟨pairUp true, by decide +kernel⟩
theorem witness_pairLink_19_wait : ∃ (s : State) (m : Nat), s.mayWriteField m Reg.TSU_CTL_HANDOVER = true ∧ s.tsu.handover = none :=
  ⟨{ pairUp true with tsu := { (pairUp true).tsu with items := [{ mseq := 3, ring := 32, deadline := 100 }] } }, 1, by decide +kernel⟩
theorem witness_pairLink_19_now : ∃ (s : State) (m : Nat), s.mayWriteField m Reg.TSU_CTL_HANDOVER = true ∧ s.tsu.handover = none :=
  ⟨pairUp true, 1, by decide +kernel⟩
theorem witness_pairLink_19_no : ∃ (s : State) (m : Nat), s.mayWriteField m Reg.TSU_CTL_HANDOVER = true ∧ s.tsu.handover = none :=
  ⟨pairUp false, 1, by decide +kernel⟩
theorem witness_pairLink_20 : ∃ (s : State) (x : Nat), s.tsu.handover = some x ∧ x + 100000 ≤ s.now :=
  ⟨{ pairUp true with tsu := { (pairUp true).tsu with handover := some 0 }, now := 100000 }, 0, by decide +kernel⟩
theorem witness_pairLink_21 : ∃ (s : State) (b : List Byte) (f : Frame), Arrives 0x40 b f s ∧ f.num 0 1 = 2 ∧ (heardOf 0x40 b s).isStandby = true :=
  ⟨pairUp false, beBytes 44 0x4001040001000000000000000900000000000000D2EFBEC527785A11F0B2CA0F2A7B98CB3E336B8EE64E0C0E, gotFrame (pairUp false) 64 (beBytes 44 0x4001040001000000000000000900000000000000D2EFBEC527785A11F0B2CA0F2A7B98CB3E336B8EE64E0C0E), by unfold Arrives heardOf; decide +kernel⟩
theorem witness_pairLink_22_ok : ∃ (s : State) (m : Nat), s.mayWriteField m Reg.TSU_CTL_RST_PARTNER = true ∧ s.tsu.lastRx + 50000 ≤ s.now :=
  ⟨{ pairUp true with tsu := { (pairUp true).tsu with drivesArb := true }, now := 50000 }, 1, by decide +kernel⟩
theorem witness_pairLink_22_no : ∃ (s : State) (m : Nat), s.mayWriteField m Reg.TSU_CTL_RST_PARTNER = true :=
  ⟨pairUp true, 1, by decide +kernel⟩
theorem witness_pairLink_23 : ∃ (s : State) (m : Nat), s.mayWriteField m Reg.TSU_ERR_CLR_CLR = true :=
  ⟨up.set Reg.TSU_ERR_CRC 3, 1, by decide +kernel⟩
theorem witness_pairLink_1 : ∃ (s : State), s.tsu.link = .training ∧ s.rngServes = false :=
  ⟨{ pairUp true with crypto := {}, tsu := { link := .training } }, by decide +kernel⟩
theorem witness_pairMirroring_1_ok : ∃ (s : State) (b : List Byte) (f : Frame) (g : Nat), Arrives 0x10 b f s ∧ f.items = [(g, 0, f.num 12 8)] ∧ (heardOf 0x10 b s).lktRoom [.group g (f.num 12 8)] = true :=
  ⟨{ pairUp false with lkt := { mounted := true } }, beBytes 60 0x1001140001000000000000000900000000000000D1EFBEC50EDBB729B0AE7559FE290CF26FE248421978F9BF3958A7923CD6A9FE1ABE924D7FA74C4D, gotFrame ({ pairUp false with lkt := { mounted := true } }) 16 (beBytes 60 0x1001140001000000000000000900000000000000D1EFBEC50EDBB729B0AE7559FE290CF26FE248421978F9BF3958A7923CD6A9FE1ABE924D7FA74C4D), 0x200, by unfold Arrives heardOf; decide +kernel⟩
theorem witness_pairMirroring_1_no : ∃ (s : State) (b : List Byte) (f : Frame) (g : Nat), Arrives 0x10 b f s ∧ f.num 0 4 ≠ (heardOf 0x10 b s).tsu.mseqApplied + 1 :=
  ⟨{ pairUp false with lkt := { mounted := true } }, beBytes 60 0x1001140001000000000000000900000000000000D2EFBEC50EDBB729B0AE7559FE290CF26FE2484283F17F586FA42132083DD7E65C21DE9476732022, gotFrame ({ pairUp false with lkt := { mounted := true } }) 16 (beBytes 60 0x1001140001000000000000000900000000000000D2EFBEC50EDBB729B0AE7559FE290CF26FE2484283F17F586FA42132083DD7E65C21DE9476732022), 0x200, by unfold Arrives heardOf; decide +kernel⟩
theorem witness_pairMirroring_2 : ∃ (s : State) (b : List Byte) (f : Frame), Arrives 0x11 b f s ∧ f.num 0 4 = (heardOf 0x11 b s).tsu.mseqApplied + 1 ∧ f.num 4 2 = 1 ∧ bit (f.num 6 2) 0 = false ∧ (heardOf 0x11 b s).tsu.stage ≠ 1 ∧ (heardOf 0x11 b s).tsu.search = none ∧ (heardOf 0x11 b s).jnl.mounted = true ∧ (heardOf 0x11 b s).jnl.foreign_ = false ∧ (heardOf 0x11 b s).jnl.noNand = false ∧ (heardOf 0x11 b s).jnl.top ≤ f.num 8 6 :=
  ⟨{ pairUp false with jnl := { mounted := true, next := 5 } }, beBytes 176 0x1101880001000000000000000900000000000000D1EFBEC50EDBB729B9AC7559B3290AF469E44E445308755E5C5E4C7475C99A97CEAB2A33161D8E9389D0B8113CE431E861A8908126D14A42328251F3AD0AD1040AF702E3098ADF4C9D945230948D78408E39060E4EE52F92A1B644F9029445AAC33A0F3EF874204302414935B5DE10F1F320B4166BECD12D14D4A008C5C49D91BFBD7024296A8ED89444B546088A7F707F6EC63D94770919C1FBD057, gotFrame ({ pairUp false with jnl := { mounted := true, next := 5 } }) 17 (beBytes 176 0x1101880001000000000000000900000000000000D1EFBEC50EDBB729B9AC7559B3290AF469E44E445308755E5C5E4C7475C99A97CEAB2A33161D8E9389D0B8113CE431E861A8908126D14A42328251F3AD0AD1040AF702E3098ADF4C9D945230948D78408E39060E4EE52F92A1B644F9029445AAC33A0F3EF874204302414935B5DE10F1F320B4166BECD12D14D4A008C5C49D91BFBD7024296A8ED89444B546088A7F707F6EC63D94770919C1FBD057), by unfold Arrives heardOf; decide +kernel⟩
theorem witness_pairMirroring_3 : ∃ (s : State) (b : List Byte) (f : Frame), Arrives 0x12 b f s ∧ f.num 0 4 = (heardOf 0x12 b s).tsu.mseqApplied + 1 ∧ f.num 4 4 = 0 ∧ f.payload.length < 200 :=
  ⟨pairUp false, beBytes 148 0x12016C0001000000000000000900000000000000D1EFBEC50FDBB729B6AA735FB52F0AF469E44E445308755E5C5E4C7475C99A97CEAB2A33161D8E9389D0B8113CE431E861A8908126D14A42328251F3AD0AD1040AF702E3098ADF4C9D945230948D78408E39060E4EE52F92A1B644F9029445AAC33A0F3EF874204302414935060364AA39E276EE14F2C1B7A5C89BB30FCD85CC, gotFrame (pairUp false) 18 (beBytes 148 0x12016C0001000000000000000900000000000000D1EFBEC50FDBB729B6AA735FB52F0AF469E44E445308755E5C5E4C7475C99A97CEAB2A33161D8E9389D0B8113CE431E861A8908126D14A42328251F3AD0AD1040AF702E3098ADF4C9D945230948D78408E39060E4EE52F92A1B644F9029445AAC33A0F3EF874204302414935060364AA39E276EE14F2C1B7A5C89BB30FCD85CC), by unfold Arrives heardOf; decide +kernel⟩
theorem witness_pairMirroring_4 : ∃ (s : State) (b : List Byte) (f : Frame), Arrives 0x13 b f s ∧ f.num 4 1 = stOK ∧ (heardOf 0x13 b s).jnl.progOk = false ∧ (heardOf 0x13 b s).lkt.flushed = [] ∧ (heardOf 0x13 b s).jnl.prog = [] ∧ (heardOf 0x13 b s).crd.learn = none ∧ (heardOf 0x13 b s).tsu.setSent = none ∧ (heardOf 0x13 b s).tsu.handover = none ∧ ((∃ x ∈ (heardOf 0x13 b s).tsu.items, x.mseq = f.num 0 4)) :=
  ⟨{ pairUp true with tsu := { (pairUp true).tsu with items := [{ mseq := 3, ring := 32, deadline := 100 }] } }, beBytes 48 0x130108000100000000000000090000000000000060086B76C47361C6ABC0AD76FDA3F864D888BF290212983A3B94BFC3, gotFrame ({ pairUp true with tsu := { (pairUp true).tsu with items := [{ mseq := 3, ring := 32, deadline := 100 }] } }) 19 (beBytes 48 0x130108000100000000000000090000000000000060086B76C47361C6ABC0AD76FDA3F864D888BF290212983A3B94BFC3), by unfold Arrives heardOf; decide +kernel⟩
theorem witness_pairMirroring_5_late : ∃ (s : State) (x : MirrorItem), s.tsu.items = [x] ∧ s.lkt.writes = [] :=
  ⟨{ pairUp true with tsu := { (pairUp true).tsu with items := [{ mseq := 3, ring := 32, deadline := 100 }] }, now := 100 }, { mseq := 3, ring := 32, deadline := 100 }, by decide +kernel⟩
theorem witness_pairMirroring_5_early : ∃ (s : State) (x : MirrorItem), s.tsu.items = [x] ∧ s.lkt.writes = [] :=
  ⟨{ pairUp true with tsu := { (pairUp true).tsu with items := [{ mseq := 3, ring := 32, deadline := 100 }] }, now := 99 }, { mseq := 3, ring := 32, deadline := 100 }, by decide +kernel⟩
theorem witness_pairMirroring_6 : ∃ (s : State) (b : List Byte) (f : Frame), Arrives 0x20 b f s ∧ f.num 0 1 ≤ 1 ∧ 0 < f.num 1 1 ∧ f.num 1 1 ≤ 16 ∧ (heardOf 0x20 b s).mbx.boxes.length = 8 ∧ (heardOf 0x20 b s).box (f.num 0 1) = none :=
  ⟨pairUp true, beBytes 52 0x20010C0001000000000000000900000000000000620A6B76C37361C62CCE66E3F902B84FE16C13DB21AAE20F7F5D9FB466C95D69, gotFrame (pairUp true) 32 (beBytes 52 0x20010C0001000000000000000900000000000000620A6B76C37361C62CCE66E3F902B84FE16C13DB21AAE20F7F5D9FB466C95D69), by unfold Arrives heardOf; decide +kernel⟩
theorem witness_pairMirroring_7 : ∃ (s : State) (b : List Byte) (f : Frame), Arrives 0x21 b f s ∧ (heardOf 0x21 b s).isStandby = false ∧ (heardOf 0x21 b s).jnl.foreign_ = false ∧ (heardOf 0x21 b s).jnl.noNand = false ∧ (heardOf 0x21 b s).jnl.q46.length < 256 :=
  ⟨pairUp true, beBytes 108 0x210144000100000000000000090000000000000003086876C17664C321CB63E68AD5B94C120E4455292C2C067C1E4740B8A107E4D7082886F04A57E62B03FB55341E51C586716B197E6BB024BB221AE7C8B23B2533470B15A2A571E28276E108C215B5AE68753429D497C751, gotFrame (pairUp true) 33 (beBytes 108 0x210144000100000000000000090000000000000003086876C17664C321CB63E68AD5B94C120E4455292C2C067C1E4740B8A107E4D7082886F04A57E62B03FB55341E51C586716B197E6BB024BB221AE7C8B23B2533470B15A2A571E28276E108C215B5AE68753429D497C751), by unfold Arrives heardOf; decide +kernel⟩
theorem witness_pairMirroring_8 : ∃ (s : State) (b : List Byte) (f : Frame), Arrives 0x30 b f s ∧ (heardOf 0x30 b s).isStandby = true ∧ (heardOf 0x30 b s).tsu.peerSess = none ∧ f.payload.length = 8 :=
  ⟨pairUp false, beBytes 48 0x3001080001000000000000000900000000000000D9EFBEC508DBB428E49B8AEFAB105B0C36A4394F18F54EC9085B4CDA, gotFrame (pairUp false) 48 (beBytes 48 0x3001080001000000000000000900000000000000D9EFBEC508DBB428E49B8AEFAB105B0C36A4394F18F54EC9085B4CDA), by unfold Arrives heardOf; decide +kernel⟩
theorem witness_pairMirroring_9 : ∃ (s : State) (b : List Byte) (f : Frame), Arrives 0x31 b f s ∧ (heardOf 0x31 b s).isStandby = true :=
  ⟨pairUp false, beBytes 60 0x3101140001000000000000000900000000000000D9EFBEC50CD8B42AB3AF765AB02A0FF16CE14B412CB5AE0EE802CEF803554AA4BA215FF229A6106B, gotFrame (pairUp false) 49 (beBytes 60 0x3101140001000000000000000900000000000000D9EFBEC50CD8B42AB3AF765AB02A0FF16CE14B412CB5AE0EE802CEF803554AA4BA215FF229A6106B), by unfold Arrives heardOf; decide +kernel⟩
theorem witness_pairMirroring_10 : ∃ (s : State) (b : List Byte) (f : Frame) (x : PeerBurst), Arrives 0x32 b f s ∧ (heardOf 0x32 b s).tsu.bursts = [x] ∧ x.valid = none ∧ x.fret = low 16 (f.num 0 4) :=
  ⟨{ pairUp true with tsu := { (pairUp true).tsu with bursts := [{ fret := 9, index := 2 }] } }, beBytes 48 0x32010800010000000000000009000000000000006A086B76C57361C66060CE2B8968C228BFB84C016AF6D4B799D363FF, gotFrame ({ pairUp true with tsu := { (pairUp true).tsu with bursts := [{ fret := 9, index := 2 }] } }) 50 (beBytes 48 0x32010800010000000000000009000000000000006A086B76C57361C66060CE2B8968C228BFB84C016AF6D4B799D363FF), { fret := 9, index := 2 }, by unfold Arrives heardOf; decide +kernel⟩
theorem witness_pairMirroring_11 : ∃ (s : State) (x : PeerBurst), s.tsu.bursts = [x] ∧ x.valid = none ∧ s.glt.sess = none :=
  ⟨{ pairUp true with tsu := { (pairUp true).tsu with bursts := [{ fret := 9, index := 2 }] } }, { fret := 9, index := 2 }, by decide +kernel⟩
theorem witness_pairMirroring_12 : ∃ (s : State) (b : List Byte) (f : Frame) (p : Nat × Nat × Nat × Nat), Arrives 0x33 b f s ∧ (heardOf 0x33 b s).tsu.peerSess = some p ∧ (heardOf 0x33 b s).ukeys p.1 (f.num 0 2) ≠ none ∧ (heardOf 0x33 b s).uwb.waiting.length < 8 :=
  ⟨{ pairUp false with tsu := { (pairUp false).tsu with peerSess := some (9, 7, 3, 1) }, uwb := { keys := [{ session := 9, handle := 0x1234, tag := 3, kSes := [], kSts := [], vSts := [] }] } }, beBytes 48 0x3301080001000000000000000900000000000000E4FDBBC56BDBB7296626999DD951711C4F112AF9688B9A2610126120, gotFrame ({ pairUp false with tsu := { (pairUp false).tsu with peerSess := some (9, 7, 3, 1) }, uwb := { keys := [{ session := 9, handle := 0x1234, tag := 3, kSes := [], kSts := [], vSts := [] }] } }) 51 (beBytes 48 0x3301080001000000000000000900000000000000E4FDBBC56BDBB7296626999DD951711C4F112AF9688B9A2610126120), (9, 7, 3, 1), by unfold Arrives heardOf; decide +kernel⟩
theorem witness_pairMirroring_13 : ∃ (s : State) (b : List Byte) (f : Frame), Arrives 0x34 b f s ∧ (heardOf 0x34 b s).isStandby = false ∧ 4 ≤ f.num 6 1 ∧ f.num 6 1 ≤ 7 ∧ (heardOf 0x34 b s).tsu.rangeGo = [] :=
  ⟨pairUp true, beBytes 88 0x34013000010000000000000009000000000000006A086B76F06164C725CF67E28ED1BD48160A40512D282802781A4344BCA503E0D30C2C82F44E53E22F07FF51301A55C152E0B2E48B03ADBEC43F49137DC34211697F0FE1, gotFrame (pairUp true) 52 (beBytes 88 0x34013000010000000000000009000000000000006A086B76F06164C725CF67E28ED1BD48160A40512D282802781A4344BCA503E0D30C2C82F44E53E22F07FF51301A55C152E0B2E48B03ADBEC43F49137DC34211697F0FE1), by unfold Arrives heardOf; decide +kernel⟩
theorem witness_pairMirroring_14_83 : ∃ (s : State) (b : List Byte) (r : List Byte) (f : Frame) (g : GSess), Arrives 0x35 b f s ∧ (heardOf 0x35 b s).glt.sess = some g ∧ (heardOf 0x35 b s).isStandby = false ∧ r = (f.payload.drop 6).take (((f.payload.drop 6).headD 0).toNat + 3) ∧ (uplink g.tag r).1 = true ∧ (uplink g.tag r).2.1 = 0x83 :=
  ⟨pairSess none, beBytes 70 0x35011E00010000000000000009000000000000006A086B76C473744525CF67E28ED1BD48160A40512D282802781A4344E5CFCD8476E01AE4BA9D8CE97BCF5EBBB439950C80D7, beBytes 24 0x15830101010101010101010101010101010101010101586B, gotFrame (pairSess none) 0x35 (beBytes 70 0x35011E00010000000000000009000000000000006A086B76C473744525CF67E28ED1BD48160A40512D282802781A4344E5CFCD8476E01AE4BA9D8CE97BCF5EBBB439950C80D7), (((pairSess none).frameIn 0x35 (beBytes 70 0x35011E00010000000000000009000000000000006A086B76C473744525CF67E28ED1BD48160A40512D282802781A4344E5CFCD8476E01AE4BA9D8CE97BCF5EBBB439950C80D7)).2.glt.sess).getD { number := 0, tag := 0, template := 0, mode := 0, issuer := .core, openedAt := 0 }, by unfold Arrives heardOf; decide +kernel⟩
theorem witness_pairMirroring_14_85 : ∃ (s : State) (b : List Byte) (r : List Byte) (f : Frame) (g : GSess), Arrives 0x35 b f s ∧ (heardOf 0x35 b s).glt.sess = some g ∧ (heardOf 0x35 b s).isStandby = false ∧ r = (f.payload.drop 6).take (((f.payload.drop 6).headD 0).toNat + 3) ∧ (uplink g.tag r).1 = true ∧ (uplink g.tag r).2.1 = 0x85 :=
  ⟨pairSess none, beBytes 60 0x35011400010000000000000009000000000000006A086B76C4736A4325CF67E28ED1BD48160A4EDB08DF3008037896CFE1D782B474AC8BE66DC2CDCD, beBytes 14 0xB85010101010101010101010F8B, gotFrame (pairSess none) 0x35 (beBytes 60 0x35011400010000000000000009000000000000006A086B76C4736A4325CF67E28ED1BD48160A4EDB08DF3008037896CFE1D782B474AC8BE66DC2CDCD), (((pairSess none).frameIn 0x35 (beBytes 60 0x35011400010000000000000009000000000000006A086B76C4736A4325CF67E28ED1BD48160A4EDB08DF3008037896CFE1D782B474AC8BE66DC2CDCD)).2.glt.sess).getD { number := 0, tag := 0, template := 0, mode := 0, issuer := .core, openedAt := 0 }, by unfold Arrives heardOf; decide +kernel⟩
theorem witness_pairMirroring_14_81 : ∃ (s : State) (b : List Byte) (r : List Byte) (f : Frame) (g : GSess), Arrives 0x35 b f s ∧ (heardOf 0x35 b s).glt.sess = some g ∧ (heardOf 0x35 b s).isStandby = false ∧ r = (f.payload.drop 6).take (((f.payload.drop 6).headD 0).toNat + 3) ∧ (uplink g.tag r).1 = true ∧ (uplink g.tag r).2.1 = 0x81 :=
  ⟨pairSess none, beBytes 52 0x35010C00010000000000000009000000000000006A086B76C473624736FA1D4DAD3316578961AAAE70D3A7BE6E22EAB00412626F, beBytes 6 0x38112347BAE, gotFrame (pairSess none) 0x35 (beBytes 52 0x35010C00010000000000000009000000000000006A086B76C473624736FA1D4DAD3316578961AAAE70D3A7BE6E22EAB00412626F), (((pairSess none).frameIn 0x35 (beBytes 52 0x35010C00010000000000000009000000000000006A086B76C473624736FA1D4DAD3316578961AAAE70D3A7BE6E22EAB00412626F)).2.glt.sess).getD { number := 0, tag := 0, template := 0, mode := 0, issuer := .core, openedAt := 0 }, by unfold Arrives heardOf; decide +kernel⟩
theorem witness_pairMirroring_14_81s : ∃ (s : State) (b : List Byte) (r : List Byte) (f : Frame) (g : GSess), Arrives 0x35 b f s ∧ (heardOf 0x35 b s).glt.sess = some g ∧ (heardOf 0x35 b s).isStandby = false ∧ r = (f.payload.drop 6).take (((f.payload.drop 6).headD 0).toNat + 3) ∧ (uplink g.tag r).1 = true ∧ (uplink g.tag r).2.1 = 0x81 :=
  ⟨pairSess (some 4), beBytes 52 0x35010C00010000000000000009000000000000006A086B76C473624736FA1D4DAD3316578961AAAE70D3A7BE6E22EAB00412626F, beBytes 6 0x38112347BAE, gotFrame (pairSess (some 4)) 0x35 (beBytes 52 0x35010C00010000000000000009000000000000006A086B76C473624736FA1D4DAD3316578961AAAE70D3A7BE6E22EAB00412626F), (((pairSess (some 4)).frameIn 0x35 (beBytes 52 0x35010C00010000000000000009000000000000006A086B76C473624736FA1D4DAD3316578961AAAE70D3A7BE6E22EAB00412626F)).2.glt.sess).getD { number := 0, tag := 0, template := 0, mode := 0, issuer := .core, openedAt := 0 }, by unfold Arrives heardOf; decide +kernel⟩
theorem witness_pairMirroring_15_sb : ∃ (s : State) (b : List Byte) (f : Frame), Arrives 0x40 b f s :=
  ⟨pairUp false, beBytes 42 0x4001020001000000000000000900000000000000D3EA0417D3E7A424FAA8102184BF4EA23493795C2B8B, gotFrame (pairUp false) 64 (beBytes 42 0x4001020001000000000000000900000000000000D3EA0417D3E7A424FAA8102184BF4EA23493795C2B8B), by unfold Arrives; decide +kernel⟩
theorem witness_pairMirroring_15_act : ∃ (s : State) (b : List Byte) (f : Frame), Arrives 0x40 b f s :=
  ⟨pairUp true, beBytes 42 0x400102000100000000000000090000000000000067090E2CE6554501090D0583013810B045371E0CACC2, gotFrame (pairUp true) 64 (beBytes 42 0x400102000100000000000000090000000000000067090E2CE6554501090D0583013810B045371E0CACC2), by unfold Arrives; decide +kernel⟩
theorem witness_pairMirroring_16_one : ∃ (s : State), s.tsu.role = .active ∧ s.tsu.link = .up :=
  ⟨staged 1 [], by decide +kernel⟩
theorem witness_pairMirroring_16_three : ∃ (s : State), s.tsu.role = .active ∧ s.tsu.link = .up :=
  ⟨staged 3 [], by decide +kernel⟩
theorem witness_pairMirroring_16_wait : ∃ (s : State), s.tsu.role = .active ∧ s.tsu.link = .up :=
  ⟨staged 1 [{ mseq := 3, ring := 32, deadline := 100 }], by decide +kernel⟩
theorem witness_frameRoundTrip_2_c : ∃ (k : List Byte) (d : Bool) (f : Frame), f.typ < 2 ^ 8 ∧ f.flags < 2 ^ 8 ∧ f.lseq < 2 ^ 32 ∧ f.ack < 2 ^ 32 ∧ f.txc < 2 ^ 64 :=
  ⟨List.replicate 16 7, true, { typ := 3, flags := 0, lseq := 1, ack := 2, txc := 9, payload := [1, 2] }, by decide +kernel⟩

/-! ## Witnesses of the statements of chapter 17 -/
/-- A signed firmware section without a body: the signature of scalar 31. -/
def fwSection : List Byte := beBytes 64 0x757AA7E9228031C12B1618A0A6F580525F994A6D295F0CAAEF593A1E65617C2DA9CB8BB1256E4761146E7CF5B2D11590815CCAE25A7D73ED9DD87AA72F7E9617
/-- An entry of the section table. -/
def tableEntry (typ flags off : Nat) (b : List Byte) : List Byte := leBytes 2 typ ++ leBytes 2 flags ++ leBytes 4 off ++ leBytes 4 b.length ++ leBytes 4 0 ++ sha256 b
/-- An image of a generation, signed by scalar 5: two firmware sections, of which the application's may be live, and three empty ones. -/
def image (gen live : Nat) : List Byte :=
  let h := leBytes 4 0x4554444F ++ [1, 0x43] ++ leBytes 2 5 ++ leBytes 4 gen ++ leBytes 4 0 ++ leBytes 4 896 ++ leBytes 8 0 ++ List.replicate 36 0
  let t := tableEntry 1 0 512 fwSection ++ tableEntry 2 live 768 fwSection ++ tableEntry 3 0 768 [] ++ tableEntry 5 0 512 [] ++ tableEntry 6 0 512 []
  let b := fit 512 (h ++ t) ++ fit 256 fwSection ++ fwSection
  b ++ ecdsaSign 5 (sha256 b) []
/-- Two images. -/
def imgOld : List Byte := beBytes 896 0x4F4454450143050004000000000000008003000000000000000000000000000000000000000000000000000000000000000000000000000000000000000000000100000000020000400000000000000014DE4E74F7910B7EFE9E459C6AE5D4E8828B4EB91D70CB45015FCFFD4CB0C4A60200010000030000400000000000000014DE4E74F7910B7EFE9E459C6AE5D4E8828B4EB91D70CB45015FCFFD4CB0C4A603000000000300000000000000000000E3B0C44298FC1C149AFBF4C8996FB92427AE41E4649B934CA495991B7852B85505000000000200000000000000000000E3B0C44298FC1C149AFBF4C8996FB92427AE41E4649B934CA495991B7852B85506000000000200000000000000000000E3B0C44298FC1C149AFBF4C8996FB92427AE41E4649B934CA495991B7852B85500000000000000000000000000000000000000000000000000000000000000000000000000000000000000000000000000000000000000000000000000000000000000000000000000000000000000000000000000000000000000000000000000000000000000000000000000000000000000000000000000000000000000000000000000000000000000000000000000000000000000000000000000000000000000000000000000000000000000000000000000000000000000000000000000000000000000000000000000000000757AA7E9228031C12B1618A0A6F580525F994A6D295F0CAAEF593A1E65617C2DA9CB8BB1256E4761146E7CF5B2D11590815CCAE25A7D73ED9DD87AA72F7E9617000000000000000000000000000000000000000000000000000000000000000000000000000000000000000000000000000000000000000000000000000000000000000000000000000000000000000000000000000000000000000000000000000000000000000000000000000000000000000000000000000000000000000000000000000000000000000000000000000000000000000000000000000000000000000000000000000000000000000000000000000000000000000000000000757AA7E9228031C12B1618A0A6F580525F994A6D295F0CAAEF593A1E65617C2DA9CB8BB1256E4761146E7CF5B2D11590815CCAE25A7D73ED9DD87AA72F7E961726D0CA882E911A9D9CE1E3C40DFA20616D74EA6BED85E8C8F1592548565C37D90612699D7EABBB2E4F87A8DDC70194375EEBE2A2E3C06E62B33D680F09A7B7DF
def imgNew : List Byte := beBytes 896 0x4F4454450143050005000000000000008003000000000000000000000000000000000000000000000000000000000000000000000000000000000000000000000100000000020000400000000000000014DE4E74F7910B7EFE9E459C6AE5D4E8828B4EB91D70CB45015FCFFD4CB0C4A60200010000030000400000000000000014DE4E74F7910B7EFE9E459C6AE5D4E8828B4EB91D70CB45015FCFFD4CB0C4A603000000000300000000000000000000E3B0C44298FC1C149AFBF4C8996FB92427AE41E4649B934CA495991B7852B85505000000000200000000000000000000E3B0C44298FC1C149AFBF4C8996FB92427AE41E4649B934CA495991B7852B85506000000000200000000000000000000E3B0C44298FC1C149AFBF4C8996FB92427AE41E4649B934CA495991B7852B85500000000000000000000000000000000000000000000000000000000000000000000000000000000000000000000000000000000000000000000000000000000000000000000000000000000000000000000000000000000000000000000000000000000000000000000000000000000000000000000000000000000000000000000000000000000000000000000000000000000000000000000000000000000000000000000000000000000000000000000000000000000000000000000000000000000000000000000000000000000757AA7E9228031C12B1618A0A6F580525F994A6D295F0CAAEF593A1E65617C2DA9CB8BB1256E4761146E7CF5B2D11590815CCAE25A7D73ED9DD87AA72F7E9617000000000000000000000000000000000000000000000000000000000000000000000000000000000000000000000000000000000000000000000000000000000000000000000000000000000000000000000000000000000000000000000000000000000000000000000000000000000000000000000000000000000000000000000000000000000000000000000000000000000000000000000000000000000000000000000000000000000000000000000000000000000000000000000000757AA7E9228031C12B1618A0A6F580525F994A6D295F0CAAEF593A1E65617C2DA9CB8BB1256E4761146E7CF5B2D11590815CCAE25A7D73ED9DD87AA72F7E96178FBA9EA14D2A55C631B9A3F0406623E7D4ED7D073260851EC419AC5B44F3C85B29D40564E201732CC05570640B95E716C11EFB41FAEA0213D2B876885E74B234
/-- The new image with a byte of a section changed. -/
def imgHurt : List Byte := beBytes 896 0x4F4454450143050005000000000000008003000000000000000000000000000000000000000000000000000000000000000000000000000000000000000000000100000000020000400000000000000014DE4E74F7910B7EFE9E459C6AE5D4E8828B4EB91D70CB45015FCFFD4CB0C4A60200010000030000400000000000000014DE4E74F7910B7EFE9E459C6AE5D4E8828B4EB91D70CB45015FCFFD4CB0C4A603000000000300000000000000000000E3B0C44298FC1C149AFBF4C8996FB92427AE41E4649B934CA495991B7852B85505000000000200000000000000000000E3B0C44298FC1C149AFBF4C8996FB92427AE41E4649B934CA495991B7852B85506000000000200000000000000000000E3B0C44298FC1C149AFBF4C8996FB92427AE41E4649B934CA495991B7852B85500000000000000000000000000000000000000000000000000000000000000000000000000000000000000000000000000000000000000000000000000000000000000000000000000000000000000000000000000000000000000000000000000000000000000000000000000000000000000000000000000000000000000000000000000000000000000000000000000000000000000000000000000000000000000000000000000000000000000000000000000000000000000000000000000000000000000000000000000000000757AA7E9228031C1091618A0A6F580525F994A6D295F0CAAEF593A1E65617C2DA9CB8BB1256E4761146E7CF5B2D11590815CCAE25A7D73ED9DD87AA72F7E9617000000000000000000000000000000000000000000000000000000000000000000000000000000000000000000000000000000000000000000000000000000000000000000000000000000000000000000000000000000000000000000000000000000000000000000000000000000000000000000000000000000000000000000000000000000000000000000000000000000000000000000000000000000000000000000000000000000000000000000000000000000000000000000000000757AA7E9228031C12B1618A0A6F580525F994A6D295F0CAAEF593A1E65617C2DA9CB8BB1256E4761146E7CF5B2D11590815CCAE25A7D73ED9DD87AA72F7E96178FBA9EA14D2A55C631B9A3F0406623E7D4ED7D073260851EC419AC5B44F3C85B29D40564E201732CC05570640B95E716C11EFB41FAEA0213D2B876885E74B234
/-- The new image with a byte of its signature changed. -/
def imgBad : List Byte := beBytes 896 0x4F4454450143050005000000000000008003000000000000000000000000000000000000000000000000000000000000000000000000000000000000000000000100000000020000400000000000000014DE4E74F7910B7EFE9E459C6AE5D4E8828B4EB91D70CB45015FCFFD4CB0C4A60200010000030000400000000000000014DE4E74F7910B7EFE9E459C6AE5D4E8828B4EB91D70CB45015FCFFD4CB0C4A603000000000300000000000000000000E3B0C44298FC1C149AFBF4C8996FB92427AE41E4649B934CA495991B7852B85505000000000200000000000000000000E3B0C44298FC1C149AFBF4C8996FB92427AE41E4649B934CA495991B7852B85506000000000200000000000000000000E3B0C44298FC1C149AFBF4C8996FB92427AE41E4649B934CA495991B7852B85500000000000000000000000000000000000000000000000000000000000000000000000000000000000000000000000000000000000000000000000000000000000000000000000000000000000000000000000000000000000000000000000000000000000000000000000000000000000000000000000000000000000000000000000000000000000000000000000000000000000000000000000000000000000000000000000000000000000000000000000000000000000000000000000000000000000000000000000000000000757AA7E9228031C12B1618A0A6F580525F994A6D295F0CAAEF593A1E65617C2DA9CB8BB1256E4761146E7CF5B2D11590815CCAE25A7D73ED9DD87AA72F7E9617000000000000000000000000000000000000000000000000000000000000000000000000000000000000000000000000000000000000000000000000000000000000000000000000000000000000000000000000000000000000000000000000000000000000000000000000000000000000000000000000000000000000000000000000000000000000000000000000000000000000000000000000000000000000000000000000000000000000000000000000000000000000000000000000757AA7E9228031C12B1618A0A6F580525F994A6D295F0CAAEF593A1E65617C2DA9CB8BB1256E4761146E7CF5B2D11590815CCAE25A7D73ED9DD87AA72F7E96178FBA9EA14D2A55C607B9A3F0406623E7D4ED7D073260851EC419AC5B44F3C85B29D40564E201732CC05570640B95E716C11EFB41FAEA0213D2B876885E74B234
/-- A device that runs the old image from bank A. -/
def imgUp (b : List Byte) : State := { keyOn with mem := ((List.range 64).map (fun i => (lktBase + 0xC0 + i, pub5.getD i 0))).filter (fun c => c.2 != 0), fwKey := pub31, nor := { imageA := imgOld, imageB := b, running := some 0 } }
/-- With bytes to stage in the shared partition. -/
def toStage (b : List Byte) : State := (((imgUp []).setBytes sharedLo b).set Reg.CFG_UPD_ADDR_ADDR sharedLo).set Reg.CFG_UPD_LEN_LEN b.length
/-- In recovery. -/
def inRecov (b : List Byte) : State := { (toStage b).set Reg.SYS_RECOV_LENGTH b.length with pwr := { phase := .recovery } }
/-- A running image command. -/
def imgCmd (c : Nat) (p : List Byte) (b : List Byte) : State := withRun (imgUp b) (cmd 15 c p)
/-- A drain. -/
def draining (mode : Nat) : Drain := { mode := mode, cmd := 5, since := 0 }
/-- A device that drains. -/
def inDrain (mode : Nat) : State := { withRun (imgUp imgNew) (cmd 15 0x81 []) with nor := { (imgUp imgNew).nor with drain := some (draining mode) } }
/-- A NOR job. -/
def job (a : NorArea) : NorJob := { area := a, data := imgNew, cmd := some 5 }
/-- What is read where an image was put. -/
theorem staged_bytes (b : List Byte) {s : State} {a n : Nat} (h : s.mem = ((imgUp []).setBytes sharedLo b).mem) (ha : a = sharedLo) (hn : n = b.length) : s.bytes a n = b := by
  rw [ha, hn, State.bytes_congr h]; exact State.bytes_setBytes _ _ _
/-- The memory with a staged image. -/
theorem toStage_mem (b : List Byte) : (toStage b).mem = ((imgUp []).setBytes sharedLo b).mem := rfl
theorem run_mem (b : List Byte) (r : Running) : (withRun (toStage b) r).mem = ((imgUp []).setBytes sharedLo b).mem := rfl
theorem inRecov_mem (b : List Byte) : (inRecov b).mem = ((imgUp []).setBytes sharedLo b).mem := rfl
/-- Two states with the same Locket shadow, anchors, device number and firmware key judge an image alike. -/
theorem cause_congr {s t : State} (b : List Byte) (h : ∀ c, lktBase ≤ c → s.byte c = t.byte c) (hl : s.lkt = t.lkt) (hk : s.key = t.key) (hd : s.devnum = t.devnum)
    (hf : s.fwKey = t.fwKey) : s.imageCause b = t.imageCause b := by
  have hb : ∀ n a, lktBase ≤ a → s.bytes a n = t.bytes a n := by
    intro n
    induction n with
    | zero => intro a _; rfl
    | succ n ih => intro a ha; simp only [State.bytes]; rw [h a ha, ih (a + 1) (by omega)]
  have hg : ∀ g, s.group g = t.group g := fun g => by simp only [State.group, State.word]; rw [hb _ _ (by omega)]
  have hw : ∀ a n, s.lktBytes a n = t.lktBytes a n := fun a n => hb _ _ (by omega)
  have hs : ∀ a, s.areaStart a = t.areaStart a := fun a => by simp only [State.areaStart]; rw [hg]
  have hda : s.areaDamaged 0 = t.areaDamaged 0 := by simp only [State.areaDamaged, State.damagedGroup, State.damagedRange]; rw [hl, hs]
  have hr : s.anchorRecord = t.anchorRecord := by simp only [State.anchorRecord]; rw [hs, hw]
  have ho : s.overlayFloor = t.overlayFloor := by simp only [State.overlayFloor, State.lktWord]; rw [hs, hw]
  have he : s.anchorEmpty = t.anchorEmpty := by simp only [State.anchorEmpty]; rw [hda, hr]
  have hm : s.makerKey = t.makerKey := by simp only [State.makerKey, State.anchorBytes, hk, hr, he]
  have hc : s.headerCause b = t.headerCause b := by simp only [State.headerCause, ho, hd]
  have hi : s.imageKey b = t.imageKey b := by unfold State.imageKey State.anchorEmpty; rw [hda, hr, hm]
  have hw : ∀ n, s.firmwareOk b n = t.firmwareOk b n := fun n => by simp only [State.firmwareOk, hf]
  simp only [State.imageCause, hc, hi, hw]
/-- A staged image leaves the Locket's shadow alone. -/
theorem staged_out (b : List Byte) {s : State} (h : s.mem = ((imgUp []).setBytes sharedLo b).mem) (hn : sharedLo + b.length ≤ lktBase) (c : Nat) (hc : lktBase ≤ c) :
    s.byte c = (imgUp []).byte c := by
  have e : s.byte c = ((imgUp []).setBytes sharedLo b).byte c := by simp only [State.byte, h]
  rw [e]; exact State.byte_setBytes_out _ _ _ _ (Or.inr (by omega))
theorem toStage_cause (b : List Byte) (h : sharedLo + b.length ≤ lktBase) : (toStage b).imageCause b = (imgUp []).imageCause b :=
  by
  obtain ⟨m, e⟩ := State.setBytes_only (imgUp []) sharedLo b
  apply cause_congr b (staged_out b (toStage_mem b) h) <;> simp only [withRun, inRecov, toStage, e] <;> rfl
theorem run_cause (b : List Byte) (r : Running) (h : sharedLo + b.length ≤ lktBase) : (withRun (toStage b) r).imageCause b = (imgUp []).imageCause b :=
  by
  obtain ⟨m, e⟩ := State.setBytes_only (imgUp []) sharedLo b
  apply cause_congr b (staged_out b (run_mem b r) h) <;> simp only [withRun, inRecov, toStage, e] <;> rfl
theorem inRecov_cause (b : List Byte) (h : sharedLo + b.length ≤ lktBase) : (inRecov b).imageCause b = (imgUp []).imageCause b :=
  by
  obtain ⟨m, e⟩ := State.setBytes_only (imgUp []) sharedLo b
  apply cause_congr b (staged_out b (inRecov_mem b) h) <;> simp only [inRecov, toStage, e, State.set_lkt, State.set_key, State.set_devnum, State.set_fwKey]
theorem witness_imagesAndUpdates_1 : ∃ (s : State), s.pwr.phase = .boot :=
  ⟨inPhase .boot, by decide +kernel⟩
theorem witness_imagesAndUpdates_1_b : ∃ (s : State), s.pwr.phase = .boot :=
  ⟨(inPhase .boot).set Reg.SYS_BOOT_SOURCE 2, by decide +kernel⟩
theorem witness_imagesAndUpdates_2 : ∃ (s : State), s.pwr.phase ≠ .boot :=
  ⟨up, by decide +kernel⟩
theorem witness_imagesAndUpdates_3 : ∃ (s : State) (m : Nat), m ≠ 1 ∧ m ≤ 7 :=
  ⟨inPhase .boot, 2, by decide +kernel⟩
theorem witness_imagesAndUpdates_4 : ∃ (s : State), s.paired = true ∧ s.tsu.role = .undecided ∧ s.mainUp = true :=
  ⟨{ up.set Reg.TSU_CTRL_PAIRED 1 with now := 1000, tsu := { role := .undecided, arbHigh := false, arbHighSince := 0, secondary := false } }, by decide +kernel⟩
theorem witness_imagesAndUpdates_4_b : ∃ (s : State), s.paired = true ∧ s.tsu.role = .undecided ∧ s.mainUp = true :=
  ⟨{ up.set Reg.TSU_CTRL_PAIRED 1 with now := 900, tsu := { role := .undecided, arbHigh := true, arbHighSince := 0, secondary := false } }, by decide +kernel⟩
theorem witness_imagesAndUpdates_4_c : ∃ (s : State), s.paired = true ∧ s.tsu.role = .undecided ∧ s.mainUp = true :=
  ⟨{ up.set Reg.TSU_CTRL_PAIRED 1 with now := 899, tsu := { role := .undecided, arbHigh := true, arbHighSince := 0, secondary := false } }, by decide +kernel⟩
theorem witness_imagesAndUpdates_4_d : ∃ (s : State), s.paired = true ∧ s.tsu.role = .undecided ∧ s.mainUp = true :=
  ⟨{ up.set Reg.TSU_CTRL_PAIRED 1 with now := 9900, tsu := { role := .undecided, arbHigh := true, arbHighSince := 0, secondary := true } }, by decide +kernel⟩
theorem witness_imagesAndUpdates_4_e : ∃ (s : State), s.paired = true ∧ s.tsu.role = .undecided ∧ s.mainUp = true :=
  ⟨{ up.set Reg.TSU_CTRL_PAIRED 1 with now := 9899, tsu := { role := .undecided, arbHigh := true, arbHighSince := 0, secondary := true } }, by decide +kernel⟩
theorem witness_imagesAndUpdates_5_ok : ∃ (s : State) (m : Nat) (c : Nat), s.mayWriteField m Reg.SYS_RECOV_GO = true ∧ s.pwr.phase = .recovery ∧ s.flag Reg.SYS_RECOV_GO = false ∧ s.reg Reg.SYS_RECOV_LENGTH ≤ 1572864 ∧ s.imageCause (s.bytes sharedLo (s.reg Reg.SYS_RECOV_LENGTH)) = c :=
  ⟨(inRecov imgNew), 1, 0, by decide +kernel, by decide +kernel, by decide +kernel, by decide +kernel, (congrArg (State.imageCause (inRecov imgNew)) (staged_bytes imgNew (inRecov_mem imgNew) (by decide +kernel) (by decide +kernel))).trans ((inRecov_cause imgNew (by decide +kernel)).trans (by decide +kernel))⟩
theorem witness_imagesAndUpdates_5_bad : ∃ (s : State) (m : Nat) (c : Nat), s.mayWriteField m Reg.SYS_RECOV_GO = true ∧ s.pwr.phase = .recovery ∧ s.flag Reg.SYS_RECOV_GO = false ∧ s.reg Reg.SYS_RECOV_LENGTH ≤ 1572864 ∧ s.imageCause (s.bytes sharedLo (s.reg Reg.SYS_RECOV_LENGTH)) = c ∧ c ≠ 0 :=
  ⟨(inRecov imgHurt), 1, 4, by decide +kernel, by decide +kernel, by decide +kernel, by decide +kernel, (congrArg (State.imageCause (inRecov imgHurt)) (staged_bytes imgHurt (inRecov_mem imgHurt) (by decide +kernel) (by decide +kernel))).trans ((inRecov_cause imgHurt (by decide +kernel)).trans (by decide +kernel)), by decide +kernel⟩
theorem witness_imagesAndUpdates_6_ok : ∃ (s : State), s.flag Reg.CFG_UPD_CTL_STAGE = false ∧ inShared (s.reg Reg.CFG_UPD_ADDR_ADDR) (s.reg Reg.CFG_UPD_LEN_LEN) = true ∧ s.imageCause (s.bytes (s.reg Reg.CFG_UPD_ADDR_ADDR) (s.reg Reg.CFG_UPD_LEN_LEN)) = 0 :=
  ⟨(toStage imgNew), by decide +kernel, by decide +kernel, (congrArg (State.imageCause (toStage imgNew)) (staged_bytes imgNew (toStage_mem imgNew) (by decide +kernel) (by decide +kernel))).trans ((toStage_cause imgNew (by decide +kernel)).trans (by decide +kernel))⟩
theorem witness_imagesAndUpdates_6_bad : ∃ (s : State), s.flag Reg.CFG_UPD_CTL_STAGE = false ∧ inShared (s.reg Reg.CFG_UPD_ADDR_ADDR) (s.reg Reg.CFG_UPD_LEN_LEN) = true ∧ s.imageCause (s.bytes (s.reg Reg.CFG_UPD_ADDR_ADDR) (s.reg Reg.CFG_UPD_LEN_LEN)) = 1 :=
  ⟨toStage (imgNew.set 0 1), by decide +kernel⟩
theorem witness_imagesAndUpdates_7_level : ∃ (s : State) (r : Running), s.imgCmd 0x80 = some r ∧ s.runningSeq 15 r.entry.seq = some r :=
  ⟨withRun (toStage imgNew) { cmd 15 0x80 (leBytes 4 sharedLo ++ leBytes 4 imgNew.length) with level := 2 }, { cmd 15 0x80 (leBytes 4 sharedLo ++ leBytes 4 imgNew.length) with level := 2 }, by decide +kernel⟩
theorem witness_imagesAndUpdates_7_ok : ∃ (s : State) (r : Running), s.imgCmd 0x80 = some r ∧ s.runningSeq 15 r.entry.seq = some r ∧ s.rangeOk r.entry.master (r.num 0 4) (r.num 4 4) = true ∧ s.imageCause (s.bytes (r.num 0 4) (r.num 4 4)) = 0 :=
  ⟨(withRun (toStage imgNew) (cmd 15 0x80 (leBytes 4 sharedLo ++ leBytes 4 imgNew.length))), (cmd 15 0x80 (leBytes 4 sharedLo ++ leBytes 4 imgNew.length)), by decide +kernel, by decide +kernel, by decide +kernel, (congrArg (State.imageCause (withRun (toStage imgNew) (cmd 15 0x80 (leBytes 4 sharedLo ++ leBytes 4 imgNew.length)))) (staged_bytes imgNew (run_mem imgNew (cmd 15 0x80 (leBytes 4 sharedLo ++ leBytes 4 imgNew.length))) (by decide +kernel) (by decide +kernel))).trans ((run_cause imgNew (cmd 15 0x80 (leBytes 4 sharedLo ++ leBytes 4 imgNew.length)) (by decide +kernel)).trans (by decide +kernel))⟩
theorem witness_imagesAndUpdates_7_bad : ∃ (s : State) (r : Running), s.imgCmd 0x80 = some r ∧ s.runningSeq 15 r.entry.seq = some r ∧ s.rangeOk r.entry.master (r.num 0 4) (r.num 4 4) = true ∧ s.imageCause (s.bytes (r.num 0 4) (r.num 4 4)) = 5 :=
  ⟨(withRun (toStage imgBad) (cmd 15 0x80 (leBytes 4 sharedLo ++ leBytes 4 imgNew.length))), (cmd 15 0x80 (leBytes 4 sharedLo ++ leBytes 4 imgNew.length)), by decide +kernel, by decide +kernel, by decide +kernel, (congrArg (State.imageCause (withRun (toStage imgBad) (cmd 15 0x80 (leBytes 4 sharedLo ++ leBytes 4 imgNew.length)))) (staged_bytes imgBad (run_mem imgBad (cmd 15 0x80 (leBytes 4 sharedLo ++ leBytes 4 imgNew.length))) (by decide +kernel) (by decide +kernel))).trans ((run_cause imgBad (cmd 15 0x80 (leBytes 4 sharedLo ++ leBytes 4 imgNew.length)) (by decide +kernel)).trans (by decide +kernel))⟩
theorem witness_imagesAndUpdates_8_12 : ∃ (s : State) (r : Running), s.imgCmd 0x81 = some r ∧ 3 ≤ r.level ∧ s.nor.drain = none ∧ s.imageCause (s.imageBank s.idleBank) ≠ 0 :=
  ⟨imgCmd 0x81 [1] [], cmd 15 0x81 [1], by decide +kernel⟩
theorem witness_imagesAndUpdates_8_8 : ∃ (s : State) (r : Running), s.imgCmd 0x81 = some r ∧ 3 ≤ r.level ∧ s.nor.drain = none ∧ s.imageCause (s.imageBank s.idleBank) = 0 ∧ s.liveCause.1 = 8 :=
  ⟨imgCmd 0x81 [2] imgOld, cmd 15 0x81 [2], by decide +kernel⟩
theorem witness_imagesAndUpdates_8_9 : ∃ (s : State) (r : Running), s.imgCmd 0x81 = some r ∧ 3 ≤ r.level ∧ s.nor.drain = none :=
  ⟨{ imgCmd 0x81 [1] imgNew with gov := { rel := some { assertedAt := 0, form := 1, running := false, grant := 0 } } }, cmd 15 0x81 [1], by decide +kernel⟩
theorem witness_imagesAndUpdates_8_ok : ∃ (s : State) (r : Running), s.imgCmd 0x81 = some r ∧ 3 ≤ r.level ∧ s.nor.drain = none ∧ s.imageCause (s.imageBank s.idleBank) = 0 :=
  ⟨imgCmd 0x81 [1] imgNew, cmd 15 0x81 [1], by decide +kernel⟩
theorem witness_imagesAndUpdates_8_live : ∃ (s : State) (r : Running), s.imgCmd 0x81 = some r ∧ 3 ≤ r.level ∧ s.nor.drain = none ∧ s.imageCause (s.imageBank s.idleBank) = 0 ∧ s.liveCause.1 = 0 :=
  ⟨imgCmd 0x81 [2] imgNew, cmd 15 0x81 [2], by decide +kernel⟩
theorem witness_imagesAndUpdates_9 : ∃ (s : State) (r : Running), s.imgCmd 0x82 = some r :=
  ⟨imgCmd 0x82 [] [], cmd 15 0x82 [], by decide +kernel⟩
theorem witness_imagesAndUpdates_10_one : ∃ (s : State) (d : Drain), s.nor.drain = some d ∧ s.drained = true :=
  ⟨inDrain 1, draining 1, by decide +kernel⟩
theorem witness_imagesAndUpdates_10_two : ∃ (s : State) (d : Drain), s.nor.drain = some d ∧ s.drained = true :=
  ⟨inDrain 2, draining 2, by decide +kernel⟩
theorem witness_imagesAndUpdates_10_wait : ∃ (s : State) (d : Drain), s.nor.drain = some d ∧ s.drained = false :=
  ⟨{ inDrain 1 with lkt := { backlog := [.group 1] } }, draining 1, by decide +kernel⟩
theorem witness_imagesAndUpdates_10_refused : ∃ (s : State) (d : Drain), s.nor.drain = some d ∧ s.runningSeq 15 d.cmd = some (cmd 15 0x81 []) :=
  ⟨{ inDrain 1 with gov := { rel := some { assertedAt := 0, form := 1, running := false, grant := 0 } } }, draining 1, by decide +kernel⟩
theorem witness_imagesAndUpdates_10_late : ∃ (s : State) (d : Drain), s.nor.drain = some d ∧ s.runningSeq 15 d.cmd = some (cmd 15 0x81 []) :=
  ⟨{ inDrain 1 with now := 2000000 }, draining 1, by decide +kernel⟩
theorem witness_imagesAndUpdates_11_bad : ∃ (s : State), s.liveCause.1 ≠ 0 :=
  ⟨imgUp [], by decide +kernel⟩
theorem witness_imagesAndUpdates_11_ok : ∃ (s : State), s.liveCause.1 = 0 :=
  ⟨{ imgUp imgNew with lkt := { grants := [{ master := 2, region := 3, write := true, since := 0 }] } }, by decide +kernel⟩
theorem witness_imagesAndUpdates_12_set : ∃ (s : State) (j : NorJob), s.nor.jobs = [j] :=
  ⟨{ up with nor := { jobs := [job .setCopy] } }, job .setCopy, by decide +kernel⟩
theorem witness_imagesAndUpdates_12_image : ∃ (s : State) (j : NorJob), s.nor.jobs = [j] ∧ s.runningSeq 15 5 = some (cmd 15 0x80 []) :=
  ⟨{ withRun up (cmd 15 0x80 []) with nor := { jobs := [job (.image 1)] } }, job (.image 1), by decide +kernel⟩
theorem witness_imagesAndUpdates_12_vault : ∃ (s : State) (j : NorJob), s.nor.jobs = [j] ∧ s.key.vaultJob.isSome = true :=
  ⟨{ up with nor := { jobs := [job (.vault 0)] }, key := { vaultJob := some { gen := 3, bank := 0, hash := (sha256 imgNew).take 24, zero := [] } } }, job (.vault 0), by decide +kernel⟩

/-! ## Witnesses of the statements of chapter 18 -/
/-- TMP watching every sensor. -/
def tmpOn : State := up.set Reg.TMP_CTRL_EN 63
/-- Without a supply, on hold-up. -/
def tmpOff : State := { fwKey := [], pwr := { phase := .off, aonUp := true, causes := 2 }, regs := tmpOn.regs }
/-- Watchdog 0 running. -/
def wdgOn (c : Nat) : State := (up.setI Reg.TMP_WDG_CFG_EN c 1).setI Reg.TMP_WDG_CFG_TIMEOUT c 1
theorem witness_faultsAndTamper_1_same : ∃ (s : State) (d : BitVec 16) (r : BitVec 16), s.sensorActive 0 = true :=
  ⟨{ tmpOn with tmp := { meshRun := 2 } }, 5, 5, by decide +kernel⟩
theorem witness_faultsAndTamper_1_two : ∃ (s : State) (d : BitVec 16) (r : BitVec 16), s.sensorActive 0 = true :=
  ⟨{ tmpOn with tmp := { meshRun := 1 } }, 5, 6, by decide +kernel⟩
theorem witness_faultsAndTamper_1_three : ∃ (s : State) (d : BitVec 16) (r : BitVec 16), s.sensorActive 0 = true :=
  ⟨{ tmpOff with tmp := { meshRun := 2 } }, 0xFF00, 0x00FF, by decide +kernel⟩
theorem witness_faultsAndTamper_2_again : ∃ (s : State) (k : Fin 6) (v : BitVec 16), s.sensorActive k.val = true ∧ bit (s.reg Reg.TMP_LATCH_LATCH) k.val = true :=
  ⟨tmpOn.set Reg.TMP_LATCH_LATCH 2, 1, 7, by decide +kernel⟩
theorem witness_faultsAndTamper_2_record : ∃ (s : State) (k : Fin 6) (v : BitVec 16), s.sensorActive k.val = true ∧ s.tmpResp k.val = 0 :=
  ⟨tmpOn, 5, 7, by decide +kernel⟩
theorem witness_faultsAndTamper_2_all : ∃ (s : State) (k : Fin 6) (v : BitVec 16), s.sensorActive k.val = true :=
  ⟨{ ((tmpOn.setI Reg.TMP_RESP_LOCK 3 1).setI Reg.TMP_RESP_RST 3 1).setI Reg.TMP_RESP_ZERO 3 1 with key := { slots := [(9, aesSlot 0 0)] } }, 3, 7, by decide +kernel⟩
theorem witness_faultsAndTamper_3 : ∃ (s : State) (x : Nat), s.tmp.reset = some x ∧ s.awake = true ∧ x + 19000 ≤ s.now :=
  ⟨{ up with now := 19000, tmp := { reset := some 0, locked := true }, que := { running := [cmd 4 1 []] } }, 0, by decide +kernel⟩
theorem witness_faultsAndTamper_4 : ∃ (s : State), s.tmp.reset = none :=
  ⟨up, by decide +kernel⟩
theorem witness_faultsAndTamper_5_0x5A : ∃ (s : State) (m : Nat) (c : Fin 2) (v : BitVec 8), s.mayWriteField m Reg.TMP_WDG_KICK_KEY = true ∧ s.wdgRuns c.val = true ∧ (s.wdg c.val).primed = false :=
  ⟨wdgOn 0, 1, 0, 0x5A, by decide +kernel⟩
theorem witness_faultsAndTamper_5_0xA5 : ∃ (s : State) (m : Nat) (c : Fin 2) (v : BitVec 8), s.mayWriteField m Reg.TMP_WDG_KICK_KEY = true ∧ s.wdgRuns c.val = true :=
  ⟨wdgOn 0, 1, 0, 0xA5, by decide +kernel⟩
theorem witness_faultsAndTamper_5_0x11 : ∃ (s : State) (m : Nat) (c : Fin 2) (v : BitVec 8), s.mayWriteField m Reg.TMP_WDG_KICK_KEY = true ∧ s.wdgRuns c.val = true :=
  ⟨wdgOn 0, 1, 0, 0x11, by decide +kernel⟩
theorem witness_faultsAndTamper_5_primed : ∃ (s : State) (m : Nat) (c : Fin 2) (v : BitVec 8), s.mayWriteField m Reg.TMP_WDG_KICK_KEY = true ∧ s.wdgRuns c.val = true ∧ (s.wdg c.val).primed = true :=
  ⟨{ wdgOn 1 with now := 5, tmp := { wdg1 := { loadedAt := 0, primed := true } } }, 1, 1, 0xA5, by decide +kernel⟩
theorem witness_faultsAndTamper_6_warn : ∃ (s : State) (c : Fin 2), s.wdgRuns c.val = true :=
  ⟨{ wdgOn 0 with now := 100000 }, 0, by decide +kernel⟩
theorem witness_faultsAndTamper_6_early : ∃ (s : State) (c : Fin 2), s.wdgRuns c.val = true ∧ s.now < (s.wdg c.val).loadedAt + s.wdgLimit c.val :=
  ⟨wdgOn 0, 0, by decide +kernel⟩
theorem witness_faultsAndTamper_6_late : ∃ (s : State) (c : Fin 2), s.wdgRuns c.val = true ∧ (s.wdg c.val).loadedAt + s.wdgLimit c.val ≤ s.now :=
  ⟨{ wdgOn 0 with now := 100000000 }, 0, by decide +kernel⟩
theorem witness_faultsAndTamper_7_5 : ∃ (s : State) (n : Fin 32), s.awake = true ∧ n.val < 31 ∧ n.val ∉ [blkPWR, blkCLK, blkTMP, blkLKT, blkAON] :=
  ⟨{ up with que := { running := [cmd 4 1 [], cmd 7 1 [], cmd 10 1 [], cmd 12 1 []] } }, 5, by decide +kernel⟩
theorem witness_faultsAndTamper_7_6 : ∃ (s : State) (n : Fin 32), s.awake = true ∧ n.val < 31 ∧ n.val ∉ [blkPWR, blkCLK, blkTMP, blkLKT, blkAON] :=
  ⟨{ up with que := { running := [cmd 4 1 [], cmd 7 1 [], cmd 10 1 [], cmd 12 1 []] } }, 6, by decide +kernel⟩
theorem witness_faultsAndTamper_7_7 : ∃ (s : State) (n : Fin 32), s.awake = true ∧ n.val < 31 ∧ n.val ∉ [blkPWR, blkCLK, blkTMP, blkLKT, blkAON] :=
  ⟨{ up with que := { running := [cmd 4 1 [], cmd 7 1 [], cmd 10 1 [], cmd 12 1 []] } }, 7, by decide +kernel⟩
theorem witness_faultsAndTamper_7_10 : ∃ (s : State) (n : Fin 32), s.awake = true ∧ n.val < 31 ∧ n.val ∉ [blkPWR, blkCLK, blkTMP, blkLKT, blkAON] :=
  ⟨{ up with que := { running := [cmd 4 1 [], cmd 7 1 [], cmd 10 1 [], cmd 12 1 []] } }, 10, by decide +kernel⟩
theorem witness_faultsAndTamper_7_14 : ∃ (s : State) (n : Fin 32), s.awake = true ∧ n.val < 31 ∧ n.val ∉ [blkPWR, blkCLK, blkTMP, blkLKT, blkAON] :=
  ⟨{ up with que := { running := [cmd 4 1 [], cmd 7 1 [], cmd 10 1 [], cmd 12 1 []] } }, 14, by decide +kernel⟩
theorem witness_faultsAndTamper_7_16 : ∃ (s : State) (n : Fin 32), s.awake = true ∧ n.val < 31 ∧ n.val ∉ [blkPWR, blkCLK, blkTMP, blkLKT, blkAON] :=
  ⟨{ up with que := { running := [cmd 4 1 [], cmd 7 1 [], cmd 10 1 [], cmd 12 1 []] } }, 16, by decide +kernel⟩
theorem witness_faultsAndTamper_7_20 : ∃ (s : State) (n : Fin 32), s.awake = true ∧ n.val < 31 ∧ n.val ∉ [blkPWR, blkCLK, blkTMP, blkLKT, blkAON] :=
  ⟨{ up with que := { running := [cmd 4 1 [], cmd 7 1 [], cmd 10 1 [], cmd 12 1 []] } }, 20, by decide +kernel⟩
theorem witness_faultsAndTamper_7_23 : ∃ (s : State) (n : Fin 32), s.awake = true ∧ n.val < 31 ∧ n.val ∉ [blkPWR, blkCLK, blkTMP, blkLKT, blkAON] :=
  ⟨{ up with que := { running := [cmd 4 1 [], cmd 7 1 [], cmd 10 1 [], cmd 12 1 []] } }, 23, by decide +kernel⟩
theorem witness_faultsAndTamper_8 : ∃ (s : State) (n : Fin 32) (k : BitVec 8), n.val ∈ [blkPWR, blkCLK, blkTMP, blkLKT, blkAON, 31] :=
  ⟨up, 31, 0xC3, by decide +kernel⟩
theorem witness_faultsAndTamper_8_b : ∃ (s : State) (n : Fin 32) (k : BitVec 8), n.val ∈ [blkPWR, blkCLK, blkTMP, blkLKT, blkAON, 31] :=
  ⟨up, BitVec.toFin (BitVec.ofNat 5 blkTMP), 0xC3, by decide +kernel⟩
theorem witness_faultsAndTamper_9 : ∃ (s : State) (n : Fin 31), s.awake = true :=
  ⟨up, 17, by decide +kernel⟩
theorem witness_faultsAndTamper_9_b : ∃ (s : State) (n : Fin 31), s.awake = true :=
  ⟨up, 18, by decide +kernel⟩
theorem witness_faultsAndTamper_12 : ∃ (s : State) (m : Fin 8) (a : Nat), s.awake = true ∧ sharedLo ≤ a ∧ a < sharedHi :=
  ⟨up, 2, sharedLo, by decide +kernel⟩
theorem witness_faultsAndTamper_12_b : ∃ (s : State) (m : Fin 8) (a : Nat), s.awake = true ∧ sharedLo ≤ a ∧ a < sharedHi :=
  ⟨up, 2, sharedHi - 1, by decide +kernel⟩
theorem witness_faultsAndTamper_13 : ∃ (s : State) (m : Fin 8) (a : Nat) (b : Bool), s.awake = true ∧ 0x10000000 ≤ a ∧ a < sharedLo :=
  ⟨up, 1, 0x10000000, false, by decide +kernel⟩
theorem witness_faultsAndTamper_13_b : ∃ (s : State) (m : Fin 8) (a : Nat) (b : Bool), s.awake = true ∧ 0x10000000 ≤ a ∧ a < sharedLo :=
  ⟨up, 1, sharedLo - 1, true, by decide +kernel⟩

end Sys2Proof.Tests

end
end

section
/-! SUPPORT and CLAIMS. Accesses that end in a bus error: what the bus-fault record holds afterwards and what it leaves alone (R853), accesses outside the address map (R20), and the
debug master after the lock (R23). -/
namespace Sys2Proof.Machine

/-! ## Which field a store key belongs to -/

/-- A store key names its field's number. -/
theorem Field.key_div (f : Field) (i b : Nat) : f.key i b / 134217728 = f.id := by
  unfold Field.key
  omega

/-- Fields with different numbers never share a key. -/
theorem Field.key_ne_of_id_ne {f g : Field} (h : f.id ≠ g.id) (i b j c : Nat) : f.key i b ≠ g.key j c := fun hk =>
  h (by rw [← Field.key_div f i b, hk, Field.key_div])

/-- The blocks in the order in which `Reg.all` lists their tables. -/
def Reg.blockOrder : List Nat := [1, 2, 6, 28, 7, 8, 9, 10, 11, 12, 23, 13, 14, 15, 16, 17, 18, 19, 20, 21, 22, 5, 4, 3, 25, 0, 26, 27]

/-- The place of a field number in that order. -/
def Reg.tablePlace (id : Nat) : Nat := 256 * Reg.blockOrder.idxOf (id / 256) + id % 256

/-- The register tables list their fields by place: one comparison a field shows that no number comes twice. -/
theorem Reg.all_places_rise : (Reg.all.map (fun f => Reg.tablePlace f.id)).IsChain (· < ·) := by decide +kernel

/-- A field of the register tables is known by its number. -/
theorem Reg.eq_of_id_eq {f g : Field} (hf : f ∈ Reg.all) (hg : g ∈ Reg.all) (h : f.id = g.id) : f = g :=
  have hnodup := (List.isChain_iff_pairwise.mp Reg.all_places_rise).imp Nat.ne_of_lt
  List.inj_on_of_nodup_map hnodup hf hg (congrArg Reg.tablePlace h)

/-- The fields of SYS stand in the register tables, before those of CFG and TMP. -/
theorem Reg.mem_all_of_mem_fieldsSYS {f : Field} (hf : f ∈ Reg.fieldsSYS) : f ∈ Reg.all :=
  List.mem_append_left _ (List.mem_append_left _ (List.mem_append_right _ hf))

/-! ## Fields that are kept -/

theorem FieldsKept.trans {l : List Field} {s t u : State} (h : FieldsKept l s t) (k : FieldsKept l t u) : FieldsKept l s u :=
  fun f i b hl hf => (k f i b hl hf).trans (h f i b hl hf)

theorem FieldsKept.of_regs_eq {l : List Field} {s t : State} (h : t.regs = s.regs) : FieldsKept l s t := fun f i b _ _ => by
  simp only [State.regB, h]

/-- Storing a field of the tables keeps every other one. -/
theorem State.setB_fieldsKept {l : List Field} (s : State) {f : Field} (hl : f ∈ l) (hf : f ∈ Reg.all) (i b v : Nat) : FieldsKept l s (s.setB f i b v) := by
  intro g j c hgl hg
  refine State.regB_setB_ne s f g i b j c v (Field.key_ne_of_id_ne (fun hid => hgl ?_) j c i b)
  exact Reg.eq_of_id_eq hg hf hid ▸ hl

theorem State.set_fieldsKept {l : List Field} (s : State) {f : Field} (hl : f ∈ l) (hf : f ∈ Reg.all) (v : Nat) : FieldsKept l s (s.set f v) :=
  State.setB_fieldsKept s hl hf 0 0 v

theorem State.bump_fieldsKept {l : List Field} (s : State) {f : Field} (hl : f ∈ l) (hf : f ∈ Reg.all) : FieldsKept l s (s.bump f) :=
  State.setB_fieldsKept s hl hf 0 0 _

theorem State.raise_fieldsKept (l : List Field) (s : State) (e : Nat) : FieldsKept l s (s.raise e) := .of_regs_eq rfl

/-! ## Counters and events -/

theorem low_satInc (w n : Nat) : low w (satInc w n) = satInc w n := by
  have hw := Nat.two_pow_pos w
  refine low_of_lt ?_
  unfold satInc
  split <;> omega

/-- A saturating counter reads one more, up to its largest value. -/
@[simp] theorem State.reg_bump (s : State) (f : Field) : (s.bump f).reg f = satInc f.width (s.reg f) :=
  (State.reg_set s f _).trans (low_satInc _ _)

theorem State.reg_bump_ne (s : State) (f g : Field) (h : g.key 0 0 ≠ f.key 0 0) : (s.bump f).reg g = s.reg g := State.reg_set_ne s f g _ h

/-- A raised event is pending for masters 1, 2 and 3 (R750). -/
theorem State.raised_raise (s : State) {e : Nat} (he : e < 192) : Raised e (s.raise e) := by
  have hbit : ∀ v : BitVec 192, (v ||| 1#192 <<< e).getLsbD e = true := fun v => by simp [he]
  intro m h1 h3
  obtain rfl | rfl | rfl : m = 1 ∨ m = 2 ∨ m = 3 := by omega
  · exact hbit _
  · exact hbit _
  · exact hbit _

/-! ## The bus-fault record (R853) -/

/-- The fields of the bus-fault record. -/
def busFaultFields : List Field :=
  [Reg.SYS_BUSFAULT_INFO_KIND, Reg.SYS_BUSFAULT_INFO_MASTER, Reg.SYS_BUSFAULT_ADDR_ADDR, Reg.SYS_BUSFAULT_INFO_WRITE, Reg.SYS_BUSFAULT_INFO_COUNT,
    Reg.SYS_BUSFAULT_INFO_OVERRUN]

theorem mem_all_of_mem_busFaultFields : ∀ f ∈ busFaultFields, f ∈ Reg.all :=
  have hsys : ∀ f ∈ busFaultFields, f ∈ Reg.fieldsSYS := by decide
  fun f hf => Reg.mem_all_of_mem_fieldsSYS (hsys f hf)

/-- The first unread fault: its address, master, kind and direction are stored, and it is counted. -/
theorem State.busFault_first (s : State) (kind m a : Nat) (w : Bool) (h : s.reg Reg.SYS_BUSFAULT_INFO_COUNT = 0) :
    s.busFault kind m a w = (((((s.set Reg.SYS_BUSFAULT_ADDR_ADDR a).set Reg.SYS_BUSFAULT_INFO_MASTER m).set Reg.SYS_BUSFAULT_INFO_KIND kind).set
      Reg.SYS_BUSFAULT_INFO_WRITE (ofBool w)).bump Reg.SYS_BUSFAULT_INFO_COUNT).raise 190 := by
  simp [State.busFault, h]

/-- A later fault: OVERRUN is set, and the fault is counted. -/
theorem State.busFault_later (s : State) (kind m a : Nat) (w : Bool) (h : s.reg Reg.SYS_BUSFAULT_INFO_COUNT ≠ 0) :
    s.busFault kind m a w = ((s.set Reg.SYS_BUSFAULT_INFO_OVERRUN 1).bump Reg.SYS_BUSFAULT_INFO_COUNT).raise 190 := by
  simp [State.busFault, h]

/-- A bus fault changes registers and raises an event, no more. -/
theorem State.busFault_only (s : State) (kind m a : Nat) (w : Bool) : Only [.regs, .evt] s (s.busFault kind m a w) := by
  have hset : ∀ (u : State) (f : Field) (v : Nat), Only [.regs, .evt] u (u.set f v) := fun u f v => (u.set_only f v).mono (by simp)
  have hend : ∀ u : State, Only [.regs, .evt] u ((u.bump Reg.SYS_BUSFAULT_INFO_COUNT).raise 190) := fun u =>
    ((u.bump_only _).mono (by simp)).trans ((State.raise_only _ _).mono (by simp))
  by_cases h : s.reg Reg.SYS_BUSFAULT_INFO_COUNT = 0
  · rw [State.busFault_first s kind m a w h]
    exact (hset _ _ _).trans ((hset _ _ _).trans ((hset _ _ _).trans ((hset _ _ _).trans (hend _))))
  · rw [State.busFault_later s kind m a w h]
    exact (hset _ _ _).trans (hend _)

/-- A bus fault stores nothing outside its record. -/
theorem State.busFault_fieldsKept (s : State) (kind m a : Nat) (w : Bool) : FieldsKept busFaultFields s (s.busFault kind m a w) := by
  have hset : ∀ (u : State) {f : Field} (v : Nat), f ∈ busFaultFields → FieldsKept busFaultFields u (u.set f v) := fun u f v hf =>
    u.set_fieldsKept hf (mem_all_of_mem_busFaultFields f hf) v
  have hend : ∀ u : State, FieldsKept busFaultFields u ((u.bump Reg.SYS_BUSFAULT_INFO_COUNT).raise 190) := fun u =>
    have hc : Reg.SYS_BUSFAULT_INFO_COUNT ∈ busFaultFields := by decide
    (u.bump_fieldsKept hc (mem_all_of_mem_busFaultFields _ hc)).trans (State.raise_fieldsKept _ _ _)
  by_cases h : s.reg Reg.SYS_BUSFAULT_INFO_COUNT = 0
  · rw [State.busFault_first s kind m a w h]
    exact (hset _ _ (by decide)).trans ((hset _ _ (by decide)).trans ((hset _ _ (by decide)).trans ((hset _ _ (by decide)).trans (hend _))))
  · rw [State.busFault_later s kind m a w h]
    exact (hset _ _ (by decide)).trans (hend _)

/-- Every bus fault is counted. -/
theorem State.busFault_count (s : State) (kind m a : Nat) (w : Bool) :
    (s.busFault kind m a w).reg Reg.SYS_BUSFAULT_INFO_COUNT = satInc 16 (s.reg Reg.SYS_BUSFAULT_INFO_COUNT) := by
  by_cases h : s.reg Reg.SYS_BUSFAULT_INFO_COUNT = 0
  · rw [State.busFault_first s kind m a w h]
    simp (disch := decide) only [State.reg_raise, State.reg_bump, State.reg_set_ne]
    rfl
  · rw [State.busFault_later s kind m a w h]
    simp (disch := decide) only [State.reg_raise, State.reg_bump, State.reg_set_ne]
    rfl

/-- Every bus fault raises E_190. -/
theorem State.busFault_raised (s : State) (kind m a : Nat) (w : Bool) : Raised 190 (s.busFault kind m a w) := State.raised_raise _ (by decide)

/-- A bus fault whose operands fit their fields is recorded (R853). -/
theorem State.busFault_recorded (s : State) {kind m a : Nat} (w : Bool) (hk : kind < 4) (hm : m < 8) (ha : a < 2 ^ 32) :
    FaultRecorded kind m a w s (s.busFault kind m a w) := by
  refine ⟨fun h => ?_, s.busFault_count kind m a w, s.busFault_raised kind m a w, s.busFault_fieldsKept kind m a w, s.busFault_only kind m a w⟩
  rw [State.busFault_first s kind m a w h]
  simp (disch := decide) only [State.reg_raise, State.reg_bump_ne, State.reg_set_ne, State.reg_set]
  exact ⟨low_of_lt hk, low_of_lt hm, low_of_lt ha, low_of_lt (by cases w <;> decide)⟩

/-! ## Accesses outside the address map (R20) -/

/-- The masters of the interconnect have 3-bit numbers. -/
theorem State.lt_of_onBus {s : State} {m : Nat} (h : s.onBus m = true) : m < 8 := by
  simp only [State.onBus, Bool.or_eq_true, Bool.and_eq_true, beq_iff_eq] at h
  omega

theorem State.busWrite_of_unmapped (s : State) {a : Nat} (m width v : Nat) (h : regionOf a = none) :
    s.busWrite m a width v = (some stPOLICY, s.busFault kindDecode m a true) := by
  simp only [State.busWrite, h]

theorem State.busRead_of_unmapped (s : State) {a : Nat} (m width : Nat) (h : regionOf a = none) : s.busRead m a width = s.busEnds kindDecode m a false := by
  simp only [State.busRead, h]

theorem exec_unmappedAccess {s : State} {m a : Nat} (w : Bool) (hm : s.onBus m = true) (h : regionOf a = none) :
    exec (.unmappedAccess m a w) s = .next (s.busFault kindDecode m a w) := by
  show execUnmappedAccess m a w s = _
  simp [execUnmappedAccess, hm, h]

theorem exec_registerWrite {s : State} {m : Nat} (a width v : Nat) (hm : s.onBus m = true) :
    exec (.registerWrite m a width v) s = .next (s.busWrite m a width v).2 := by
  show execRegisterWrite m a width v s = _
  simp [execRegisterWrite, hm]

/-- A policy or decode error is no success. -/
theorem stPOLICY_ne_stOK : stPOLICY ≠ stOK := by decide

theorem some_stPOLICY_ne_some_stOK : some stPOLICY ≠ some stOK := fun h => stPOLICY_ne_stOK (Option.some.inj h)

/-- An access that ends in a bus error is no success, whatever its kind. -/
theorem State.busEnds_status_ne_stOK (s : State) (kind m a : Nat) (w : Bool) : (s.busEnds kind m a w).1 ≠ stOK := by
  show (if kind = kindOff then stBLOCKOFF else stPOLICY) ≠ stOK
  split
  · decide
  · exact stPOLICY_ne_stOK

/-- Settles O6: each of the three accesses is the bus fault of kind 0, which `State.busFault_recorded` describes. -/
theorem unmappedAccess : Obligations.UnmappedAccess := by
  intro s m a width v hm ha h
  have hrec : ∀ w, FaultRecorded 0 m a w s (s.busFault kindDecode m a w) := fun w => s.busFault_recorded w (by decide) (State.lt_of_onBus hm) ha
  have hwrite := s.busWrite_of_unmapped m width v h
  have hread := s.busRead_of_unmapped m width h
  refine ⟨⟨_, exec_unmappedAccess true hm h, hrec true⟩, ⟨_, exec_unmappedAccess false hm h, hrec false⟩,
    ⟨_, exec_registerWrite a width v hm, ?_⟩, ?_, ?_, ?_⟩
  · rw [hwrite]
    exact hrec true
  · rw [hwrite]
    exact some_stPOLICY_ne_some_stOK
  · rw [hread]
    exact s.busEnds_status_ne_stOK kindDecode m a false
  · rw [hread]
    rfl

/-! ## The debug master after the lock (R23) -/

/-- Nothing that holds nowhere holds for all of a range that is not empty. -/
theorem all_range_eq_false {n : Nat} (hn : 0 < n) {p : Nat → Bool} (h : ∀ i, p i = false) : (List.range n).all p = false :=
  List.all_eq_false.mpr ⟨0, List.mem_range.mpr hn, by simp [h]⟩

/-- An access that memory takes has at least one byte. -/
theorem bytes_pos_of_naturally {a width : Nat} (h : naturally a width = true) : 0 < width / 8 := by
  simp only [naturally, Bool.and_eq_true, Bool.or_eq_true, beq_iff_eq] at h
  omega

/-- The debug master writes no byte of the Locket (Table 01-4). -/
theorem State.mayWriteLkt_debug (s : State) (a : Nat) : s.mayWriteLkt 7 a = false := by
  simp [State.mayWriteLkt]

/-- Its writes through the Locket window are refused. -/
theorem State.windowWrite_debug (s : State) (a width v : Nat) : s.windowWrite 7 a width v = (some stPOLICY, s.busFault kindPolicy 7 a true) := by
  cases hn : naturally a width with
  | false => simp [State.windowWrite, hn]
  | true =>
    have hall := all_range_eq_false (bytes_pos_of_naturally hn) (fun i => s.mayWriteLkt_debug (a - lktBase + i))
    simp [State.windowWrite, hall]

section Locked
variable {s : State} (hl : s.jtagLocked = true)
include hl

theorem State.mayReadLkt_locked (a : Nat) : s.mayReadLkt 7 a = false := by
  simp [State.mayReadLkt, hl]

theorem State.memServes_locked (a : Nat) (r : Region) (w : Bool) : s.memServes 7 a r w = false := by
  simp [State.memServes, hl]

theorem State.blockServes_locked (n : Nat) (w : Bool) : s.blockServes 7 n w = false := by
  simp [State.blockServes, State.mayReadBlock, hl]

theorem State.mayWriteField_locked (f : Field) : s.mayWriteField 7 f = false := by
  simp [State.mayWriteField, hl]

/-- Its reads through the Locket window are refused. -/
theorem State.windowRead_locked (a width : Nat) : s.windowRead 7 a width = s.busEnds kindPolicy 7 a false := by
  cases hn : naturally a width with
  | false => simp [State.windowRead, State.busEnds, kindPolicy, kindOff, hn]
  | true =>
    have hall := all_range_eq_false (bytes_pos_of_naturally hn) (fun i => State.mayReadLkt_locked hl (a - lktBase + i))
    simp [State.windowRead, State.busEnds, kindPolicy, kindOff, hall]

/-- The kind of the bus error in which an access ends that nothing serves: a decode error outside the address map, else a policy error (R20, R25). -/
def refusalKind (a : Nat) : Nat := if (regionOf a).isSome then kindPolicy else kindDecode

/-- Whatever the address, a write of the locked-out master ends in a bus error. -/
theorem State.busWrite_locked (a width v : Nat) :
    s.busWrite 7 a width v = (some stPOLICY, s.busFault (refusalKind a) 7 a true) := by
  cases hr : regionOf a with
  | none => simp [refusalKind, hr, s.busWrite_of_unmapped 7 width v hr]
  | some r =>
    cases r with
    | locket => simp [refusalKind, State.busWrite, hr, State.windowWrite_debug]
    | block n => simp [refusalKind, State.busWrite, State.blockWrite, hr, State.blockServes_locked hl]
    | _ => simp [refusalKind, State.busWrite, hr, State.memServes_locked hl]

/-- Whatever the address, a read of the locked-out master ends in a bus error. -/
theorem State.busRead_locked (a width : Nat) : s.busRead 7 a width = s.busEnds (refusalKind a) 7 a false := by
  cases hr : regionOf a with
  | none => simp [refusalKind, hr, s.busRead_of_unmapped 7 width hr]
  | some r =>
    cases r with
    | locket => simp [refusalKind, State.busRead, hr, State.windowRead_locked hl]
    | block n => simp [refusalKind, State.busRead, hr, State.blockServes_locked hl]
    | _ => simp [refusalKind, State.busRead, hr, State.memServes_locked hl]

/-- Its message is a refused write of MBX_TX_CTL.GO. -/
theorem exec_mailboxSend_locked : exec (.mailboxSend 7) s = .next (s.writeRefused 7 Reg.MBX_TX_CTL_GO) := by
  show execMailboxSend 7 s = _
  simp [execMailboxSend, State.mayWriteField_locked hl]

theorem State.ackBox_locked (b : Nat) : s.ackBox 7 b = s := by
  unfold State.ackBox
  split
  · rfl
  · simp [hl]

theorem State.claspRead_locked (k : Nat) : s.claspRead 7 k = (0, s) := by
  simp [State.claspRead, hl]

theorem State.claspWrite_locked (k v : Nat) : s.claspWrite 7 k v = s := by
  simp [State.claspWrite, hl]

end Locked

/-- Settles O7: each access of the locked-out master ends in a bus fault, its message too, and its acknowledgements and Clasp accesses do nothing. -/
theorem debugLockedOut : Obligations.DebugLockedOut := by
  refine ⟨fun s a width v hl => ?_, fun s b k v hl => ?_⟩
  · rw [State.busWrite_locked hl, State.busRead_locked hl]
    exact ⟨some_stPOLICY_ne_some_stOK, s.busFault_only (refusalKind a) 7 a true, s.busEnds_status_ne_stOK (refusalKind a) 7 a false, rfl,
      s.busFault_only (refusalKind a) 7 a false⟩
  · exact ⟨⟨_, exec_mailboxSend_locked hl, s.busFault_raised _ _ _ _, s.busFault_only _ _ _ _⟩, ⟨_, rfl, State.ackBox_locked hl b⟩,
      ⟨_, rfl, congrArg Prod.snd (State.claspRead_locked hl k)⟩, ⟨_, rfl, State.claspWrite_locked hl k v⟩⟩

end Sys2Proof.Machine
end
